-- ==== Sys2Proof/Word.lean ====
section
/-! DEFINITION. The word types of the model: a byte, a 16-bit half, a 32-bit word (registers, Basin words, scan
words) and a 64-bit double word (bit patterns of binary64 numbers). Counts, times, addresses and indexes are plain
natural numbers. -/

namespace Sys2Proof

/-- A byte of the Basin, of the xSPI memory, of a frame. -/
abbrev Byte := BitVec 8

/-- A 16-bit value: a converter or test code. -/
abbrev Half := BitVec 16

/-- A 32-bit word: a register (R431), a Basin word (R107), a scan code register (R214). -/
abbrev Word := BitVec 32

/-- A 64-bit value: a hash, the bits of a binary64 number. -/
abbrev DWord := BitVec 64

end Sys2Proof
end

