-- ==== Sys2Proof/Machine/Sparse.lean ====
section
/-! DEFINITION. Sparse contents by key: a list of (key, value) pairs in one canonical form. Keys rise strictly,
and no entry holds what an unlisted key reads as. Registers, the Basin, the xSPI memory and every table of lanes,
slots, stations and channels are held so. What an unlisted key reads as is the first argument of each operation. -/

namespace Sys2Proof.Machine

/-- Contents by key. -/
abbrev Sparse (α : Type) := List (Nat × α)

/-- The value at key k. -/
def Sparse.get {α : Type} (d : Nat → α) : Sparse α → Nat → α
  | [], k => d k
  | (j, v) :: r, k => if k = j then v else if k < j then d k else Sparse.get d r k

/-- The contents with value v at key k; an entry equal to what the key reads as by itself is not listed. -/
def Sparse.set {α : Type} [DecidableEq α] (d : Nat → α) : Sparse α → Nat → α → Sparse α
  | [], k, v => if v = d k then [] else [(k, v)]
  | (j, w) :: r, k, v =>
    if k = j then (if v = d k then r else (k, v) :: r)
    else if k < j then (if v = d k then (j, w) :: r else (k, v) :: (j, w) :: r)
    else (j, w) :: Sparse.set d r k v

/-- Every key of the contents lies above b. -/
def Sparse.above {α : Type} (b : Nat) : Sparse α → Bool
  | [] => true
  | (j, _) :: _ => decide (b < j)

/-- The canonical form: keys strictly rising, no entry equal to what an unlisted key reads as. -/
def Sparse.wf {α : Type} [DecidableEq α] (d : Nat → α) : Sparse α → Bool
  | [] => true
  | (j, v) :: r => Sparse.above j r && decide (v ≠ d j) && Sparse.wf d r

/-- The contents without the entries whose key satisfies p. -/
def Sparse.drop {α : Type} (p : Nat → Bool) (m : Sparse α) : Sparse α :=
  m.filter fun e => !p e.1

/-- Contents whose unlisted keys all read as one value. -/
def Sparse.at {α : Type} (i : α) (m : Sparse α) (k : Nat) : α := Sparse.get (fun _ => i) m k

/-- Writing into contents whose unlisted keys all read as one value. -/
def Sparse.put {α : Type} [DecidableEq α] (i : α) (m : Sparse α) (k : Nat) (v : α) : Sparse α :=
  Sparse.set (fun _ => i) m k v

/-- One entry changed by a function. -/
def Sparse.mod {α : Type} [DecidableEq α] (i : α) (m : Sparse α) (k : Nat) (f : α → α) : Sparse α :=
  Sparse.put i m k (f (Sparse.at i m k))

end Sys2Proof.Machine
end

