-- ==== Sys2Proof/Syntax.lean ====
section
/-! DEFINITION. The commands the device takes from outside, one constructor per row of spec/opcode_table.json.
The table gives the rows no operands; the operands here are what each row's rule says arrives with it: the frame,
the measured value, the channel, the value written. Positions are 1 A, 2 B, 3 C; siblings and links are 0 up,
1 down (R37). -/

namespace Sys2Proof

/-- A Yarnan frame as received (R38): KIND, FLAGS, LEN as stated in the header, SEQ, REF, payload and CRC. -/
structure LinkFrame where
  kind : Byte
  flags : Byte
  len : Half
  seq : Word
  ref : DWord
  payload : List Byte
  crc : Word
  deriving DecidableEq, Repr

/-- What an access through BAR2 does (R377): write bytes, or read; a read may find an error in one of its words, uncorrectable or
corrected (R110). -/
inductive Bar2Op where
  | write (bytes : List Byte)
  | read (ecc : Option (Bool × Fin 129))
  deriving DecidableEq, Repr

/-- The commands of the device: one constructor per row of the command table, in its order. -/
inductive Instr where
  /-- MAIN_SUPPLY_RETURN (R438). Return of main supply releases a main power-on reset and starts start-up from step 1. -/
  | mainSupplyReturn
  /-- MAIN_SUPPLY_LOSS (R34). A main supply leaves its operating range, giving a main power-on reset of every domain except the Spring and a transition to Sleep. -/
  | mainSupplyLoss
  /-- SPRING_POWER_ON (R349). The Spring rail falls below 1.6 V and rises again, resetting all 14 domains and all Spring state. -/
  | springPowerOn
  /-- RESET_N_LOW (R34). RESET_N held low for at least 10 µs resets all domains except the Spring and the Reservoir, outside Sleep. -/
  | resetNLow
  /-- WAKE_N_LOW (R18). WAKE_N going low in Sleep starts a wake. -/
  | wakeNLow
  /-- FREEZE_N_LOW (R416). FREEZE_N low for at least 1 µs stops all clocks except the Spring crystal and the RC oscillator, and the device enters Frozen. -/
  | freezeNLow
  /-- SYS_SWRST_WRITE (R35). A write of 0x0000_A5A5 to SYS_SWRST resets the device in Commission or Safe, and is refused in Run or Degraded. -/
  | sysSwrstWrite (value : Word)
  /-- SYS_BOOT_CTRL_GO (R30). A write of GO loads the host image from the Basin staging region during start-up. -/
  | sysBootCtrlGo
  /-- POWER_GOOD_FILTER_EXPIRY (R27). Expiry of the Spring power-good filter samples the straps where due and releases the Weir domain from reset. -/
  | powerGoodFilterExpiry (selfTestOk xtalOk plls : Bool) (pos boot : Fin 4) (aoAlm : Bool)
  /-- JOIN_WAIT_EXPIRY (R29). At the end of SYS_JOIN_WAIT a member without agreeing siblings enters Commission. -/
  | joinWaitExpiry
  /-- DEVICE_WATCHDOG_EXPIRY (R90). The device watchdog expires without service in Run or Degraded and raises an E3 with cause WDT. -/
  | deviceWatchdogExpiry
  /-- WEIR_WATCHDOG_RESET (R90). 10 ms after a device watchdog expiry, a Weir watchdog reset resets all domains except the Spring and the Reservoir. -/
  | weirWatchdogReset
  /-- LOCK_WATCHDOG_EXPIRY (R116). A Basin lock held for 4,096 cycles is broken, and an E2 LOCK_BREAK is raised against its owner. -/
  | lockWatchdogExpiry (bank : Fin 16)
  /-- FIELD_LINK_WATCHDOG_EXPIRY (R90). 1 ms without a valid die-to-die link frame raises an E3 FIELD_LINK, and the field die sets the power-up state. -/
  | fieldLinkWatchdogExpiry
  /-- CLOCK_MONITOR_WINDOW (R89). At the end of each 1 ms RC window, the crystal edge count is checked, and two bad windows raise an E3 CLK_FAIL. -/
  | clockMonitorWindow (count : Nat)
  /-- WEIR_PERIODIC_TEST (R101). Every 10 s of RC time the Weir tests its voter and error manager, and a failure raises an E3 PER_FAIL. -/
  | weirPeriodicTest (failed : Option Nat)
  /-- CONFIGURATION_REHASH (R101). Every 3,600 s the read-only image regions are re-hashed against the fingerprint, and a change raises an E3 REHASH. -/
  | configurationRehash (changed : Option (Fin 32))
  /-- SOLVER_LANE_TEST (R101). Every 10 s each solver lane is tested in an idle gap, and a failing lane is removed with an E2 LANE. -/
  | solverLaneTest (lane : Fin 256) (pass : Bool)
  /-- CONVERTER_REFERENCE_CHECK (R101). Every second each converter core checks its internal reference, and a drift beyond 0.1 % raises an E1 REF. -/
  | converterReferenceCheck (core : Fin 8) (ppm : Int)
  /-- BASIN_SCRUB (R110). The scrub reads and corrects a Basin word in a free bank cycle, or forces a cycle after 65,536 cycles without one. -/
  | basinScrub (bank : Fin 16) (found : Option (Bool × Fin 8))
  /-- EVENT_RAISE (R94). An event reaches the error manager, which logs it and activates, queues, escalates or suspends handlers. -/
  | eventRaise (cls : Fin 5) (page : Fin 50) (idx : Half) (cause : Byte) (detail : BitVec 24)
  /-- HANDLER_COMPLETE (R95). A handler completes, and suspended or queued handlers resume or start. -/
  | handlerComplete
  /-- ERR_INJECT_WRITE (R104). A write of ERR_INJECT raises a test event with cause 0xFF in Commission, and is refused otherwise. -/
  | errInjectWrite (value : Word)
  /-- ERR_LOG_POP (R104). A write of POP moves the oldest log entry into the ERR_LOG read registers and removes it. -/
  | errLogPop
  /-- JUNCTION_TEMPERATURE (R407). A die temperature crossing 115 °C or 125 °C raises TEMP_WARN or the E3 TEMP. -/
  | junctionTemperature (field : Bool) (deg : Int)
  /-- PLL_UNLOCK (R409). A PLL out of lock for more than 2 µs while its domains are powered raises an E3 PLL_UNLOCK. -/
  | pllUnlock (n : Fin 3)
  /-- YARNAN_SIGNAL_DETECT (R42). A signal detected on a Down link starts Training. -/
  | yarnanSignalDetect (link : Fin 2) (ns : Nat)
  /-- LINK_TRAINING_TIMEOUT (R42). 1 ms of Training without success returns the link to Down. -/
  | linkTrainingTimeout (link : Fin 2) (ns : Nat)
  /-- LINK_SILENCE_TIMEOUT (R42). 100 µs without a valid frame or idle sequence on an Up link takes it Down. -/
  | linkSilenceTimeout (link : Fin 2) (ns : Nat)
  /-- LINK_FAULT_TIMEOUT (R42). 10 ms after entering Fault the link returns to Training. -/
  | linkFaultTimeout (link : Fin 2) (ns : Nat)
  /-- IDLE_SEQUENCE (R42). A received idle sequence proves the partner and the link alive for the Down rule. -/
  | idleSequence (link : Fin 2) (ns : Nat) (bytes : List Byte)
  /-- CYCLE_IMAGE_FRAME (R39). A received Cycle image frame delivers a sibling's output image runs and latch runs for a scan cycle. -/
  | cycleImageFrame (link : Fin 2) (ns : Nat) (flags : Byte) (seq : Word) (ref : DWord) (payload : List Byte) (crc : Word)
  /-- VOTE_FRAME (R40). A received Vote frame delivers a sibling's image hashes and mismatch masks. -/
  | voteFrame (link : Fin 2) (ns : Nat) (flags : Byte) (seq : Word) (ref : DWord) (payload : List Byte) (crc : Word)
  /-- GROUP_HASH_FRAME (R80). A received Group hash frame delivers a proposal, an abort vote or an outcome for a commit group. -/
  | groupHashFrame (link : Fin 2) (ns : Nat) (flags : Byte) (seq : Word) (ref : DWord) (payload : List Byte) (crc : Word)
  /-- TIME_FRAME (R48). A received Time frame gives a sibling's PTP time and Spring count, from which the member forms the sibling's offset. -/
  | timeFrame (link : Fin 2) (ns : Nat) (delay : Half) (flags : Byte) (seq : Word) (ref : DWord) (payload : List Byte) (crc : Word)
  /-- HEALTH_FRAME (R39). A received Health frame delivers a sibling's role, mode, pending class, version, fingerprint, leg readbacks and input values. -/
  | healthFrame (link : Fin 2) (ns : Nat) (delay : Half) (flags : Byte) (seq : Word) (ref : DWord) (payload : List Byte) (crc : Word)
  /-- BULK_FRAME (R60). A received Bulk frame writes Basin contents during a rejoin. -/
  | bulkFrame (link : Fin 2) (ns : Nat) (flags : Byte) (seq : Word) (ref : DWord) (payload : List Byte) (crc : Word)
  /-- FRAME_RELAY (R43). A frame addressed to the third member is forwarded over the other link with RELAYED set. -/
  | frameRelay (link : Fin 2) (ns : Nat) (kind flags : Byte) (seq : Word) (ref : DWord) (payload : List Byte) (crc : Word)
  /-- HEALTH_FRAME_SEND (R309). 150 µs after each base tick edge the member sends its Health frame with its own input values. -/
  | healthFrameSend (ns : Nat)
  /-- TIME_EXCHANGE_COMPLETE (R48). When all Time frames are held or SIB_CYC_TMO passes, the member applies the median or mean offset and counts time minority events. -/
  | timeExchangeComplete (ns : Nat)
  /-- SIBLING_LOST (R55). No valid frame from a sibling for SIB_LOST_T marks it lost and sidelined. -/
  | siblingLost (sib : Fin 2) (ns : Nat)
  /-- ISOLATION_FRAME (R66). A received isolation line frame sets the masks that open or close the series switches of the legs. -/
  | isolationFrame (line : Fin 2) (frame : BitVec 20)
  /-- ISOLATION_LINE_TIMEOUT (R66). No valid isolation frame for 2 base ticks makes the line count as asserting all eight bits. -/
  | isolationLineTimeout (line : Fin 2)
  /-- LEG_DEVIATION (R65). A leg off its share by more than 0.32 mA for FILT base ticks deviates, and the siblings assert its isolation bit. -/
  | legDeviation (sib : Fin 2) (leg : Fin 8)
  /-- BULK_COPY_COMPLETE (R60). Completion of the Bulk copy moves the rejoin to the shadow period at the next scan cycle boundary. -/
  | bulkCopyComplete
  /-- BULK_COPY_TIMEOUT (R61). A Bulk copy still incomplete 200 ms after it began is abandoned, and the rejoin fails. -/
  | bulkCopyTimeout (ns : Nat)
  /-- REJOIN_IMAGE_RECEIVED (R60). The joiner verifies and applies the image received from its up sibling. -/
  | rejoinImageReceived (header body : List Byte)
  /-- SHADOW_COMPLETE (R60). After SHADOW_CYC clean shadow cycles the Weirs stage the vote-in group. -/
  | shadowComplete
  /-- AUTO_REJOIN_ADMISSION (R59). With AUTO_REJOIN set, the Weirs stage an admission group for an admissible position at most once per 60 s. -/
  | autoRejoinAdmission (pos : Fin 4) (ns : Nat)
  /-- TXN_OPEN (R75). TXN_CMD OP 1 opens a Free group, or is refused. -/
  | txnOpen (group : Fin 16)
  /-- TXN_ARM (R76). TXN_CMD OP 2 arms an Open group, computes its hash and proposes its boundary, or is refused. -/
  | txnArm (group : Fin 16)
  /-- TXN_ABORT (R83). TXN_CMD OP 3 aborts a group, casting an abort vote in a triplet for an Armed or Agreed group. -/
  | txnAbort (group : Fin 16)
  /-- TXN_STAGE_DATA_WRITE (R73). A write of TXN_STAGE_DATA stages a Basin word at WADDR into the selected group, or is refused. -/
  | txnStageDataWrite (value : Word)
  /-- RWS_WRITE (R71). A write to an RWS register is staged into the group selected by the page's TXN_SEL, or is refused. -/
  | rwsWrite (adr : BitVec 18) (value : Word)
  /-- TXN_GRP_CFG_WRITE (R84). A write of TXN_GRP_CFG sets kind and slot of an Open group, and with SUP_EN names a group to supersede. -/
  | txnGrpCfgWrite (group : Fin 16) (value : Word)
  /-- GROUP_BOUNDARY (R79). A group's boundary arrives, and the group is applied if Agreed or aborted LATE or NO_AGREE if still Armed. -/
  | groupBoundary (group : Fin 16)
  /-- GROUP_APPLY (R85). The transaction unit applies all RWS entries in one cycle and the Basin entries under locks on every bank touched. -/
  | groupApply (group : Fin 16)
  /-- OUTCOME_COMPARE (R82). When all outcomes are held or the repetition ends, the member compares group outcomes and sidelines a minority or raises an E4. -/
  | outcomeCompare (group : Fin 16)
  /-- OUTCOME_REPEAT_END (R82). Outcome frames stop after 16 completed scan cycles, or 16 base ticks while the scan engine is stopped. -/
  | outcomeRepeatEnd (group : Fin 16)
  /-- BASIN_REQUEST (R112). A requester's beat request to a bank is granted by rank and cyclic pointer, or waits. -/
  | basinRequest (bank : Fin 16) (req : Option (Fin 12)) (ecc : Option (Bool × BitVec 20))
  /-- BASIN_LOCK_ACQUIRE (R115). A grant without data acquires a lock on a bank, refused below an already held bank. -/
  | basinLockAcquire (req : Fin 12) (bank : Fin 16)
  /-- BASIN_LOCK_RELEASE (R115). A last data beat or an empty grant releases a held lock, and a 65th beat request releases it with a refusal. -/
  | basinLockRelease (req : Fin 12) (bank : Fin 16) (ask : Bool)
  /-- BSN_RANK_WRITE (R117). A write of BSN_RANK changes requester ranks with the timing the requester's state gives. -/
  | bsnRankWrite (reg : Fin 2) (value : Word)
  /-- REQUESTER_MASK (R114). A requester whose domain goes into reset or off is masked and its pending requests are dropped. -/
  | requesterMask (req : Fin 12)
  /-- MON_SNAP (R119). MON_CTRL.SNAP copies live minimum, maximum and bins into the read registers. -/
  | monSnap (page : Fin 50)
  /-- MON_CLR (R119). MON_CTRL.CLR clears the live monitor data. -/
  | monClr (page : Fin 50)
  /-- MON_SEL_WRITE (R119). A write of MON_SEL selects a monitor quantity and clears the live data. -/
  | monSelWrite (page : Fin 50) (value : Word)
  /-- MON_ALL_SNAP (R121). MON_ALL.SNAP snapshots every page's monitor in the same cycle. -/
  | monAllSnap
  /-- MON_ALL_CLR (R121). MON_ALL.CLR clears every page's live monitor data. -/
  | monAllClr
  /-- MON_ALL_ARM (R121). MON_ALL.ARM arms a snapshot of all monitors at MON_SNAP_AT. -/
  | monAllArm
  /-- MON_ARMED_SNAPSHOT (R121). PTP time reaches MON_SNAP_AT, and every monitor is snapshot. -/
  | monArmedSnapshot
  /-- BASE_TICK (R11). A base tick edge every 250 µs on PTP time applies committing groups, then samples loops, writes agreed inputs and drives timed outputs. -/
  | baseTick (sense : List (Nat × Nat × Nat))
  /-- STATION_CYCLE_START (R246). At each station cycle start, groups commit, group reports are written, stations are evaluated, and the sequencer and shed release run. -/
  | stationCycleStart
  /-- SNAPSHOT_INSTANT (R15). At the snapshot instant the gather unit copies the cycle's measurement map and substitutes into context 0, and the light integral is updated. -/
  | snapshotInstant
  /-- SOLVER_TRIGGER (R138). A snapshot, period multiple, START commit or source publication triggers a context, or is counted as an overrun. -/
  | solverTrigger (ctx : Fin 4)
  /-- SOLVER_RUN_START (R141). A ready context takes the fabric, activates a pending swap, applies delta lists, reads its initial-state map and chooses its warm start. -/
  | solverRunStart (ctx : Fin 4)
  /-- CONTEXT_PREEMPT (R139). A higher-priority ready context starts at the end of the running step, and the interrupted one is checkpointed. -/
  | contextPreempt (ctx : Fin 4)
  /-- CONTEXT_RESUME (R13). A checkpointed context resumes once the higher context's scatter is complete. -/
  | contextResume (ctx : Fin 4)
  /-- GATHER_STEP (R161). A gather step converts the gathered values into the MEAS objects and sets the weight modifiers. -/
  | gatherStep (ctx : Fin 4)
  /-- KERNEL_STEP (R137). A kernel step applies an elementwise function to its operands. -/
  | kernelStep (ctx : Fin 4)
  /-- PRODUCT_STEP (R159). A product step forms a matrix-vector or matrix-matrix product in fixed point. -/
  | productStep (ctx : Fin 4)
  /-- FACTOR_STEP (R165). A factor step forms LDLᵀ with static pivots, replacing small pivots. -/
  | factorStep (ctx : Fin 4)
  /-- SOLVE_STEP (R166). A solve step applies the factor and, where due, one refinement. -/
  | solveStep (ctx : Fin 4)
  /-- REDUCE_STEP (R159). A reduce step computes a dot product, norm or maximum. -/
  | reduceStep (ctx : Fin 4)
  /-- RESID_TEST (R168). A RESID test computes a relative residual and records whether it passes. -/
  | residTest (ctx : Fin 4)
  /-- LOOP_TEST (R169). A LOOP test ends an iteration and converges, caps, checks the deadline or branches back. -/
  | loopTest (ctx : Fin 4)
  /-- MERIT_TEST (R170). A MERIT test keeps a copy of the iterate when its merit is the best so far. -/
  | meritTest (ctx : Fin 4)
  /-- BADDATA_TEST (R172). A BADDATA test finds the largest normalised residual above threshold and removes or keeps the suspect. -/
  | baddataTest (ctx : Fin 4)
  /-- INFEAS_TEST (R171). An INFEAS test ends the run as INFEASIBLE_SUSPECT after SLC_INFEAS_N failing iterations. -/
  | infeasTest (ctx : Fin 4)
  /-- SCATTER_STEP (R162). The scatter writes the returned iterate to the unpublished window half, stages any plan, and stages the publication group. -/
  | scatterStep (ctx : Fin 4)
  /-- BARRIER_AGREED (R174). When every voting sibling's mark agrees, the member aborts the sync group and runs the next step. -/
  | barrierAgreed (ctx : Fin 4)
  /-- BARRIER_TIMEOUT (R175). Marks not agreed within SIB_CYC_TMO change continue to deadline and re-solve to accept. -/
  | barrierTimeout (ctx : Fin 4)
  /-- SYNC_WAIT_EXPIRY (R176). A sibling whose mark has not arrived within SLC_SYNC_WAIT is dropped, with an E1, E2 or E3 as the case gives. -/
  | syncWaitExpiry (ctx : Fin 4)
  /-- TEST_GENERATOR_END (R201). A generator stops after LEN samples or on RUN = 0 and sets DONE. -/
  | testGeneratorEnd (gen : Fin 8)
  /-- CAPTURE_DONE (R204). A capture unit that has recorded TOTAL − PRE post samples writes its header and reaches done. -/
  | captureDone (unit : Fin 4)
  /-- SATURATION_WINDOW_END (R205). At the end of a supervision window the slot raises or clears its saturation alarm. -/
  | saturationWindowEnd (slot : Fin 512)
  /-- SCAN_CYCLE_START (R54). A member starts scan cycle N+1 when it holds both siblings' images, agreeing the latch and fixing the cycle time in phase 1 and calling the error task in phase 2. -/
  | scanCycleStart (ns : Nat)
  /-- CYCLE_IMAGE_TIMEOUT (R440). SIB_CYC_TMO passes without complete sibling images, and the member votes what it holds. -/
  | cycleImageTimeout (ns : Nat)
  /-- CYCLE_ZERO_LATCH (R441). When cycle numbering restarts, each member takes and sends a latch for cycle 0. -/
  | cycleZeroLatch
  /-- PHASE_4 (R212). When phase 3 ends, inputs are latched, the output image is composed with forces, and Cycle image frames are sent. -/
  | phase4 (ns : Nat)
  /-- VOTE (R50). In phase 5 the images are voted and kind 1 and 2 groups commit, and phase 6 writes the scan state and serves the watchdog. -/
  | vote (ns : Nat)
  /-- SCAN_CYCLE_OVERRUN (R210). A cycle exceeding SCN_CYC_MAX is stopped with an E2 CYC, its state is restored, and it realigns to a sibling. -/
  | scanCycleOverrun (ns : Nat)
  /-- LOCKSTEP_MISMATCH (R208). A difference between the lockstep cores raises an E3 LOCKSTEP and suppresses the instruction's effect. -/
  | lockstepMismatch
  /-- NOP (R219). The NOP instruction has no effect. -/
  | nop (d a : BitVec 6) (b : BitVec 14)
  /-- LDB (R219). The LDB instruction loads an image bit into BA and sets F and S. -/
  | ldb (d a : BitVec 6) (b : BitVec 14)
  /-- ANDB (R219). The ANDB instruction ANDs an image bit into BA. -/
  | andb (d a : BitVec 6) (b : BitVec 14)
  /-- ORB (R219). The ORB instruction ORs an image bit into BA. -/
  | orb (d a : BitVec 6) (b : BitVec 14)
  /-- XORB (R219). The XORB instruction XORs an image bit into BA. -/
  | xorb (d a : BitVec 6) (b : BitVec 14)
  /-- STB (R219). The STB instruction stores BA into an image bit. -/
  | stb (d a : BitVec 6) (b : BitVec 14)
  /-- SRB (R219). The SRB instruction sets or resets an image bit when BA is 1. -/
  | srb (d a : BitVec 6) (b : BitVec 14)
  /-- TSTW (R219). The TSTW instruction copies a bit of a working register into BA. -/
  | tstw (d a : BitVec 6) (b : BitVec 14)
  /-- PUTB (R219). The PUTB instruction writes BA into a bit of a working register. -/
  | putb (d a : BitVec 6) (b : BitVec 14)
  /-- NOTB (R219). The NOTB instruction inverts BA. -/
  | notb (d a : BitVec 6) (b : BitVec 14)
  /-- EDGE (R219). The EDGE instruction detects a rising or falling edge of BA against edge bit n. -/
  | edge (d a : BitVec 6) (b : BitVec 14)
  /-- LDW (R221). The LDW instruction loads an image word, with agreed or view values per address. -/
  | ldw (d a : BitVec 6) (b : BitVec 14)
  /-- STW (R216). The STW instruction stores a word to the output region, or is discarded with an E1 STORE. -/
  | stw (d a : BitVec 6) (b : BitVec 14)
  /-- LDL (R219). The LDL instruction loads a local data word. -/
  | ldl (d a : BitVec 6) (b : BitVec 14)
  /-- STL (R219). The STL instruction stores a local data word. -/
  | stl (d a : BitVec 6) (b : BitVec 14)
  /-- LDI (R219). The LDI instruction loads a sign-extended immediate. -/
  | ldi (d a : BitVec 6) (b : BitVec 14)
  /-- LDHI (R219). The LDHI instruction loads the upper bits of a working register. -/
  | ldhi (d a : BitVec 6) (b : BitVec 14)
  /-- SEL (R219). The SEL instruction selects WA or B′ by BA. -/
  | sel (d a : BitVec 6) (b : BitVec 14)
  /-- AND (R219). The AND instruction forms a bitwise AND. -/
  | and (d a : BitVec 6) (b : BitVec 14)
  /-- OR (R219). The OR instruction forms a bitwise OR. -/
  | or (d a : BitVec 6) (b : BitVec 14)
  /-- XOR (R219). The XOR instruction forms a bitwise XOR. -/
  | xor (d a : BitVec 6) (b : BitVec 14)
  /-- SHL (R219). The SHL instruction shifts left. -/
  | shl (d a : BitVec 6) (b : BitVec 14)
  /-- SHR (R219). The SHR instruction shifts right logically. -/
  | shr (d a : BitVec 6) (b : BitVec 14)
  /-- SAR (R219). The SAR instruction shifts right arithmetically. -/
  | sar (d a : BitVec 6) (b : BitVec 14)
  /-- ADD (R220). The ADD instruction adds int32 with saturation. -/
  | add (d a : BitVec 6) (b : BitVec 14)
  /-- SUB (R220). The SUB instruction subtracts int32 with saturation. -/
  | sub (d a : BitVec 6) (b : BitVec 14)
  /-- MUL (R220). The MUL instruction multiplies int32 with saturation. -/
  | mul (d a : BitVec 6) (b : BitVec 14)
  /-- DIV (R220). The DIV instruction divides int32 with the special cases of R220. -/
  | div (d a : BitVec 6) (b : BitVec 14)
  /-- CMP (R219). The CMP instruction compares int32 values into BA. -/
  | cmp (d a : BitVec 6) (b : BitVec 14)
  /-- FADD (R220). The FADD instruction adds binary32 values. -/
  | fadd (d a : BitVec 6) (b : BitVec 14)
  /-- FSUB (R220). The FSUB instruction subtracts binary32 values. -/
  | fsub (d a : BitVec 6) (b : BitVec 14)
  /-- FMUL (R220). The FMUL instruction multiplies binary32 values. -/
  | fmul (d a : BitVec 6) (b : BitVec 14)
  /-- FDIV (R220). The FDIV instruction divides binary32 values. -/
  | fdiv (d a : BitVec 6) (b : BitVec 14)
  /-- FCVT (R219). The FCVT instruction converts between int32 and binary32. -/
  | fcvt (d a : BitVec 6) (b : BitVec 14)
  /-- FLIM (R220). The FLIM instruction limits a binary32 value between WA and B′. -/
  | flim (d a : BitVec 6) (b : BitVec 14)
  /-- FCMP (R219). The FCMP instruction compares binary32 values into BA. -/
  | fcmp (d a : BitVec 6) (b : BitVec 14)
  /-- JMP (R219). The JMP instruction jumps forward when its condition holds. -/
  | jmp (d a : BitVec 6) (b : BitVec 14)
  /-- LPB (R219). The LPB instruction pushes a loop count and address. -/
  | lpb (d a : BitVec 6) (b : BitVec 14)
  /-- LPE (R219). The LPE instruction decrements the loop count and jumps back or pops. -/
  | lpe (d a : BitVec 6) (b : BitVec 14)
  /-- CALL (R219). The CALL instruction pushes the return address and jumps. -/
  | call (d a : BitVec 6) (b : BitVec 14)
  /-- RET (R219). The RET instruction pops and jumps. -/
  | ret (d a : BitVec 6) (b : BitVec 14)
  /-- TMR (R223). The TMR instruction runs an on-delay, off-delay or pulse timer on BA. -/
  | tmr (d a : BitVec 6) (b : BitVec 14)
  /-- CTR (R223). The CTR instruction counts up, down, clears or loads a counter. -/
  | ctr (d a : BitVec 6) (b : BitVec 14)
  /-- TCRD (R219). The TCRD instruction reads a timer's elapsed time or a counter's count. -/
  | tcrd (d a : BitVec 6) (b : BitVec 14)
  /-- RDL (R219). The RDL instruction reads an agreed loop value. -/
  | rdl (d a : BitVec 6) (b : BitVec 14)
  /-- RDS (R219). The RDS instruction reads an agreed run record word. -/
  | rds (d a : BitVec 6) (b : BitVec 14)
  /-- RDQ (R219). The RDQ instruction reads an agreed quantity accumulator. -/
  | rdq (d a : BitVec 6) (b : BitVec 14)
  /-- RAISE (R219). The RAISE instruction produces a Sediment Condition record. -/
  | raise (d a : BitVec 6) (b : BitVec 14)
  /-- GRP_SELECT (R224). GRP with D = 0 selects the group into which STG and RSTG stage. -/
  | grpSelect (d3 : BitVec 3) (a : BitVec 6) (b : BitVec 14)
  /-- GRP_OPEN (R224). GRP with D = 1 opens a group with the given boundary kind. -/
  | grpOpen (d3 : BitVec 3) (a : BitVec 6) (b : BitVec 14)
  /-- GRP_ARM (R224). GRP with D = 2 arms a group. -/
  | grpArm (d3 : BitVec 3) (a : BitVec 6) (b : BitVec 14)
  /-- GRP_ABORT (R224). GRP with D = 3 aborts a group. -/
  | grpAbort (d3 : BitVec 3) (a : BitVec 6) (b : BitVec 14)
  /-- STG (R219). The STG instruction stages a Basin word into the selected group. -/
  | stg (d a : BitVec 6) (b : BitVec 14)
  /-- RSTG (R219). The RSTG instruction stages an RWS register write into the selected group. -/
  | rstg (d a : BitVec 6) (b : BitVec 14)
  /-- ERD (R219). The ERD instruction reads a field of the event being served. -/
  | erd (d a : BitVec 6) (b : BitVec 14)
  /-- ERET (R225). The ERET instruction ends the error task call and completes the event's handling. -/
  | eret (d a : BitVec 6) (b : BitVec 14)
  /-- PFX (R217). The PFX word supplies a payload to the next instruction. -/
  | pfx (payload : BitVec 10)
  /-- RESERVED_OPCODE (R222). A reserved opcode or malformed instruction ends the cycle with an E2 OPCODE. -/
  | reservedOpcode (word : Word)
  /-- STACK_FAULT (R222). A stack overflow or underflow ends the cycle with an E2 STACK. -/
  | stackFault
  /-- CODE_END (R222). A jump, call or execution beyond the last code word ends the cycle with an E2 CODE_END. -/
  | codeEnd
  /-- SCN_FORCE_KEY_WRITE (R230). A write of SCN_FORCE_KEY sets KEY_OK when it matches the image's force key and clears it otherwise. -/
  | scnForceKeyWrite (value : Word)
  /-- FORCE_KEY_EXPIRY (R230). KEY_OK clears SCN_KEY_TTL seconds after the last correct key write. -/
  | forceKeyExpiry
  /-- MEASUREMENT_FRAME (R242). An accepted station Measurement frame writes its point values into the input region. -/
  | measurementFrame (mac : Fin 8) (src : BitVec 48) (ip : Word) (datagram : List Byte)
  /-- JOIN_FRAME (R240). An accepted station Join frame records the station's identity, BOOT_COUNT and address. -/
  | joinFrame (mac : Fin 8) (src : BitVec 48) (ip : Word) (datagram : List Byte)
  /-- COMMAND_BUILD (R247). At BUILD_US after the cycle start each voting member builds the Command frames and queues them for launch. -/
  | commandBuild
  /-- ZERO_CROSSING (R283). An accepted rising zero crossing closes a period and, on FSRC, ends an energy window. -/
  | zeroCrossing (input : Fin 4)
  /-- ZERO_CROSSING_TIMEOUT (R284). No accepted crossing for NRG_ZC.TMO marks the voltage absent and starts fixed 20 ms windows. -/
  | zeroCrossingTimeout (input : Fin 4) (ns : Nat)
  /-- FIXED_WINDOW_END (R284). A fixed 20 ms no-voltage window ends. -/
  | fixedWindowEnd
  /-- UNDERFREQUENCY (R265). The UF_N-th consecutive period below UF_HZ makes a stage condition hold. -/
  | underfrequency (stage : Fin 8)
  /-- FEEDER_OVERLOAD (R265). RMS current above OVL_A for OVL_T ms makes a stage condition hold. -/
  | feederOverload (stage : Fin 8)
  /-- BLACKOUT (R272). Voltage absent for BLACKOUT_T raises L_own to 8 with an E1 BLACKOUT. -/
  | blackout (ns : Nat)
  /-- ENERGY_INTERVAL (R291). At each multiple of NRG_INT.S each running quantity writes an Energy interval record. -/
  | energyInterval
  /-- PERIODIC_SAVE (R293). Every NRG_SAVE.PERIOD seconds the Reservoir freezes and copies the buffer and writes it to an MRAM slot. -/
  | periodicSave
  /-- POWER_FAIL_DETECT (R294). PF_SENSE falling below 1.20 V starts the final commit of the buffer to MRAM. -/
  | powerFailDetect (whole dip : Bool) (us : Nat)
  /-- SPRING_PULSE_COUNT (R290). A Spring pulse input edge held for DEB ms increments the forward or reverse counter. -/
  | springPulseCount (input : Fin 8) (closed : Bool)
  /-- PULSE_OUTPUT_END (R298). A pulse output's width expires and its off time begins. -/
  | pulseOutputEnd (output : Fin 4)
  /-- SEQUENCE_TRIGGER (R307). A converter sequence trigger instant starts the sequence's steps on the 1 µs grid. -/
  | sequenceTrigger (seq : Fin 4) (ns : Nat)
  /-- ADC_TRIG_EDGE (R307). A rising edge on ADC_TRIG held 100 ns triggers a TRIG 3 sequence. -/
  | adcTrigEdge (ns : Nat)
  /-- CONVERSION (R306). A converter step converts on its cores, corrects the codes and updates values, queue and energy path. -/
  | conversion (ns : Nat) (codes : List Half)
  /-- QUEUE_DRAIN (R312). The queue drain writes queue entries into the Basin ring and advances ADC_RING_WR. -/
  | queueDrain (count : Fin 4097)
  /-- AIN_FAULT (R305). A fault condition holding or absent for FFILT conversions sets or clears the input fault. -/
  | ainFault (input : Fin 16)
  /-- AIN_SETTLING_END (R303). 10 ms after a mode change the input leaves settling. -/
  | ainSettlingEnd (input : Fin 16)
  /-- LOOP_SUPPLY_FAULT (R304). A loop supply in current limit or thermal shutdown beyond the fault filter raises an E1 SUPPLY. -/
  | loopSupplyFault (input : Fin 16) (thermal active : Bool)
  /-- ADC_DATA_READ (R313). A read of ADC_DATA returns VALID, OVR and VALUE and then clears VALID and OVR. -/
  | adcDataRead
  /-- COMPLIANCE (R316). Headroom below 2.0 V at 30 V supply for AOU_COMP_T sets a compliance fault, and its return clears it. -/
  | compliance (out : Fin 8) (set : Bool) (uA : Nat)
  /-- AOU_THERMAL (R317). A current-output stage at 115 °C goes to 0 mA with an E1 THERMAL until it cools. -/
  | aouThermal (out : Fin 8) (deg : Nat)
  /-- AOU_TEST_WRITE (R318). A write of AOU_TEST sets the leg to a test code in Commission, and is refused otherwise. -/
  | aouTestWrite (out : Fin 8) (value : Word)
  /-- DIO_SAMPLE (R324). Each digital channel samples at 218 µs after a base tick and updates its counter filter. -/
  | dioSample (samples : List (Nat × Nat × Nat × Bool))
  /-- FILTERED_STATE_CHANGE (R326). A channel's filter count reaching DEPTH or 0 changes its filtered state. -/
  | filteredStateChange (channel : Fin 32)
  /-- WIRE_BREAK (R325). Sink current below 0.15 mA for DEPTH samples reports a wire break, and its absence clears it. -/
  | wireBreak (channel : Fin 32) (uA : Nat)
  /-- OVERLOAD (R330). An output in current limit for 10 ms switches off with an E1 OVERLOAD. -/
  | overload (channel : Fin 32) (mA : Nat)
  /-- OVERLOAD_RETRY (R330). After RETRY seconds an overloaded output tries again. -/
  | overloadRetry (channel : Fin 32)
  /-- OVERTEMP (R330). An output stage at 115 °C turns off with an E1 OVERTEMP until it cools below 100 °C. -/
  | overtemp (channel : Fin 32) (deg : Nat)
  /-- READBACK (R331). A readback mismatch lasting 2 samples raises an E1 READBACK, or sets FED with PAR. -/
  | readback (channel : Fin 32)
  /-- OPEN_WIRE (R331). The off-state or on-state open-wire test reports an open wire with an E1. -/
  | openWire (channel : Fin 32)
  /-- DIO_TEST_WRITE (R328). A write of DIO_TEST_EN or DIO_TEST_VAL drives outputs in Commission, and is refused otherwise. -/
  | dioTestWrite (val : Bool) (value : Word)
  /-- PULSE_TEST_SLOT (R336). At an element's test slot, the Weir opens it if the test conditions hold. -/
  | pulseTestSlot (channel : Fin 8) (elem : Fin 2) (mA ns : Nat)
  /-- PULSE_TEST_RECLOSE (R337). When the element current falls to 1 mA or at 300 µs the Weir recloses the element and records pass or stuck closed. -/
  | pulseTestReclose (mA us : Nat)
  /-- PATH_OPEN (R338). An element carrying no current for 1 s while its partner conducts sets PATH_OPEN with an E1. -/
  | pathOpen (channel : Fin 8) (ia ib : Nat)
  /-- TRP_PT_CMD (R339). A write of TRP_PT_CMD closes an element for DUR µs in Commission and judges the current. -/
  | trpPtCmd (value : Word)
  /-- TRP_PT_CMD_END (R339). The DUR of a commissioning pulse command expires and the element opens. -/
  | trpPtCmdEnd (mA : Nat)
  /-- SPRING_TICK (R345). A Spring tick edge increments or loads the count and applies pending Spring writes, median writes and the compare. -/
  | springTick
  /-- SPR_TICK_LO_READ (R344). A read of SPR_TICK_LO returns the low count and latches the high bits into SPR_TICK_HI. -/
  | sprTickLoRead
  /-- SPR_SNAP (R344). A write of SPR_SNAP copies the count and civil offset in one cycle. -/
  | sprSnap (value : Word)
  /-- XTAL_STOP (R351). A gap of more than 100 µs without a 32.768 kHz edge sets XTAL_STOP, clears validity and raises an E2. -/
  | xtalStop
  /-- CELL_LOW (R351). VBAT below 2.2 V sets CELL_LOW and raises an E0. -/
  | cellLow (mV : Nat)
  /-- RAIL_SWITCH (R349). The Spring rail switches between VDD33 and VBAT. -/
  | railSwitch (toBattery : Bool)
  /-- PTP_INC_FRAC_WRITE (R353). A write of PTP_INC_FRAC applies the new increment, or is refused in Holdover. -/
  | ptpIncFracWrite (value : Word)
  /-- PTP_STEP_HI_WRITE (R353). A write of PTP_STEP_HI schedules a step for the next base tick, or is refused in Holdover. -/
  | ptpStepHiWrite (value : Word)
  /-- SYNC_MESSAGE (R356). A received Sync message of the configured domain is counted and ends Holdover. -/
  | syncMessage (mac : Fin 8) (domain : Byte) (ns : Nat)
  /-- HOLDOVER (R356). No Sync for PTP_HOLD.N intervals enters Holdover with an E0. -/
  | holdover (ns : Nat)
  /-- PPS_IN_EDGE (R357). A rising edge on PPS_IN is timestamped and sets PPS_SEEN. -/
  | ppsInEdge (ns : Nat)
  /-- PPS_OUT (R357). PPS_OUT rises at each whole PTP second and falls after PTP_PPS_W ms. -/
  | ppsOut (ns : Nat)
  /-- LAUNCH_DUE (R355). A queued frame's launch time is reached and it is sent, lowest queue first. -/
  | launchDue (mac : Fin 8) (ns : Nat)
  /-- ETHERNET_FRAME (R361). A received Ethernet frame is checked for size and VLAN and is consumed or passed to the host ring. -/
  | ethernetFrame (mac : Fin 8) (ns : Nat) (frame : List Byte) (fcsOk : Bool)
  /-- ARP_REQUEST (R364). An ARP request for the pair's address is answered. -/
  | arpRequest (mac : Fin 8) (message : List Byte)
  /-- ICMP_ECHO (R364). An ICMP echo request is answered up to 16 per second per pair. -/
  | icmpEcho (mac : Fin 8) (src : BitVec 48) (packet : List Byte)
  /-- IGMP_QUERY (R364). An IGMP query is answered with a membership report. -/
  | igmpQuery (mac : Fin 8) (packet : List Byte)
  /-- LLDPDU (R365). A received LLDPDU's chassis and port IDs are kept. -/
  | lldpdu (mac : Fin 8) (ns : Nat) (pdu : List Byte)
  /-- LLDP_TTL_EXPIRY (R365). A kept LLDP neighbour is discarded when its TTL expires. -/
  | lldpTtlExpiry (mac : Fin 8) (ns : Nat)
  /-- LLDP_TRANSMIT (R365). Every 30 s with LLDP_TX set the MAC sends an LLDPDU. -/
  | lldpTransmit (mac : Fin 8)
  /-- PRP_SUPERVISION (R368). Every 2 s supervision frames are sent on both LANs. -/
  | prpSupervision (pair : Fin 4)
  /-- LINK_DOWN (R362). An Ethernet link that drops raises an E0 LINK_DOWN. -/
  | linkDown (mac : Fin 8)
  /-- ETH_TX_CMD (R366). A write of ETH_TX_CMD queues a host frame for launch on queue 2 or 3, or is refused. -/
  | ethTxCmd (mac : Fin 8) (value : Word)
  /-- CAN_FRAME_RECEIVED (R372). A frame received without error enters the bus's receive queue, or is dropped when full. -/
  | canFrameReceived (bus : Fin 4) (ns : Nat) (xtd : Bool) (id : BitVec 29) (fd brs esi : Bool) (dlc : BitVec 4) (data : List Byte) (tec rec : BitVec 9)
  /-- CAN_TRANSMIT_END (R371). A CAN transmission ends, succeeding or retried or dropped after an error frame. -/
  | canTransmitEnd (bus : Fin 4) (result : Fin 3) (tec rec : BitVec 9)
  /-- BUS_OFF (R371). Entry into error passive or bus-off raises an E0 or an E1. -/
  | busOff (bus : Fin 4) (tec rec : BitVec 9)
  /-- BUS_OFF_RECOVERY (R371). After 128 occurrences of 11 recessive bits with AUTO_RECOV the bus recovers. -/
  | busOffRecovery (bus : Fin 4)
  /-- CAN_RX_POP (R372). A write of CAN_RX_POP removes the head entry of the receive queue. -/
  | canRxPop (bus : Fin 4) (value : Word)
  /-- CAN_TX_GO (R373). A write of CAN_TX_FLG.GO queues a host frame, or is refused when the buffer is full. -/
  | canTxGo (bus : Fin 4) (value : Word)
  /-- SER_TX_CMD (R375). A write of SER_TX_CMD starts an RS-485 transmission at once or at SER_TX_TIME, or is refused while busy. -/
  | serTxCmd (line : Fin 4) (value : Word)
  /-- SER_TRANSMIT_END (R375). An RS-485 transmission ends and the driver is released after TURN bit times. -/
  | serTransmitEnd (line : Fin 4)
  /-- SER_BYTE_RECEIVED (R376). A received RS-485 byte becomes an entry in the ring. -/
  | serByteReceived (line : Fin 4) (ns : Nat) (byte : Byte) (parity framing brk : Bool)
  /-- BAR2_ACCESS (R377). A PCI Express access through BAR2 reaches the Basin as requester 8. -/
  | bar2Access (addr : BitVec 26) (op : Bar2Op) (count : Fin 513)
  /-- HIF_REARM (R378). A write of HIF_REARM resends the MSI-X message of each active vector named. -/
  | hifRearm (value : Word)
  /-- HOST_SPI_TRANSACTION (R379). A host SPI transaction checks its CRCs and carries out its reads or writes. -/
  | hostSpiTransaction (bytes : List Byte) (wait : Fin 65) (ue : Option (Fin 64))
  /-- OSP_READ (R381). OSP_CMD OP 1 reads xSPI bytes into the Basin, or is refused. -/
  | ospRead
  /-- OSP_PROGRAM (R381). OSP_CMD OP 2 programs xSPI bytes from the Basin, or is refused. -/
  | ospProgram
  /-- OSP_ERASE (R381). OSP_CMD OP 3 erases an xSPI sector, or is refused. -/
  | ospErase
  /-- OSP_DONE (R381). An xSPI operation completes and the next queued one starts. -/
  | ospDone (ok : Bool)
  /-- BMI_POLL (R382). A due poll entry reads a PMBus command and writes the value or a failure. -/
  | bmiPoll (entry : Fin 16)
  /-- BMI_XFER (R382). A write of BMI_XFER.GO runs a host I2C transfer after the poll in progress. -/
  | bmiXfer (value : Word)
  /-- RECORD_PRODUCE (R394). A produced record receives its SEQ and enters the MRAM write queue, or is dropped when staging is full. -/
  | recordProduce (code : BitVec 16) (action : Fin 3) (source : BitVec 24) (value : Word)
  /-- RECORD_DURABLE (R394). A record and its CRC are written in MRAM, and SED_HEAD advances. -/
  | recordDurable
  /-- SUMMARY_INTERVAL (R387). At each multiple of SED_INT.S every enabled watched item writes an Interval summary record. -/
  | summaryInterval
  /-- HEALTH_RECORD (R102). At each multiple of 60 s a Sediment Health record is written. -/
  | healthRecord
  /-- BATCH_MOVE (R395). When N records wait or S seconds pass, a batch of records is moved to the xSPI ring. -/
  | batchMove (failed : Bool)
  /-- FOLD_RELEASE (R400). A repeat fold T seconds old is released to the MRAM queue. -/
  | foldRelease
  /-- SED_RD_GO (R398). A write of SED_RD_CMD.GO copies records into the Basin, or is refused while busy. -/
  | sedRdGo
  /-- SED_RD_DONE (R398). A record copy completes and DONE sets. -/
  | sedRdDone
  /-- DOMAIN_IDLE (R404). A domain without work for PWR_IDLE_T goes idle unless held. -/
  | domainIdle (domain : Fin 14)
  /-- DOMAIN_WAKE (R404). Scheduled work, a register write or a Basin request wakes an idle domain. -/
  | domainWake (domain : Fin 14)
  /-- BANK_LIGHT_SLEEP (R405). A Basin bank without a request for 2 µs enters light sleep. -/
  | bankLightSleep (bank : Fin 16)
  /-- DAILY_PLAN (R414). At WER_CTRL.AT the member measures wear, re-plans guardband, derating, recalibration, test periods and budget. -/
  | dailyPlan (slow : List Nat) (bank : Fin 16) (steps : Nat) (ron trip : List (Option Nat)) (cap : Option Nat)
  /-- CRYSTAL_HOURLY_MEAN (R413). Every hour the crystal deviations are averaged for their wear margins. -/
  | crystalHourlyMean (main spring : Int)
  /-- EXTEST (R417). The EXTEST instruction acts in inspection hold and as BYPASS otherwise. -/
  | extest (width bits : Nat)
  /-- IDCODE (R417). The IDCODE instruction shifts out the device identity. -/
  | idcode
  /-- SAMPLE_PRELOAD (R417). The SAMPLE/PRELOAD instruction samples or preloads the boundary scan register. -/
  | samplePreload (width bits : Nat)
  /-- FRZ_RD (R418). The FRZ_RD instruction shifts out the frozen state section by section. -/
  | frzRd (words : Nat)
  /-- FRZ_SEEK (R417). The FRZ_SEEK instruction selects the section and word from which FRZ_RD continues. -/
  | frzSeek (sect : Fin 8) (word : BitVec 29)
  /-- BYPASS (R417). The BYPASS instruction, and every unlisted code, selects the bypass register. -/
  | bypass (width bits : Nat)
  /-- PAGE_LOCK (R436). A write of KEY 0x4C4B to LOCK locks the page against host writes. -/
  | pageLock (page : Fin 50)
  /-- PAGE_UNLOCK (R436). A write of KEY 0x554C to LOCK unlocks the page. -/
  | pageUnlock (page : Fin 50)
  /-- CNT_CLR (R433). A write of CTRL.CNT_CLR clears every RC field of the page. -/
  | cntClr (page : Fin 50)
  /-- RC_READ (R6). A read of an RC field returns its value and then clears it. -/
  | rcRead (adr : BitVec 18)
  /-- W1C_WRITE (R6). A write to a W1C field clears the bits written as 1. -/
  | w1cWrite (adr : BitVec 18) (value : Word)
  /-- LO_WORD_READ (R432). A read of the low word of a 64-bit register latches its high word. -/
  | loWordRead (adr : BitVec 18)
  /-- REGISTER_WRITE (R6). A write to a register without a row of its own takes effect as its access type gives. -/
  | registerWrite (adr : BitVec 18) (value : Word)
  /-- LP_SUPPLY_LOSS (R425). LP goes absent while the core supplies stay, so the field die is unpowered with outputs off, trip elements open and legs at 0 mA with open switches. -/
  | lpSupplyLoss
  /-- LP_SUPPLY_RETURN (R26). LP returns, and the field die sets the power-up state as soon as its supply is present, independently of the core die. -/
  | lpSupplyReturn
  /-- VRES_READY (R410). VRES first reaches V_TOP after power-up, and RSV_STAT.READY sets, enabling the final commit. -/
  | vresReady
  /-- ETH_TRANSMIT_END (R366). A frame finishes leaving a MAC, its ETH_TX_BUSY slot clears, and the next due frame may start. -/
  | ethTransmitEnd (mac : Fin 8)
  /-- ETH_LINK_UP (R362). An Ethernet link comes up, and ETH_STAT.LINK and SPEED are set. -/
  | ethLinkUp (mac : Fin 8) (speed : Fin 4)
  /-- SER_TX_TIME_REACHED (R375). The PTP clock reaches SER_TX_TIME, or the GAP deferral ends, and the first start bit of a timed RS-485 transmission leaves. -/
  | serTxTimeReached (line : Fin 4) (ns : Nat)
  /-- BMI_TRANSFER_END (R382). An I2C poll or host transfer completes or fails, and the value or failure bit is written, BMI_XSTAT updated and the next poll starts. -/
  | bmiTransferEnd (fail : Fin 5) (data : List Byte)
  deriving DecidableEq, Repr

end Sys2Proof
end

