-- ==== Sys2Proof/Machine/State.lean ====
section
/-! DEFINITION. The state of one Xastad (R3): its register window, its memories, what each block holds behind its
registers, the messages it has put on its wires, and the queue of commands waiting. Plain data throughout. A field
that a register shows is held in the register file (regs); what stands here is what no register holds. -/

namespace Sys2Proof.Machine

/-- The six modes and start-up (R16, R36). -/
inductive Mode where
  | sleep | startUp | commission | run | degraded | safe | frozen
  deriving DecidableEq, Repr

/-- An event on its way to or in the error manager (R91): class, source page and index, cause, DETAIL, and
whether it was escalated. -/
structure Event where
  cls : Nat
  page : Nat
  idx : Nat
  cause : Nat
  detail : Nat
  esc : Bool := false
  /-- the PTP time it was raised at -/
  time : Nat := 0
  deriving DecidableEq, Repr

/-- The error manager (R94, R97, R104): a handler slot for each class E0 to E4, a queue for each class E0 to E3,
the log with times, the latched lanes as (page, index), the blocks that restart at the next edge (R93), the dies in a temperature
episode (0 core, 1 field; R407). -/
structure ErrState where
  slots : Sparse (Option Event) := []
  queues : Sparse (List Event) := []
  log : List (Event × Nat) := []
  latched : List (Nat × Nat) := []
  restarts : List (Nat × Nat) := []
  hot : List Nat := []
  deriving DecidableEq, Repr

/-- A Sediment record without SEQ and CRC (R386): kind, flags [7:4] and TIME, and the 44 bytes of the body as
eleven little-endian words. -/
structure Rec where
  kind : Nat
  flags : Nat
  time : Nat
  body : List Word
  deriving DecidableEq, Repr

/-- A numbered record (R394): its SEQ, the record, when it entered the MRAM write queue. -/
structure SedRec where
  seq : Nat
  r : Rec
  made : Nat
  deriving DecidableEq, Repr

/-- An open repeat fold (R400): when it opened and the record held. -/
structure Fold where
  opened : Nat
  r : Rec
  deriving DecidableEq, Repr

/-- A rate-limit bucket (R399): tokens in units of 1 / (T · 10⁹), the time of its last update, and the records
suppressed since the last one written, with the time of the last of them. -/
structure Bucket where
  level : Nat
  upd : Nat
  supp : Nat := 0
  last : Nat := 0
  deriving DecidableEq, Repr

/-- The running statistics of one watched item (R387). Sum in binary64 bits, minimum and maximum in binary32. -/
structure Watch where
  count : Nat := 0
  min : Word := 0
  max : Word := 0
  sum : DWord := 0
  subst : Nat := 0
  hist : List Nat := []
  deriving DecidableEq, Repr

/-- The recorder (R394 to R400). -/
structure SedState where
  newest : Nat := 0
  queue : List SedRec := []
  ring : Sparse (Option SedRec) := []
  durAt : Sparse Nat := []
  tail : Nat := 0
  moved : Nat := 0
  folds : List Fold := []
  buckets : Sparse (Option Bucket) := []
  watch : Sparse Watch := []
  dropWin : Option Nat := none
  dropDue : Bool := false
  dropCnt : Nat := 0
  eccCe : Nat := 0
  eccUe : Nat := 0
  cycMax : Nat := 0
  dropped : Nat := 0
  suppressed : Nat := 0
  deriving DecidableEq, Repr

/-- A Yarnan frame as it stands on a link (R38). -/
structure YFrame where
  kind : Nat
  flags : BitVec 8
  seq : Word
  ref : DWord
  payload : List Byte
  crc : Word
  deriving DecidableEq, Repr

/-- What a sibling's last Health frame said (R40). -/
structure Health where
  role : Nat
  mode : Nat
  startup : Nat
  pend : Nat
  links : Nat
  compat : Nat
  exit : Bool
  imageVer : Word
  fp : BitVec 128
  legs : List Half
  ain : List Word
  aflt : List Byte
  can : Byte
  deriving DecidableEq, Repr

/-- What a sibling's Vote frame said (R40). -/
structure VoteMsg where
  cycle : Nat
  own : DWord
  up : DWord
  dn : DWord
  mask : Nat
  firstUp : Nat
  firstDn : Nat
  deriving DecidableEq, Repr

/-- What the member holds of one sibling: the output image words and the latch words received for a cycle, whether
the image is complete, or lost a frame; its vote, its offsets of the time exchange, its last Health frame and whether that came since
the last base tick edge. -/
structure Peer where
  cycle : Nat := 0
  image : Sparse (Option Word) := []
  latch : Sparse (Option Word) := []
  complete : Bool := false
  broken : Bool := false
  vote : Option VoteMsg := none
  offset : Option (Int × Int) := none
  health : Option Health := none
  legCnt : Sparse Nat := []
  offRef : Nat := 0
  lost : Bool := false
  lostAt : Nat := 0
  heardAt : Nat := 0
  fresh : Bool := false
  deriving DecidableEq, Repr

/-- The triplet logic of the Weir (R46 to R67): the siblings, the 64-cycle mismatch windows by position, the
safety points latched by R58, the pending phase adjustment of R48, the identifier of the applied image; by link: the Health frames of
a training, the instants of CRC errors, when it was last heard, when its state began; the own Vote frame, the time exchange that waits and
when it began, the time events by position, when the Bulk copy began. -/
structure SibState where
  peers : Sparse Peer := []
  windows : Sparse (BitVec 64) := []
  winCyc : Nat := 0
  disagree : List Nat := []
  phaseAdj : Int := 0
  imageVer : Word := 0
  seqs : Sparse Nat := []
  training : Sparse Nat := []
  crcBurst : Sparse (List Nat) := []
  heard : Sparse Nat := []
  since : Sparse Nat := []
  ownVote : Option VoteMsg := none
  timeRef : Option Nat := none
  timeSent : Nat := 0
  timeEvts : Sparse Nat := []
  bulkAt : Nat := 0
  isoMiss : Sparse Nat := []
  deviates : List Nat := []
  admitAt : Sparse (Option Nat) := []
  wgrp : Option Nat := none
  /-- the boot image this member has applied, header and body, as it sends it to a joiner (R60 step 2) -/
  image : List Byte := []
  deriving DecidableEq, Repr

/-- Target of a staged write: a register address of the window or a Basin word address (R80). -/
structure Target where
  basin : Bool
  adr : Nat
  deriving DecidableEq, Repr

/-- One commit group (R75 to R85): its entries, what it was told and what it learned from the siblings (0 up,
1 down). KIND, SLOT, SUP_EN and SUP stand in TXN_GRP_CFG. -/
structure Group where
  state : Nat := 0
  entries : List (Target × Word) := []
  refused : Bool := false
  host : Bool := false
  weir : Bool := false
  result : Nat := 0
  bound : Nat := 0
  /-- the boundary proposed at arming (R77, R80) -/
  proposed : Nat := 0
  hash : BitVec 128 := 0
  sibHash : Sparse (Option (BitVec 128 × Nat)) := []
  sibVote : Sparse Bool := []
  outcome : Option (BitVec 128) := none
  reps : Nat := 0
  sibOutcome : Sparse (Option (BitVec 128)) := []
  /-- the outcome of the use before, the TIME it carried, the last outcome frame of any use and when it came (R80, R82) -/
  lastOutcome : Sparse (Option (BitVec 128)) := []
  lastTime : Sparse Nat := []
  sibLast : Sparse (Option (BitVec 128 × Nat)) := []
  sibHeard : Sparse Nat := []
  compared : Bool := false
  deriving DecidableEq, Repr

/-- A lock on a Basin bank (R115): owner and data beats made. -/
structure Lock where
  owner : Nat
  beats : Nat
  deriving DecidableEq, Repr

/-- The Basin's arbiter (R112 to R117): the requests waiting as (bank, requester), those of them that ask for a lock, the last
requester granted by bank × 8 + rank, plus one (0 before the first grant), the locks; the scrub's next beat by bank, whether the pass
in progress has found an uncorrectable word, when it began, the cycles in a row that a bank has given to requesters and not to the
scrub (R110); by requester the word whose last read came with the error marked (R110); the discarded writes whose event is still to be
raised, as (requester, word address) (R109). -/
structure BsnState where
  waiting : List (Nat × Nat) := []
  lockAsks : List (Nat × Nat) := []
  pointers : Sparse Nat := []
  locks : Sparse (Option Lock) := []
  scrub : Sparse Nat := []
  scrubBad : Bool := false
  scrubStart : Nat := 0
  denied : Sparse Nat := []
  marked : Sparse (Option Nat) := []
  discards : List (Nat × Nat) := []
  deriving DecidableEq, Repr

/-- Monitor data (R119): smallest and largest sample, and 32 bins. -/
structure MonData where
  min : Nat := 0xFFFFFFFF
  max : Nat := 0
  bins : Sparse Nat := []
  deriving DecidableEq, Repr

/-- A timer (R223). -/
structure Timer where
  start : Nat := 0
  on : Bool := false
  et : Nat := 0
  q : Bool := false
  edge : Bool := false
  deriving DecidableEq, Repr, Inhabited

/-- A counter (R223). -/
structure Counter where
  cv : Word := 0
  edge : Bool := false
  deriving DecidableEq, Repr, Inhabited

/-- The scan state that lasts from cycle to cycle (R218). -/
structure ScanMem where
  locals : Sparse Word := []
  timers : Sparse Timer := []
  counters : Sparse Counter := []
  edges : Sparse Bool := []
  deriving DecidableEq, Repr, Inhabited

/-- A latch list entry (R211). -/
structure LatchEntry where
  src : Nat
  adr : Nat
  two : Nat
  mode : Nat
  deriving DecidableEq, Repr

/-- A latched value: low word, high word (SRC 3 only), substitute flag. -/
structure Latched where
  lo : Word := 0
  hi : Word := 0
  sub : Bool := false
  deriving DecidableEq, Repr

/-- A valid force table entry (R226): its number, word address, mask and value. -/
structure Force where
  ix : Nat
  adr : Nat
  mask : Word
  value : Word
  deriving DecidableEq, Repr

/-- The scan engine (R209 to R231). -/
structure ScanState where
  pc : Nat := 0
  w : Sparse Word := []
  ba : Bool := false
  f : Bool := false
  sf : Bool := false
  loops : List (Nat × Nat) := []
  calls : List Nat := []
  pfx : Option (BitVec 10) := none
  mem : ScanMem := {}
  saved : ScanMem := {}
  code : List Word := []
  latchList : List LatchEntry := []
  own : List Latched := []
  ownStamp : Nat := 0
  ownRun : Sparse Word := []
  ownLevel : Nat := 0
  agreed : List Latched := []
  cycle : Nat := 0
  image : Sparse Word := []
  voted : Sparse Word := []
  stores : Sparse (Option Word) := []
  forces : List Force := []
  /-- committed changes of table entries that do not act yet, in order of their commits: the tick from which they act, or none for the
  next cycle; entry numbers with what they now hold (R228) -/
  forcePend : List (Option Nat × List (Nat × Option Force)) := []
  keyUntil : Nat := 0
  forceKey : Option Word := none
  serving : Option Event := none
  unlatchedRaised : Bool := false
  waitAlign : Bool := false
  zero : Bool := false
  /-- has the latch for cycle 0 been taken (R441)? -/
  zeroTaken : Bool := false
  pre : DWord := 0
  served : Nat := 0
  startAt : Nat := 0
  p3At : Nat := 0
  p4At : Nat := 0
  imageAt : Nat := 0
  overrun : Nat := 0
  /-- the 64-bit hash of the own image of the cycle (R40) -/
  hash : DWord := 0
  deriving DecidableEq, Repr

/-- What a context keeps for its next warm start (R178): effective fingerprint, effective tags, its variables as (value, class, scale),
and the values of its RESULT objects in order. -/
structure Warm where
  efp : DWord
  tags : List Word
  vars : List (Int × Int × Word)
  vals : List Int
  deriving DecidableEq, Repr

/-- A barrier a context holds (R174): the decision, when it was first armed. -/
structure Barrier where
  decision : Nat
  armed : Nat
  deriving DecidableEq, Repr

/-- What a factor object was formed from (R165, R166): the matrix object, its values as they entered the factor step (with the
regularisation of a QUASI_DEF image), and whether a pivot was replaced. -/
structure Factor where
  mat : Nat
  vals : List Int
  replaced : Bool
  deriving DecidableEq, Repr

/-- One solver context (R138 to R182). Its objects lie in its data region of the Basin (R126); copies of an iterate are the values of
the RESULT objects in order. What it last published is held by object × 2^24 + element. -/
structure Ctx where
  step : Nat := 0
  iter : Nat := 0
  longest : Nat := 0
  clock : Nat := 0
  lastMark : Nat := 0
  serial : Nat := 0
  start : Nat := 0
  status : Nat := 0
  flags : Nat := 0
  path : Nat := 0
  matched : Nat := 0
  best : Option (List Int) := none
  merit : Word := 0
  bestMerit : Word := 0
  bestIter : Nat := 0
  bestResid : Sparse Word := []
  fallback : Option (List Int × Sparse Word × Nat × Word) := none
  residOk : Bool := true
  resid : Sparse Word := []
  /-- by INFEAS step the iterations in a row above its tolerance (R171) -/
  infeas : Sparse Nat := []
  /-- the run's first saturating step (R167) -/
  satStep : Option Nat := none
  /-- how the present solve has ended: 1 converged, 2 cap, 0 not yet (R169, R172) -/
  solved : Nat := 0
  /-- an abort waits for the step in progress (R164) -/
  abortDue : Bool := false
  pivCnt : Nat := 0
  pivFirst : Nat := 0
  refRes : Word := 0
  factors : Sparse (Option Factor) := []
  suspects : List (Nat × Word) := []
  removed : List Nat := []
  weight : Sparse Int := []
  tags : List Word := []
  efp : DWord := 0
  warm : Option Warm := none
  barrier : Option Barrier := none
  dropped : Sparse Bool := []
  gathered : List (Word × Bool × Bool) := []
  published : Option (Sparse Word) := none
  iterAt : Nat := 0
  deriving DecidableEq, Repr

/-- The solver fabric: its contexts, the order of readiness, the window halves by context × 2 + half; the places in the Basin that the
image gives: 0 to 3 data regions, 4 to 7 Basin state of the contexts, 8 station state region. -/
structure SlvState where
  places : Sparse Nat := []
  ctx : Sparse Ctx := []
  ready : List Nat := []
  running : Option Nat := none
  halves : Sparse (Sparse Word) := []
  deriving DecidableEq, Repr

/-- The two clocks (R343 to R357): the Spring count, its committed writes waiting for a tick edge as (register,
value), the median write waiting, an armed compare; the PTP clock with its fraction in 2^-32 ns, the increment in
force, the step waiting, the next base tick edge, the end of the PPS pulse, the last Sync. -/
structure TimeState where
  count : Nat := 0
  springPend : List (Nat × Word) := []
  medianPend : Option Int := none
  xtalStop : Bool := false
  vbat : Nat := 0
  syncAt : Nat := 0
  sqw : Bool := false
  ns : Nat := 0
  frac : Nat := 0
  incNs : Nat := 8
  incFrac : Nat := 0
  step : Option Int := none
  edge : Nat := 0
  ppsHigh : Bool := false
  ppsEnd : Nat := 0
  running : Bool := false
  /-- a base tick edge whose work waits for a group being applied: what the sense paths measured, the E2 handler before it (R12, R85) -/
  held : Option (List (Nat × Nat × Nat) × Option Event) := none
  deriving DecidableEq, Repr

/-- One digital channel: the level its output switch has, when it last switched, the on-ticks of the PWM period and
its start, the counts of the input filter, of the wire-break test, of the readback mismatch and of the open-wire test; the
instant of an overload's retry and the command while it protects itself. -/
structure Dio where
  on : Bool := false
  since : Nat := 0
  duty : Nat := 0
  start : Nat := 0
  cnt : Nat := 0
  wb : Nat := 0
  mism : Nat := 0
  openCnt : Nat := 0
  retryAt : Nat := 0
  cmd : Bool := false
  deriving DecidableEq, Repr

/-- The field die and its outputs: LP present; the voted image the outputs follow and those waiting for their base
tick edge with the time of their vote (R314, R328); the digital channels; the current each leg sources in mA,
binary32; the element under a pulse test and the pulse command running, as channel × 2 + element; the trip channels
the image commanded on in the cycle before. -/
structure FieldState where
  lpOn : Bool := true
  outImage : Option (Sparse Word) := none
  outPend : List (Nat × Sparse Word) := []
  dio : Sparse Dio := []
  legs : Sparse Word := []
  test : Option Nat := none
  ptCmd : Option (Nat × Bool) := none
  ptEnd : Nat := 0
  pathOpen : Sparse Nat := []
  cmdBefore : List Nat := []
  deriving DecidableEq, Repr

/-- One general or power input: own value in binary32, the fault condition and how often it has held or been absent,
the last value agreed without a fault, the end of settling; the conversions in a row that do not find the fault set. -/
structure Ain where
  own : Word := 0
  cond : Nat := 0
  hold : Nat := 0
  kept : Word := 0
  settleEnd : Nat := 0
  away : Nat := 0
  deriving DecidableEq, Repr

/-- The converters (R306 to R313): the step each sequence converts next while it is not finished, its trigger instant, the queue of
64-bit entries, the last TIME entered, the windows of the once-a-second events. -/
structure AdcState where
  ain : Sparse Ain := []
  seqs : Sparse (Option Nat) := []
  trigAt : Sparse Nat := []
  queue : List DWord := []
  lastTime : Option Nat := none
  lostWin : Option Nat := none
  ovrWin : Option Nat := none
  ovrCnt : Nat := 0
  lostCnt : Nat := 0
  sent : List (Word × Nat) := []
  deriving DecidableEq, Repr

/-- The state of a loop slot (R193 to R200, R205): integrator, derivative and its input, last output, lead-lag and
biquad states; whether it has taken its first sample, the bank of its last sample, whether an episode of invalid
inputs runs; the saturation window; y, r and e of its last sample. -/
structure Slot where
  i : Word := 0
  d1 : Word := 0
  dd1 : Word := 0
  u1 : Word := 0
  x1 : Word := 0
  w1 : Word := 0
  s1 : List Word := [0, 0, 0, 0]
  s2 : List Word := [0, 0, 0, 0]
  started : Bool := false
  /-- has the slot ever sampled (R200: only then has it a previous bank)? -/
  sampled : Bool := false
  bankB : Bool := false
  episode : Bool := false
  satN : Nat := 0
  satCnt : Nat := 0
  sup : Word := 0
  y : Word := 0
  r : Word := 0
  e : Word := 0
  deriving DecidableEq, Repr, Inhabited

/-- A test generator (R201, R202): running, its sample number, its shift register and the samples the present bit has
lasted. -/
structure Gen where
  on : Bool := false
  k : Nat := 0
  sr : Nat := 0
  held : Nat := 0
  deriving DecidableEq, Repr

/-- A capture unit (R203): 0 idle, 1 filling, 2 waiting, 3 post, 4 done, 5 stopped; entries stored, the next ring
index, the ring index of the trigger sample, the last SIG0, the times of the entries. -/
structure Cap where
  state : Nat := 0
  count : Nat := 0
  next : Nat := 0
  post : Nat := 0
  trig : Option Nat := none
  last : Option Word := none
  times : Sparse Nat := []
  deriving DecidableEq, Repr

/-- The loop engine: its slots, generators and capture units, the slots whose records are to be checked at the next base
tick edge (R190), the updates counted in the present second. -/
structure LopState where
  slots : Sparse Slot := []
  gens : Sparse Gen := []
  caps : Sparse Cap := []
  check : List Nat := []
  updSec : Nat := 0
  upd : Nat := 0
  deriving DecidableEq, Repr
/-- An energy record as the commit buffer and the MRAM slots hold it (R293). -/
structure EnergyRec where
  seq : Nat := 0
  kind : Nat := 0
  timeValid : Bool := false
  countValid : Bool := false
  fp32 : Word := 0
  time : Nat := 0
  tick : Nat := 0
  acc : Sparse DWord := []
  res : Sparse DWord := []
  rev : Sparse Nat := []
  irev : Sparse Nat := []
  spc : Sparse Nat := []
  backlog : Sparse Nat := []
  deriving DecidableEq, Repr

/-- The energy block (R279 to R299): accumulators with their residues; by quantity the reversal counts, the sign of the last
non-zero sample, the increases of the interval by accumulator, substitute, invalid and no-voltage time of the interval in base
ticks (no-voltage in ns), whether an episode of invalid inputs runs; whether the interval contains a restart; the Spring
counts last seen; by power input its samples since the window began, newest first, its last accepted crossing and whether a
sample below the hysteresis has been seen since; the window's start. By pulse output: the accumulator's value at which
the next pulse falls due, the last two due instants, the end of the pulse and of its off time. -/
structure NrgState where
  acc : Sparse DWord := []
  res : Sparse DWord := []
  rev : Sparse Nat := []
  irev : Sparse Nat := []
  sign : Sparse Int := []
  inc : Sparse Nat := []
  subst : Sparse Nat := []
  invalid : Sparse Nat := []
  novolt : Sparse Nat := []
  episode : List Nat := []
  restart : Bool := true
  spcSeen : Sparse Nat := []
  wave : Sparse (List (Nat × Word)) := []
  crossed : Sparse (Option Nat) := []
  armed : List Nat := []
  period : Sparse Nat := []
  freq : Sparse Word := []
  rms : Sparse Word := []
  winStart : Nat := 0
  fixed : Bool := false
  outNext : Sparse Nat := []
  outDue : Sparse (Option Nat) := []
  outGap : Sparse (Option Nat) := []
  outEnd : Sparse Nat := []
  outOff : Sparse Nat := []
  outHigh : List Nat := []
  dioBefore : List Nat := []
  deriving DecidableEq, Repr

/-- The Reservoir (R292 to R295): the commit buffer, frozen or not, and the two MRAM slots. -/
structure RsvState where
  buffer : Option EnergyRec := none
  frozen : Bool := false
  slots : Sparse (Option EnergyRec) := []
  savedAt : Option Nat := none
  deriving DecidableEq, Repr

/-- What the device holds of one station (R236 to R246, R251): the state of R246, unheard and heard cycles in a row, BOOT_COUNT
and SEQ on record, the identity of its last accepted Join with the addresses it came from, whether its points are
substituted, whether it was gathered, the RESULT of the last Admit; the frames of its present cycle, whether one of them
has been written; the frames numbered outside the build in the present cycle; its points' last values with flags (0 none,
1 substitute, 2 invalid); the frames of its safe command, ready in the network domain (R249). -/
structure Station where
  state : Nat := 0
  unheard : Nat := 0
  heard : Nat := 0
  boot : Nat := 0
  last : Nat := 0
  uid : DWord := 0
  nMeas : Nat := 0
  nCmd : Nat := 0
  tagged : Bool := false
  mac : Nat := 0
  ip : Word := 0
  rxMac : Nat := 0
  lldp : Word := 0
  subst : Bool := true
  gathered : Bool := false
  result : Nat := 0
  frames : List Nat := []
  written : Bool := false
  extra : Nat := 0
  vals : Sparse (Option (Word × Nat)) := []
  safe : List (List Byte) := []
  deriving DecidableEq, Repr

/-- The station manager (R233 to R251): the stations, their keys by number, TRIPLET_ID of the image; own MEAS and JOIN bits of the
present station cycle as the 64-word run of R243, the runs that the last phase 1 agreed, own first, and those in force at
the last snapshot; the values kept for the hold words, the hold words written; the voted images of the last four cycles
with the number and stamp of each; the consecutive cycles of R245; the base tick of a build that waits for a vote; the last station cycle
start and the last snapshot's; the late frames of the present station cycle. -/
structure StnState where
  stations : Sparse Station := []
  keys : Sparse (BitVec 128) := []
  tripletId : Nat := 0
  run : Sparse Word := []
  runs : List (Sparse Word) := []
  kept : List (Nat × Word) := []
  holds : Sparse Bool := []
  voted : List (Nat × Option Nat × Sparse Word) := []
  minority : Bool := false
  build : Option Nat := none
  cycleAt : Nat := 0
  snapAt : Nat := 0
  late : Nat := 0
  deriving DecidableEq, Repr

/-- The recipe sequencer (R259, R262): the zones computed since start-up, the day index of the last snapshot, the zones whose
entry or recipe fails; whether the cycle's computation is done. -/
structure LumState where
  started : Sparse Bool := []
  day : Option Int := none
  failing : Sparse (Nat × Nat) := []
  deriving DecidableEq, Repr

/-- The shed logic (R265 to R272): the periods of FSRC, newest first, as (end, length, frequency); the start of the overload by
stage, the sets whose trip input was active at the last tick and those whose trip holds, the instant of the last level change, the
instant from which the frequency has been in the band, that from which the voltage has been absent; the stages whose overload
trigger holds, those in force at the last tick, the shed frames prepared by the start of their station cycle (R268). -/
structure PmsState where
  periods : List (Nat × Nat × Word) := []
  overFrom : Sparse (Option Nat) := []
  overOn : List Nat := []
  onSeen : List Nat := []
  sheds : List (Nat × List (Bool × List Byte)) := []
  tripSeen : List Nat := []
  trips : List Nat := []
  changed : Nat := 0
  inBand : Option Nat := none
  absentFrom : Nat := 0
  deriving DecidableEq, Repr

/-- Wear (R413 to R415), in the MRAM wear area: switch-offs by digital channel, openings by trip element, the main
crystal's first value, the items whose events have been raised. The margins of the banks measured so far; the steps by which an output's
current limit is lowered (R414). A plan that fell due outside its modes, and when it runs. -/
structure WearState where
  outCycles : Sparse Nat := []
  tripCycles : Sparse Nat := []
  xtalFirst : Option Int := none
  low : List Nat := []
  out : List Nat := []
  banks : Sparse (Option Nat) := []
  derate : Sparse Nat := []
  planLate : Bool := false
  planAt : Option Nat := none
  deriving DecidableEq, Repr

/-- The inspection port (R417, R418): the section and word from which FRZ_RD continues. -/
structure TapState where
  sect : Nat := 0
  word : Nat := 0
  /-- the boundary scan register as last shifted in, and whether EXTEST drives the lands from it -/
  bsr : Nat := 0
  extest : Bool := false
  deriving DecidableEq, Repr

/-- A frame in a launch queue (R355, R366): launch time, bytes from the destination address to the end, the host's slot, TS,
and whether its launch time had passed when it reached the head. -/
structure TxFrame where
  launch : Nat
  bytes : List Byte
  slot : Option Nat := none
  ts : Bool := false
  late : Bool := false
  deriving DecidableEq, Repr

/-- A MAC: its four launch queues, the frame leaving, the LLDP neighbour's chassis and port ID TLVs with the time they expire. -/
structure Mac where
  queues : Sparse (List TxFrame) := []
  sending : Option TxFrame := none
  lldp : Option (List Byte × Nat) := none
  deriving DecidableEq, Repr

/-- A CAN frame (R369, R372): identifier, flags, DLC code, payload, time of its start. -/
structure CanFrame where
  xtd : Bool
  id : Nat
  fd : Bool
  brs : Bool
  esi : Bool := false
  dlc : Nat
  data : List Byte
  ts : Nat := 0
  deriving DecidableEq, Repr

/-- A frame waiting for a CAN bus (R371): the transmit map's or the host's, the attempts made. -/
structure CanTx where
  map : Bool
  tries : Nat := 0
  f : CanFrame
  deriving DecidableEq, Repr

/-- A CAN bus (R371 to R373): receive queue, frames pending, the frame on the bus; the last build of each map entry. -/
structure Can where
  rx : List CanFrame := []
  pend : List CanTx := []
  sending : Option CanTx := none
  built : Sparse (Option CanFrame) := []
  deriving DecidableEq, Repr

/-- An RS-485 line (R375): the bytes of the transmission, whether it has started, when it falls due; start bit and stop bit of
the last received byte. -/
structure Ser where
  tx : Option (List Byte) := none
  started : Bool := false
  due : Nat := 0
  lastRx : Option (Nat × Nat) := none
  deriving DecidableEq, Repr

/-- An xSPI operation (R381): OP, ADDR, BUF, LEN. -/
structure XspiOp where
  op : Nat
  adr : Nat
  buf : Nat
  len : Nat
  deriving DecidableEq, Repr

/-- The board-management port (R382): polls due (0 to 15; 16 + n the VOUT_MODE read of entry n), the transfer on the bus (32 the
host's), the host transfer waiting, VOUT_MODE exponents, entries whose last poll failed. -/
structure Bmi where
  due : List Nat := []
  running : Option Nat := none
  waiting : Bool := false
  expo : Sparse (Option Int) := []
  failing : List Nat := []
  deriving DecidableEq, Repr

/-- The networks and buses: MACs; by pair the PRP sequence number, the discard table as (source address, sequence number,
time), oldest first, and the ICMP replies of a second; CAN, RS-485, xSPI and board management. -/
structure NetState where
  macs : Sparse Mac := []
  prpSeq : Sparse Nat := []
  prpSeen : Sparse (List (Nat × Nat × Nat)) := []
  icmp : Sparse (Nat × Nat) := []
  can : Sparse Can := []
  ser : Sparse Ser := []
  xspiOp : Option XspiOp := none
  bmi : Bmi := {}
  /-- the idle domains (R403) with light-sleeping Basin banks as 16 + bank -/
  idle : List Nat := []
  deriving DecidableEq, Repr

/-- A message the device puts on one of its wires. -/
inductive Out where
  /-- a Yarnan frame on a link: 0 SIB_UP, 1 SIB_DN (R38) -/
  | yarnan (link : Nat) (f : YFrame)
  /-- the 20 bits of an isolation line frame, the first sent lowest: 0 ISO_OUT_UP, 1 ISO_OUT_DN (R66) -/
  | iso (line : Nat) (frame : BitVec 20)
  /-- idle sequences on a link, for the base tick that begins (R37, R42; assumption 83) -/
  | idle (link : Nat)
  /-- the applied boot image for a joiner, over a link (R60 step 2) -/
  | image (link : Nat) (bytes : List Byte)
  /-- an MSI-X message of a vector (R378) -/
  | msix (vec : Nat)
  /-- an Ethernet frame from the destination address on, without FCS (R355) -/
  | eth (mac : Nat) (bytes : List Byte)
  /-- a CAN frame put on a bus (R371) -/
  | can (bus : Nat) (f : CanFrame)
  /-- a byte on an RS-485 line (R375) -/
  | ser (line : Nat) (b : Byte)
  /-- bytes returned on host SPI (R379) -/
  | spi (bytes : List Byte)
  /-- bits shifted out at TDO, first bit lowest (R417) -/
  | tdo (width : Nat) (bits : Nat)
  /-- an I2C transfer asked for: address, read, command, bytes (R382, R414) -/
  | i2c (adr : Nat) (read : Bool) (cmd : Nat) (bytes : List Byte)
  /-- a pulse on an output land: 0 PPS_OUT (R357) -/
  | pps (high : Bool)
  deriving DecidableEq, Repr

/-- The state of the device. -/
structure State where
  mode : Mode := .startUp
  /-- a main supply is in its operating range -/
  mainOn : Bool := true
  /-- the main power-on reset is held: the core domains are in reset until the power-good filter expires -/
  held : Bool := true
  /-- start-up has stopped for good (R28), or holds for inspection (R25) -/
  stopped : Bool := false
  /-- the group with target Sleep made the state durable, or a wake is pending: the next release is a wake -/
  waking : Bool := false
  /-- the next release of the main power-on reset samples the straps (R25, R27) -/
  strapsDue : Bool := true
  /-- the bits of SYS_RST_CAUSE that the next release of the reset sets (R34) -/
  cause : Nat := 1
  /-- the strap lands as sampled: position, boot source, alarm level (R25) -/
  pos : Nat := 0
  boot : Nat := 0
  aoAlm : Bool := false
  /-- the registers of the window, by byte offset -/
  regs : Sparse Word := []
  /-- the high words latched by a read of the low word, by address of the high word (R432) -/
  latch : Sparse (Option Word) := []
  /-- low words written and waiting for their high word, by address of the low word (R432) -/
  lowHeld : Sparse (Option Word) := []
  /-- the locked pages (R436) -/
  locks : List Nat := []
  /-- the value the last read returned -/
  readData : List Word := []
  /-- the Basin, by byte address (R107) -/
  basin : List Host.Cell := []
  /-- the xSPI memory, by byte address (R30, R380) -/
  xspi : List Host.Cell := []
  /-- the record of everything put on the wires, oldest first -/
  out : List Out := []
  /-- how many free values have been taken (the model's own field) -/
  fresh : Nat := 0
  err : ErrState := {}
  sed : SedState := {}
  sib : SibState := {}
  txn : Sparse Group := []
  bsn : BsnState := {}
  monLive : Sparse MonData := []
  monSnap : Sparse MonData := []
  monArmed : Bool := false
  scn : ScanState := {}
  slv : SlvState := {}
  time : TimeState := {}
  field : FieldState := {}
  lop : LopState := {}
  adc : AdcState := {}
  nrg : NrgState := {}
  rsv : RsvState := {}
  stn : StnState := {}
  lum : LumState := {}
  pms : PmsState := {}
  net : NetState := {}
  wear : WearState := {}
  tap : TapState := {}
  /-- the commands waiting, first in first out -/
  pending : List Instr := []
  deriving DecidableEq, Repr

/-- The machine right after reset: a Spring power-on reset has just been released with main supply in its range, and
the Spring holds the main power-on reset (R27 step 1). Every register reads its reset value. -/
def State.reset : State := {}

/-- The machine never stops with a fault: every command of the table has an effect. -/
inductive Fault where
  /-- raised by nothing -/
  | none
  deriving DecidableEq, Repr

/-- Why a command has no meaning. -/
inductive Refusal where
  /-- the command of this mnemonic is not modelled yet; raised by an arm of exec; safe: nothing is claimed of it -/
  | notModelled (mnemonic : String)
  deriving DecidableEq, Repr

end Sys2Proof.Machine
end

