-- ==== Sys2Proof/Machine/Bits.lean ====
section
/-! DEFINITION. Bit fields, byte order, counts that saturate. -/

namespace Sys2Proof.Machine

/-- Bits hi to lo of a number. -/
def bitsOf (n hi lo : Nat) : Nat := (n >>> lo) % 2 ^ (hi - lo + 1)

/-- Bit k of a number. -/
def bitOf (n k : Nat) : Bool := n.testBit k

/-- 1 or 0. -/
def b2n (b : Bool) : Nat := if b then 1 else 0

/-- A number of a given width in bits, read as two's complement. -/
def signed (w n : Nat) : Int :=
  let m := n % 2 ^ w
  if m < 2 ^ (w - 1) then (m : Int) else (m : Int) - (2 ^ w : Nat)

/-- The two's complement of a given width of an integer. -/
def twos (w : Nat) (i : Int) : Nat := (i % ((2 ^ w : Nat) : Int)).toNat

/-- An integer held between two bounds. -/
def clampInt (lo hi i : Int) : Int := if i < lo then lo else if hi < i then hi else i

/-- A natural number held between two bounds. -/
def clampNat (lo hi n : Nat) : Nat := if n < lo then lo else if hi < n then hi else n

/-- A count one higher, saturating. -/
def satInc (max n : Nat) : Nat := if max ≤ n then max else n + 1

/-- A count k higher, saturating. -/
def satAdd (max n k : Nat) : Nat := if max ≤ n + k then max else n + k

/-- The k low bytes of a number, lowest first (R31, R38: multi-byte fields are little-endian). -/
def leBytes : Nat → Nat → List Byte
  | 0, _ => []
  | k + 1, n => BitVec.ofNat 8 n :: leBytes k (n / 256)

/-- The number little-endian bytes spell. -/
def leNat : List Byte → Nat
  | [] => 0
  | b :: r => b.toNat + 256 * leNat r

/-- Bytes off to off + len of a list, as a number; missing bytes read 0. -/
def fieldAt (bs : List Byte) (off len : Nat) : Nat := leNat ((bs.drop off).take len)

/-- The byte at an offset, 0 beyond the end. -/
def byteAt (bs : List Byte) (off : Nat) : Nat := (bs.getD off 0).toNat

/-- The 32-bit word at a byte offset of a list of bytes. -/
def wordAt (bs : List Byte) (off : Nat) : Word := BitVec.ofNat 32 (fieldAt bs off 4)

/-- The bytes of a word, low byte first. -/
def wordBytes (w : Word) : List Byte := leBytes 4 w.toNat

/-- A list of words as its bytes. -/
def wordsBytes (ws : List Word) : List Byte := ws.flatMap wordBytes

/-- Bytes taken four at a time as words; a short rest is dropped. -/
def bytesWords : List Byte → List Word
  | a :: b :: c :: d :: r => BitVec.ofNat 32 (leNat [a, b, c, d]) :: bytesWords r
  | _ => []

/-- The number of set bits among the k lowest. -/
def popCount : Nat → Nat → Nat
  | 0, _ => 0
  | k + 1, n => n % 2 + popCount k (n / 2)

/-- An element added to a list that has no repeats. -/
def addOnce {α : Type} [DecidableEq α] (l : List α) (a : α) : List α := if a ∈ l then l else l ++ [a]

/-- The median of three integers. -/
def median3 (a b c : Int) : Int := max (min a b) (min (max a b) c)

/-- Apply a step to the state for each number below n, in rising order. -/
def forN {σ : Type} (n : Nat) (f : Nat → σ → σ) (s : σ) : σ := (List.range n).foldl (fun t k => f k t) s

end Sys2Proof.Machine
end

