-- ==== Sys2Proof/Machine/Aes.lean ====
section
/-! DEFINITION. AES-128 (FIPS 197) and the AES-CMAC of NIST SP 800-38B, for station tags (R235). -/

namespace Sys2Proof.Machine

/-- Multiplication by x in GF(2⁸) modulo x⁸ + x⁴ + x³ + x + 1. -/
def xtime (b : Nat) : Nat := if b < 128 then 2 * b else (2 * b % 256) ^^^ 0x1B

/-- Multiplication in GF(2⁸). -/
def gmul (a b : Nat) : Nat :=
  ((List.range 8).foldl (fun (acc : Nat × Nat) k => (if bitOf b k then acc.1 ^^^ acc.2 else acc.1, xtime acc.2)) (0, a)).1

/-- The inverse in GF(2⁸), 0 for 0: b²⁵⁴. -/
def ginv (b : Nat) : Nat :=
  let b2 := gmul b b
  let b3 := gmul b2 b
  let b12 := gmul (gmul b3 b3) (gmul b3 b3)
  let b15 := gmul b12 b3
  let b240 := Nat.repeat (fun x => gmul x x) 4 b15
  gmul (gmul b240 b12) b2

/-- The S-box: inverse, then the affine map. -/
def sbox (b : Nat) : Nat :=
  let i := ginv b
  let rot := fun k => ((i <<< k) ||| (i >>> (8 - k))) % 256
  i ^^^ rot 1 ^^^ rot 2 ^^^ rot 3 ^^^ rot 4 ^^^ 0x63

/-- A 16-byte block, first byte first. -/
abbrev Block := List Nat

def xorBlock (a b : Block) : Block := List.zipWith (· ^^^ ·) a b

/-- The next round key from a round key and the round constant. -/
def nextKey (k : Block) (rc : Nat) : Block :=
  let g := fun i => k.getD i 0
  let t := [sbox (g 13) ^^^ rc, sbox (g 14), sbox (g 15), sbox (g 12)]
  let w0 := List.zipWith (· ^^^ ·) (k.take 4) t
  let w1 := List.zipWith (· ^^^ ·) ((k.drop 4).take 4) w0
  let w2 := List.zipWith (· ^^^ ·) ((k.drop 8).take 4) w1
  w0 ++ w1 ++ w2 ++ List.zipWith (· ^^^ ·) (k.drop 12) w2

/-- SubBytes and ShiftRows: byte 4c + r comes from column c + r. -/
def subShift (b : Block) : Block :=
  (List.range 16).map fun i => sbox (b.getD (4 * ((i / 4 + i % 4) % 4) + i % 4) 0)

/-- MixColumns. -/
def mixColumns (b : Block) : Block :=
  (List.range 16).map fun i =>
    let g := fun k => b.getD (4 * (i / 4) + (i % 4 + k) % 4) 0
    gmul 2 (g 0) ^^^ gmul 3 (g 1) ^^^ g 2 ^^^ g 3

/-- The rounds: those with MixColumns, then the last. -/
def aesRounds : List Nat → Block → Block → Block
  | [], _, b => b
  | [rc], k, b => xorBlock (subShift b) (nextKey k rc)
  | rc :: rcs, k, b => aesRounds rcs (nextKey k rc) (xorBlock (mixColumns (subShift b)) (nextKey k rc))

/-- AES-128 of one block. -/
def aes128 (key b : Block) : Block :=
  aesRounds [0x01, 0x02, 0x04, 0x08, 0x10, 0x20, 0x40, 0x80, 0x1B, 0x36] key (xorBlock b key)

/-- A block as a number, first byte highest, and back. -/
def blockNat (b : Block) : Nat := b.foldl (fun acc x => 256 * acc + x) 0
def natBlock (n : Nat) : Block := (List.range 16).map fun i => n >>> (8 * (15 - i)) % 256

/-- A CMAC subkey: doubling in GF(2¹²⁸). -/
def cmacDouble (n : Nat) : Nat := if n < 2 ^ 127 then 2 * n else (2 * n % 2 ^ 128) ^^^ 0x87

/-- The CMAC chain over a message. -/
def cmacChain (key : Block) (k1 k2 : Nat) : Nat → Block → Block → Block
  | 0, x, _ => x
  | n + 1, x, m =>
    if m.length ≤ 16 then
      let last := if m.length = 16 then xorBlock m (natBlock k1)
        else xorBlock (m ++ 0x80 :: List.replicate (15 - m.length) 0) (natBlock k2)
      aes128 key (xorBlock x last)
    else cmacChain key k1 k2 n (aes128 key (xorBlock x (m.take 16))) (m.drop 16)

/-- AES-CMAC of a message under a 128-bit key. -/
def cmac (key : BitVec 128) (m : List Byte) : Block :=
  let k := natBlock key.toNat
  let k1 := cmacDouble (blockNat (aes128 k (List.replicate 16 0)))
  cmacChain k k1 (cmacDouble k1) (m.length / 16 + 1) (List.replicate 16 0) (m.map BitVec.toNat)

/-- A station tag: the leftmost 64 bits (R235). -/
def stationTag (key : BitVec 128) (m : List Byte) : List Byte := ((cmac key m).take 8).map (BitVec.ofNat 8)

end Sys2Proof.Machine
end

