-- ==== Sys2Proof/Machine/Hash.lean ====
section
/-! DEFINITION. The check sums and hashes the spec names: CRC-32 of IEEE 802.3 (R31, R38, R386), CRC-16 with
x¹⁶ + x¹² + x⁵ + 1 (R42), SHA-256 of FIPS 180-4 (R32, R40, R80). Numbers are natural numbers below 2^32. -/

namespace Sys2Proof.Machine

/-- One bit of the reflected CRC-32. -/
def crc32Bit (c : Nat) : Nat := if c % 2 = 1 then (c / 2) ^^^ 0xEDB88320 else c / 2

/-- One byte of the reflected CRC-32. -/
def crc32Byte (c : Nat) (b : Byte) : Nat := Nat.repeat crc32Bit 8 (c ^^^ b.toNat)

/-- CRC-32 of IEEE 802.3 over bytes. -/
def crc32 (bs : List Byte) : Word := BitVec.ofNat 32 (bs.foldl crc32Byte 0xFFFFFFFF ^^^ 0xFFFFFFFF)

/-- One bit of CRC-16, most significant bit first. -/
def crc16Bit (c : Nat) : Nat := if c < 0x8000 then 2 * c else (2 * c % 0x10000) ^^^ 0x1021

/-- CRC-16 with polynomial x¹⁶ + x¹² + x⁵ + 1 and initial value 0xFFFF, over bytes. -/
def crc16 (bs : List Byte) : Half :=
  BitVec.ofNat 16 (bs.foldl (fun c b => Nat.repeat crc16Bit 8 (c ^^^ (b.toNat * 256))) 0xFFFF)

/-! ### SHA-256 -/

/-- The primes below 312: the first 64. -/
def smallPrimes : List Nat :=
  (List.range 312).filter fun p => decide (2 ≤ p) && (List.range 16).all fun k => p == k + 2 || p % (k + 2) != 0

/-- The largest r + x, x below 2^k, whose e-th power is at most n. -/
def rootFrom (e n : Nat) : Nat → Nat → Nat
  | 0, r => r
  | k + 1, r => rootFrom e n k (if (r + 2 ^ k) ^ e ≤ n then r + 2 ^ k else r)

/-- The first 32 bits of the fraction of the e-th root of p, for a root below 8. -/
def rootFraction (e p : Nat) : Nat := rootFrom e (p * 2 ^ (32 * e)) 35 0 % 2 ^ 32

/-- The constants of the 64 rounds come from cube roots, the first chaining value from the square roots of the first eight primes. -/
def roundConstants : List Nat := smallPrimes.map (rootFraction 3)
def firstChain : List Nat := (smallPrimes.take 8).map (rootFraction 2)

/-- Rotation right of a 32-bit number. -/
def rotr (n x : Nat) : Nat := (x >>> n) ||| ((x <<< (32 - n)) % 2 ^ 32)

/-- The sum modulo 2 of a number's rotations. -/
def rotations (ns : List Nat) (x : Nat) : Nat := ns.foldl (fun acc n => acc ^^^ rotr n x) 0

/-- The chaining value after one round, with the round's constant and schedule word summed. -/
def chainRound (v : List Nat) (kw : Nat) : List Nat :=
  match v with
  | [a, b, c, d, e, f, g, h] =>
    let pick := g ^^^ (e &&& (f ^^^ g))
    let vote := (a &&& b) ||| (c &&& (a ||| b))
    let t := h + kw + pick + rotations [6, 11, 25] e
    [(t + vote + rotations [2, 13, 22] a) % 2 ^ 32, a, b, c, (d + t) % 2 ^ 32, e, f, g]
  | _ => v

/-- n more words of a message schedule that is kept with its newest word first. -/
def moreWords : Nat → List Nat → List Nat
  | 0, ws => ws
  | n + 1, ws =>
    let w := fun k => ws.getD k 0
    let old := rotations [7, 18] (w 14) ^^^ (w 14 >>> 3)
    let new := rotations [17, 19] (w 1) ^^^ (w 1 >>> 10)
    moreWords n ((w 15 + old + w 6 + new) % 2 ^ 32 :: ws)

/-- Big-endian 32-bit words of bytes. -/
def beWords : List Byte → List Nat
  | a :: b :: c :: d :: r => leNat [d, c, b, a] :: beWords r
  | _ => []

/-- A chaining value taken over one block of sixteen words. -/
def chainBlock (v : List Nat) (block : List Nat) : List Nat :=
  let schedule := (moreWords 48 block.reverse).reverse
  List.zipWith (fun x y => (x + y) % 2 ^ 32) v ((List.zipWith (· + ·) roundConstants schedule).foldl chainRound v)

/-- A chaining value taken over n blocks. -/
def chainBlocks : Nat → List Nat → List Nat → List Nat
  | 0, _, v => v
  | n + 1, ws, v => chainBlocks n (ws.drop 16) (chainBlock v (ws.take 16))

/-- SHA-256 of bytes: 256 bits, the first byte of the digest highest. -/
def sha256 (bs : List Byte) : BitVec 256 :=
  let zeros := (119 - bs.length % 64) % 64
  let ws := beWords (bs ++ 0x80#8 :: (List.replicate zeros 0#8 ++ (leBytes 8 (8 * bs.length)).reverse))
  BitVec.ofNat 256 ((chainBlocks (ws.length / 16) ws firstChain).foldl (fun acc x => acc * 2 ^ 32 + x) 0)

/-- The first n bits of the digest (R32, R40, R80). -/
def shaFirst (n : Nat) (bs : List Byte) : BitVec n := BitVec.ofNat n ((sha256 bs).toNat >>> (256 - n))

end Sys2Proof.Machine
end

