-- ==== Sys2Proof/Config.lean ====
section
/-! DEFINITION. What the spec leaves open: free values. Each is a constant with no body, so nothing can be proved of
the value it gives, and a claim holds whatever it is. The log entry that declares each is named beside it. -/

namespace Sys2Proof

/-- A word address of a latch list or a station point, and every other table Iluoz writes into the body of a boot
image, as far as the device holds it outside the Basin and the registers (R31: the section formats are Iluoz's).
regs: register addresses and values; basin: Basin word addresses and values; code: scan code; latch: the two words of
each latch list entry (R211); forceKey: the force key (R230); keys: station keys by station (R244); errTask: an error
task is declared (R225); places: Basin byte addresses of regions that no register shows: 0 to 3 the data regions of contexts 0 to 3
(R126), 4 to 7 their Basin state (R143), 8 the station state region (R237). -/
structure ImageContent where
  regs : List (Nat × Word) := []
  basin : List (Nat × Word) := []
  code : List Word := []
  latch : List (Word × Word) := []
  forceKey : Option Word := none
  keys : List (Nat × BitVec 128) := []
  errTask : Bool := false
  places : List (Nat × Nat) := []
  deriving DecidableEq, Repr, Inhabited

/-- The content of a boot image's body: the section formats are not in the spec (R31; assumption 8). -/
opaque Config.parseBody : List Byte → ImageContent

/-- A free value, fresh for each number it is applied to: the model applies it to a counter of the state
(assumption 4). -/
opaque Config.free : Nat → BitVec 64

/-- Sign and payload of a NaN that a float operation gives (assumption 9): IEEE 754 leaves them open. -/
opaque Config.nan32 : Word → Word → Word

/-- As nan32, for binary64. -/
opaque Config.nan64 : DWord → DWord → DWord

/-- The error a kernel makes within the accuracy R137 states: which of the admissible integers it gives, by kernel
code and what it is computed from (operand, classes, table; assumption 30). -/
opaque Config.kernelErr : Nat → List Int → Nat

/-- The key of the element that an initial-state map entry writes (R153 gives the element of x_0 or u_(−1), not its object;
assumption 31): by structure fingerprint and destination word. -/
opaque Config.initDest : Nat → Nat → Nat

/-- The stored integer of a value that is not a number (R132 gives none; assumption 33), by word and class. -/
opaque Config.nanStored : Word → Int → Int

/-- What a problem image means beyond what R123 to R132 lay down in its bytes (assumption 90): temps: the variable that is each
node's temperature (R146); sigma, omega: the objects that hold σ (R147) and Ω (R148) by row; flows: by row, the variable that is the
branch flow of a transport row; inflow: by row, the branches at the node of a hold row as variable and whether a positive flow enters it;
stages: by stage, inequality rows, states and inputs (R155). -/
structure ImageShape where
  temps : List Nat := []
  sigma : Nat := 0
  omega : Nat := 0
  flows : List Nat := []
  inflow : List (List (Nat × Bool)) := []
  stages : List (Nat × Nat × Nat) := []
  deriving Inhabited

/-- The meaning of an image by its bytes: Iluoz knows it, the layout does not show it (assumption 90). -/
opaque Config.imageShape : List Byte → ImageShape

/-- Upstream node and delay in ns of an element read from the estimate history object, by structure fingerprint, element and iterate
(R146; assumption 90). -/
opaque Config.upstream : Nat → Nat → List Int → Nat × Nat

/-- The weight of a row whose σ is 0 (R147 states none; assumption 34), by row. -/
opaque Config.zeroSigma : Nat → Int

/-- The error of the sine a test generator evaluates for a sample (R202: to ≤ 2 ULP), as a choice among the admissible words, by the
words of its record and the sample number (assumption 26); the word itself where the argument is no number. -/
opaque Config.sine : List Word → Nat → Word

/-- Identification, type of service and time to live of an IPv4 packet the device sends (R234 names RFC 791, which leaves them to
the sender; assumption 36), by the number of the packet. -/
opaque Config.ipIdent : Nat → Half
opaque Config.ipTos : Byte
opaque Config.ipTtl : Byte

/-- Source port of the device's UDP datagrams, and whether it fills in the optional checksum (assumption 36). -/
opaque Config.udpSource : Half
opaque Config.udpSummed : Bool

/-- TYPE of a command point's entry, by station and point: a command point record gives none (R239, R241; assumption 37). -/
opaque Config.cmdType : Nat → Nat → Nat

/-- What factory test wrote into the MRAM wear area (R413; assumption 38): read-assist steps by Basin bank, capacitance at VRES in
0.1 µF, deviation of the Spring crystal in ppb. -/
opaque Config.sramFirst : Nat → Nat
opaque Config.capFirst : Nat
opaque Config.springFirst : Int

/-- N of the LINEAR16 format of the VCORE regulator (R414 names the format, the regulator fixes N; assumption 39): a voltage is its
word × 2^-N. -/
opaque Config.vcoreExp : Nat

/-- CAUSE of WIR_SAFE_CAUSE for an injected E3, of which R105 names none, by the event's source (assumption 15). -/
opaque Config.injectedCause : Nat → BitVec 5

/-- The temperature in °C, binary32, that a resistance thermometer's corrected value converts to (R303: within 0.01 K of IEC 60751;
assumption 41), by mode and corrected value. Outside −200 °C to 850 °C the standard gives none. -/
opaque Config.rtd : Nat → Int → Word

/-- What the board's xSPI memory announces in its SFDP (R380): the mode taken, log2 of sector and memory bytes. -/
opaque Config.xspiMode : BitVec 2
opaque Config.xspiSect : BitVec 5
opaque Config.xspiSize : BitVec 5

/-- The words of a section of the freeze read-out whose size the spec does not give, and a word of a part whose layout it does not
give (R418; assumption 44): by the number of free values taken, section and place. -/
opaque Config.sectWords : Nat → Nat
opaque Config.sectWord : Nat → Nat → Nat → Word

/-- What the boundary scan register captures (R417; the order of its cells is not in the spec; assumption 44). -/
opaque Config.boundary : Nat → Nat

end Sys2Proof
end

