-- ==== Sys2Proof/Machine/Float.lean ====
section
/-! DEFINITION. IEEE 754 binary32 and binary64 arithmetic on bit patterns: rounding to nearest, ties to even,
subnormal values kept (R192, R220). A result that is not a number has a free sign and payload (assumption 9). -/

namespace Sys2Proof.Machine

/-- A binary format: fraction bits and exponent bits. -/
structure Fmt where
  frac : Nat
  expo : Nat
  deriving DecidableEq, Repr

def fmt32 : Fmt := ⟨23, 8⟩
def fmt64 : Fmt := ⟨52, 11⟩

/-- The bits of +∞ in a format. -/
def Fmt.inf (f : Fmt) : Nat := (2 ^ f.expo - 1) * 2 ^ f.frac
/-- The sign bit of a format. -/
def Fmt.signBit (f : Fmt) : Nat := 2 ^ (f.frac + f.expo)
/-- The exponent of the lowest bit of a subnormal value. -/
def Fmt.emin (f : Fmt) : Int := 2 - (2 ^ (f.expo - 1) : Nat) - (f.frac : Int)

/-- What a bit pattern stands for: nan, an infinity, or (-1)^neg × m × 2^e. -/
inductive Num where
  | nan
  | inf (neg : Bool)
  | fin (neg : Bool) (m : Nat) (e : Int)
  deriving DecidableEq, Repr

/-- The number a bit pattern stands for. -/
def Fmt.read (f : Fmt) (b : Nat) : Num :=
  let neg := decide (f.signBit ≤ b)
  let mag := b % f.signBit
  let ex := mag / 2 ^ f.frac
  let fr := mag % 2 ^ f.frac
  if mag = f.inf then .inf neg
  else if f.inf < mag then .nan
  else if ex = 0 then .fin neg fr f.emin
  else .fin neg (2 ^ f.frac + fr) (f.emin + (ex : Int) - 1)

/-- m × 2^(-k) rounded to nearest, ties to even. -/
def rne (m k : Nat) : Nat :=
  let q := m >>> k
  let r := m % 2 ^ k
  if 2 * r < 2 ^ k then q else if 2 ^ k < 2 * r then q + 1 else if q % 2 = 0 then q else q + 1

/-- The pattern of (-1)^neg × m × 2^e, rounded to nearest with ties to even. -/
def Fmt.pack (f : Fmt) (neg : Bool) (m : Nat) (e : Int) : Nat :=
  let sg := if neg then f.signBit else 0
  if m = 0 then sg else
    let top : Int := e + (Nat.log2 m : Int) - (f.frac : Int)
    let e' : Int := max top f.emin
    let m' := if e' ≤ e then m <<< (e - e').toNat else rne m (e' - e).toNat
    let b := (e' - f.emin).toNat * 2 ^ f.frac + m'
    sg + min b f.inf

/-- The sum of two numbers that are finite: a common exponent, then one rounding. An exact zero is +0 unless both
terms are negative zeros. -/
def Fmt.addFin (f : Fmt) (n1 : Bool) (m1 : Nat) (e1 : Int) (n2 : Bool) (m2 : Nat) (e2 : Int) : Nat :=
  let e := min e1 e2
  let a : Int := (if n1 then -1 else 1) * ((m1 <<< (e1 - e).toNat : Nat) : Int)
  let b : Int := (if n2 then -1 else 1) * ((m2 <<< (e2 - e).toNat : Nat) : Int)
  let t := a + b
  if t = 0 then f.pack (n1 && n2) 0 e else f.pack (decide (t < 0)) t.natAbs e

/-- The sum; none where it is not a number. -/
def Fmt.add (f : Fmt) (a b : Nat) : Option Nat :=
  match f.read a, f.read b with
  | .nan, _ => none
  | _, .nan => none
  | .inf n1, .inf n2 => if n1 = n2 then some a else none
  | .inf _, _ => some a
  | _, .inf _ => some b
  | .fin n1 m1 e1, .fin n2 m2 e2 => some (f.addFin n1 m1 e1 n2 m2 e2)

/-- The pattern with the other sign. -/
def Fmt.neg (f : Fmt) (a : Nat) : Nat := if f.signBit ≤ a then a - f.signBit else a + f.signBit

/-- The product; none where it is not a number. -/
def Fmt.mul (f : Fmt) (a b : Nat) : Option Nat :=
  match f.read a, f.read b with
  | .nan, _ => none
  | _, .nan => none
  | .inf n1, .inf n2 => some (f.inf + if n1 == n2 then 0 else f.signBit)
  | .inf n1, .fin n2 m _ => if m = 0 then none else some (f.inf + if n1 == n2 then 0 else f.signBit)
  | .fin n1 m _, .inf n2 => if m = 0 then none else some (f.inf + if n1 == n2 then 0 else f.signBit)
  | .fin n1 m1 e1, .fin n2 m2 e2 => some (f.pack (n1 != n2) (m1 * m2) (e1 + e2))

/-- The quotient; none where it is not a number. A finite number that is not 0, divided by 0, gives an infinity. -/
def Fmt.div (f : Fmt) (a b : Nat) : Option Nat :=
  match f.read a, f.read b with
  | .nan, _ => none
  | _, .nan => none
  | .inf _, .inf _ => none
  | .inf n1, .fin n2 _ _ => some (f.inf + if n1 == n2 then 0 else f.signBit)
  | .fin n1 _ _, .inf n2 => some (if n1 == n2 then 0 else f.signBit)
  | .fin n1 m1 e1, .fin n2 m2 e2 =>
    if m2 = 0 then (if m1 = 0 then none else some (f.inf + if n1 == n2 then 0 else f.signBit))
    else
      let k := 2 * f.frac + 12
      let q := (m1 <<< k) / m2
      let r := (m1 <<< k) % m2
      some (f.pack (n1 != n2) (2 * q + if r = 0 then 0 else 1) (e1 - e2 - (k : Int) - 1))

/-- The integer part of a square root, by n halvings of the interval. -/
def isqrtLoop (m : Nat) : Nat → Nat → Nat
  | 0, acc => acc
  | k + 1, acc =>
    let t := acc + 2 ^ k
    isqrtLoop m k (if t * t ≤ m then t else acc)

/-- The integer part of a square root. -/
def isqrt (m : Nat) : Nat := isqrtLoop m (Nat.log2 m / 2 + 1) 0

/-- The square root; none where it is not a number. -/
def Fmt.sqrt (f : Fmt) (a : Nat) : Option Nat :=
  match f.read a with
  | .nan => none
  | .inf n => if n then none else some a
  | .fin n m e =>
    if m = 0 then some a else if n then none else
      let k : Int := 2 * (f.frac : Int) + 8
      let e0 : Int := e - k
      let e1 : Int := if e0 % 2 = 0 then e0 else e0 - 1
      let v := m <<< (e - e1).toNat
      let r := isqrt v
      some (f.pack false (2 * r + if r * r = v then 0 else 1) (e1 / 2 - 1))

/-- Is the pattern not a number? -/
def Fmt.isNan (f : Fmt) (a : Nat) : Bool := decide (f.inf < a % f.signBit)
/-- Is the pattern a finite number? -/
def Fmt.isFin (f : Fmt) (a : Nat) : Bool := decide (a % f.signBit < f.inf)
/-- The place of a number on the line, -0 and +0 alike. -/
def Fmt.key (f : Fmt) (a : Nat) : Int :=
  if f.signBit ≤ a then -((a % f.signBit : Nat) : Int) else ((a % f.signBit : Nat) : Int)
/-- a < b; false with a NaN. -/
def Fmt.lt (f : Fmt) (a b : Nat) : Bool := !f.isNan a && !f.isNan b && decide (f.key a < f.key b)
/-- a = b; false with a NaN. -/
def Fmt.eq (f : Fmt) (a b : Nat) : Bool := !f.isNan a && !f.isNan b && decide (f.key a = f.key b)

/-- The integer nearest to a number, ties to even, with k binary places kept: rnd(a × 2^k). None for a NaN or an
infinity. -/
def Fmt.toInt (f : Fmt) (k : Int) (a : Nat) : Option Int :=
  match f.read a with
  | .fin n m e =>
    let s := e + k
    let v : Nat := if 0 ≤ s then m <<< s.toNat else rne m (-s).toNat
    some (if n then -(v : Int) else v)
  | _ => none

/-- The number of an integer times 2^e. -/
def Fmt.ofInt (f : Fmt) (i : Int) (e : Int) : Nat := f.pack (decide (i < 0)) i.natAbs e

/-- A pattern of one format in another, rounded once. -/
def Fmt.conv (f g : Fmt) (a : Nat) : Option Nat :=
  match f.read a with
  | .nan => none
  | .inf n => some (g.inf + if n then g.signBit else 0)
  | .fin n m e => some (g.pack n m e)

/-- The exact value as a ratio scaled by 2^k and cut down (towards -∞); for indexes. -/
def Fmt.floor (f : Fmt) (a : Nat) : Option Int :=
  match f.read a with
  | .fin n m e =>
    let v : Int := if n then -(m : Int) else m
    some (if 0 ≤ e then v * (2 ^ e.toNat : Nat) else v / (2 ^ (-e).toNat : Nat))
  | _ => none

/-- A binary32 NaN with a free sign and payload. -/
def nanOf (a b : Word) : Word := 0x7FC00000#32 ||| (Config.nan32 a b &&& 0x803FFFFF#32)
/-- A binary64 NaN with a free sign and payload. -/
def nanOf64 (a b : DWord) : DWord := 0x7FF8000000000000#64 ||| (Config.nan64 a b &&& 0x8007FFFFFFFFFFFF#64)

def lift32 (a b : Word) (r : Option Nat) : Word := match r with
  | some n => BitVec.ofNat 32 n
  | none => nanOf a b
def lift64 (a b : DWord) (r : Option Nat) : DWord := match r with
  | some n => BitVec.ofNat 64 n
  | none => nanOf64 a b

def fadd (a b : Word) : Word := lift32 a b (fmt32.add a.toNat b.toNat)
def fneg (a : Word) : Word := a ^^^ 0x80000000#32
def fsub (a b : Word) : Word := lift32 a b (fmt32.add a.toNat (fneg b).toNat)
def fmul (a b : Word) : Word := lift32 a b (fmt32.mul a.toNat b.toNat)
def fdiv (a b : Word) : Word := lift32 a b (fmt32.div a.toNat b.toNat)
def fsqrt (a : Word) : Word := lift32 a a (fmt32.sqrt a.toNat)
def fabs (a : Word) : Word := a &&& 0x7FFFFFFF#32
def flt (a b : Word) : Bool := fmt32.lt a.toNat b.toNat
def feq (a b : Word) : Bool := fmt32.eq a.toNat b.toNat
def fle (a b : Word) : Bool := flt a b || feq a b
def fisNan (a : Word) : Bool := fmt32.isNan a.toNat
def fisFin (a : Word) : Bool := fmt32.isFin a.toNat
/-- max as R220 defines it: b if a < b, and a otherwise. -/
def fmax (a b : Word) : Word := if flt a b then b else a
/-- min as R220 defines it: b if b < a, and a otherwise. -/
def fmin (a b : Word) : Word := if flt b a then b else a
def fofInt (i : Int) : Word := BitVec.ofNat 32 (fmt32.ofInt i 0)

def dadd (a b : DWord) : DWord := lift64 a b (fmt64.add a.toNat b.toNat)
def dneg (a : DWord) : DWord := a ^^^ 0x8000000000000000#64
def dsub (a b : DWord) : DWord := lift64 a b (fmt64.add a.toNat (dneg b).toNat)
def dmul (a b : DWord) : DWord := lift64 a b (fmt64.mul a.toNat b.toNat)
def ddiv (a b : DWord) : DWord := lift64 a b (fmt64.div a.toNat b.toNat)
def dsqrt (a : DWord) : DWord := lift64 a a (fmt64.sqrt a.toNat)
def dlt (a b : DWord) : Bool := fmt64.lt a.toNat b.toNat
def dle (a b : DWord) : Bool := dlt a b || fmt64.eq a.toNat b.toNat
def disFin (a : DWord) : Bool := fmt64.isFin a.toNat
def dofInt (i : Int) : DWord := BitVec.ofNat 64 (fmt64.ofInt i 0)
/-- binary32 to binary64, exact. -/
def widen (a : Word) : DWord := lift64 (a.setWidth 64) 0 (fmt32.conv fmt64 a.toNat)
/-- binary64 to binary32, rounded once. -/
def narrow (a : DWord) : Word := lift32 (a.setWidth 32) 0 (fmt64.conv fmt32 a.toNat)

/-- The value a word of a process image stands for, by TYPE (R387, R161): 0 binary32, 1 int32, 2 uint32, in
binary64. -/
def typedVal (ty : Nat) (w : Word) : DWord :=
  if ty = 1 then dofInt w.toInt else if ty = 2 then dofInt w.toNat else widen w

end Sys2Proof.Machine
end

