-- ==== Sys2Proof/Machine/RegTable.lean ====
section
/-! DEFINITION. The register map of the device, one descriptor per register of the tables of spec/
(R36 to R433): where it lies in the 256 KiB window, its fields, and for each field its access type (R6),
its reset value (R34) and the rule by which a value outside its range is taken. Field positions used by
the meanings are named here once (Fd.<REGISTER>_<FIELD>). -/

namespace Sys2Proof.Machine

/-- The access types of R6. -/
inductive Acc where
  | ro | rw | rws | w1c | wo | rc
  deriving DecidableEq, Repr

/-- How a field takes a written value outside its range, as the register tables say (assumption 6: the
rule is applied where the value is stored, so the field reads back the value taken). -/
inductive Norm where
  /-- every value is kept -/
  | keep
  /-- values outside lo to hi are clamped -/
  | clamp (lo hi : Nat)
  /-- 0 is taken as k -/
  | zeroAs (k : Nat)
  /-- a value above max is taken as v -/
  | aboveAs (max v : Nat)
  /-- two's complement of 8 bits, clamped to lo to hi -/
  | sclamp8 (lo hi : Int)
  /-- SLV_CTX_CFG.FPRI: context 0 keeps 0, the others hold 1 to 3 -/
  | fpri
  /-- SLV_CTX_CFG.TRIG: fixed for contexts 0 and 1 -/
  | trig
  /-- a binary32 below the given one, or not a number, is taken as it -/
  | f32Min (bits : Nat)
  /-- a binary32 above the given one is taken as it -/
  | f32Max (bits : Nat)
  /-- a binary32 that is zero, negative or not a number is taken as the given one -/
  | f32Pos (bits : Nat)
  /-- a binary32 clamped to 0 to 1 -/
  | f32Unit
  /-- a binary32 clamped to 0 to 24 (mA) -/
  | f32Range24
  deriving DecidableEq, Repr

/-- One field of a register: its bits, its access, its reset value by element (the last one given holds
for every further element). -/
structure FieldDesc where
  hi : Nat
  lo : Nat
  acc : Acc
  rst : List Nat
  norm : Norm
  deriving DecidableEq, Repr

/-- One register of a page: offset, stride and number of elements, and its fields. -/
structure RegDesc where
  off : Nat
  stride : Nat
  count : Nat
  fields : List FieldDesc
  deriving DecidableEq, Repr

/-- A field as the meanings name it: the byte offset of its word in the window, and its bits. -/
structure Fd where
  adr : Nat
  hi : Nat
  lo : Nat
  deriving DecidableEq, Repr

/-- The block registers of the SYS page (R36). -/
def sysRegs : List RegDesc := [
  -- SYS_MODE
  ⟨0x040, 4, 1, [⟨17, 16, .ro, [0], .keep⟩,
    ⟨11, 8, .ro, [1], .keep⟩,
    ⟨3, 0, .ro, [4], .keep⟩]⟩,
  -- SYS_MODE_REQ
  ⟨0x044, 4, 1, [⟨3, 0, .rws, [0], .keep⟩]⟩,
  -- SYS_STRAP
  ⟨0x048, 4, 1, [⟨5, 4, .ro, [0], .keep⟩,
    ⟨2, 2, .ro, [0], .keep⟩,
    ⟨1, 0, .ro, [0], .keep⟩]⟩,
  -- SYS_RST_CAUSE
  ⟨0x04C, 4, 1, [⟨6, 6, .w1c, [0], .keep⟩,
    ⟨5, 5, .w1c, [0], .keep⟩,
    ⟨4, 4, .w1c, [0], .keep⟩,
    ⟨3, 3, .w1c, [0], .keep⟩,
    ⟨2, 2, .w1c, [0], .keep⟩,
    ⟨1, 1, .w1c, [0], .keep⟩,
    ⟨0, 0, .w1c, [0], .keep⟩]⟩,
  -- SYS_BOOT_STAT
  ⟨0x050, 4, 1, [⟨7, 7, .ro, [0], .keep⟩,
    ⟨6, 6, .ro, [0], .keep⟩,
    ⟨5, 5, .ro, [0], .keep⟩,
    ⟨4, 4, .ro, [0], .keep⟩,
    ⟨3, 0, .ro, [0], .keep⟩]⟩,
  -- SYS_BOOT_CTRL
  ⟨0x054, 4, 1, [⟨0, 0, .wo, [0], .keep⟩]⟩,
  -- SYS_JOIN_WAIT
  ⟨0x058, 4, 1, [⟨15, 0, .rw, [0x2710], .clamp 100 60000⟩]⟩,
  -- SYS_SWRST
  ⟨0x05C, 4, 1, [⟨31, 0, .wo, [0], .keep⟩]⟩,
  -- SYS_FP
  ⟨0x060, 4, 4, [⟨31, 0, .ro, [0], .keep⟩]⟩ ]

/-- The block registers of the PWR page (R420). -/
def pwrRegs : List RegDesc := [
  -- PWR_ON
  ⟨0x040, 4, 1, [⟨13, 0, .ro, [0x3FFF], .keep⟩]⟩,
  -- PWR_IDLE_STAT
  ⟨0x044, 4, 1, [⟨13, 0, .ro, [0], .keep⟩]⟩,
  -- PWR_HOLD
  ⟨0x048, 4, 1, [⟨13, 0, .rws, [0], .keep⟩]⟩,
  -- PWR_IDLE_T
  ⟨0x04C, 4, 1, [⟨15, 0, .rws, [1000], .clamp 100 60000⟩]⟩,
  -- PWR_SUP
  ⟨0x050, 4, 1, [⟨4, 4, .ro, [0], .keep⟩,
    ⟨3, 3, .ro, [0], .keep⟩,
    ⟨2, 2, .ro, [0], .keep⟩,
    ⟨1, 1, .ro, [0], .keep⟩,
    ⟨0, 0, .ro, [0], .keep⟩]⟩,
  -- PWR_TEMP
  ⟨0x054, 4, 1, [⟨31, 16, .ro, [0], .keep⟩,
    ⟨15, 0, .ro, [0], .keep⟩]⟩,
  -- PWR_WAKES
  ⟨0x058, 4, 1, [⟨31, 16, .rc, [0], .keep⟩,
    ⟨15, 0, .rc, [0], .keep⟩]⟩,
  -- PWR_BANK_LS
  ⟨0x05C, 4, 1, [⟨0, 0, .rws, [0], .keep⟩]⟩ ]

/-- The block registers of the CLK page (R420). -/
def clkRegs : List RegDesc := [
  -- CLK_STAT
  ⟨0x040, 4, 1, [⟨5, 5, .ro, [0], .keep⟩,
    ⟨4, 4, .ro, [0], .keep⟩,
    ⟨3, 3, .ro, [0], .keep⟩,
    ⟨2, 2, .ro, [0], .keep⟩,
    ⟨1, 1, .ro, [0], .keep⟩,
    ⟨0, 0, .ro, [0], .keep⟩]⟩,
  -- CLK_XTAL
  ⟨0x044, 4, 1, [⟨31, 0, .ro, [0], .keep⟩]⟩,
  -- CLK_UNLOCK
  ⟨0x048, 4, 1, [⟨7, 0, .rc, [0], .keep⟩]⟩ ]

/-- The block registers of the SPR page (R359). -/
def sprRegs : List RegDesc := [
  -- SPR_TICK_LO
  ⟨0x040, 4, 1, [⟨31, 0, .ro, [0], .keep⟩]⟩,
  -- SPR_TICK_HI
  ⟨0x044, 4, 1, [⟨15, 0, .ro, [0], .keep⟩]⟩,
  -- SPR_SET_LO
  ⟨0x048, 4, 1, [⟨31, 0, .rws, [0], .keep⟩]⟩,
  -- SPR_SET_HI
  ⟨0x04C, 4, 1, [⟨31, 31, .rws, [0], .keep⟩,
    ⟨30, 30, .rws, [0], .keep⟩,
    ⟨15, 0, .rws, [0], .keep⟩]⟩,
  -- SPR_CIVIL
  ⟨0x050, 4, 1, [⟨31, 0, .rws, [0], .keep⟩]⟩,
  -- SPR_HOUR
  ⟨0x054, 4, 1, [⟨1, 0, .rws, [0], .keep⟩]⟩,
  -- SPR_CMP_LO
  ⟨0x058, 4, 1, [⟨31, 0, .rws, [0], .keep⟩]⟩,
  -- SPR_CMP_HI
  ⟨0x05C, 4, 1, [⟨31, 31, .rws, [0], .keep⟩,
    ⟨15, 0, .rws, [0], .keep⟩]⟩,
  -- SPR_SQW
  ⟨0x060, 4, 1, [⟨4, 4, .rws, [0], .keep⟩,
    ⟨3, 0, .rws, [15], .keep⟩]⟩,
  -- SPR_SNAP
  ⟨0x064, 4, 1, [⟨0, 0, .wo, [0], .keep⟩]⟩,
  -- SPR_SNAP_LO
  ⟨0x068, 4, 1, [⟨31, 0, .ro, [0], .keep⟩]⟩,
  -- SPR_SNAP_HI
  ⟨0x06C, 4, 1, [⟨15, 0, .ro, [0], .keep⟩]⟩ ] ++ [
  -- SPR_SNAP_OFS
  ⟨0x070, 4, 1, [⟨31, 0, .ro, [0], .keep⟩]⟩,
  -- SPR_STAT
  ⟨0x074, 4, 1, [⟨9, 9, .ro, [0], .keep⟩,
    ⟨8, 8, .ro, [0], .keep⟩,
    ⟨7, 7, .w1c, [0], .keep⟩,
    ⟨6, 6, .w1c, [0], .keep⟩,
    ⟨5, 5, .ro, [0], .keep⟩,
    ⟨4, 4, .ro, [0], .keep⟩,
    ⟨3, 3, .w1c, [1], .keep⟩,
    ⟨2, 2, .ro, [0], .keep⟩,
    ⟨1, 1, .ro, [0], .keep⟩,
    ⟨0, 0, .ro, [0], .keep⟩]⟩,
  -- SPR_PTP_OFS
  ⟨0x078, 4, 1, [⟨31, 0, .rws, [0x386D43A5], .keep⟩]⟩ ]

/-- The block registers of the RSV page (R420). -/
def rsvRegs : List RegDesc := [
  -- RSV_STAT
  ⟨0x040, 4, 1, [⟨31, 16, .ro, [0], .keep⟩,
    ⟨3, 2, .ro, [2], .keep⟩,
    ⟨1, 1, .ro, [0], .keep⟩,
    ⟨0, 0, .ro, [0], .keep⟩]⟩,
  -- RSV_CAP
  ⟨0x044, 4, 1, [⟨15, 0, .ro, [0], .keep⟩]⟩,
  -- RSV_CAP_FIRST
  ⟨0x048, 4, 1, [⟨15, 0, .ro, [0], .keep⟩]⟩,
  -- RSV_EUSE
  ⟨0x04C, 4, 1, [⟨15, 0, .ro, [0], .keep⟩]⟩,
  -- RSV_COMMIT
  ⟨0x050, 4, 1, [⟨31, 16, .ro, [0], .keep⟩,
    ⟨15, 0, .rc, [0], .keep⟩]⟩ ]

/-- The block registers of the WIR page (R105, R70). -/
def wirRegs : List RegDesc := [
  -- WIR_VOTE_STAT
  ⟨0x040, 4, 1, [⟨21, 21, .ro, [0], .keep⟩,
    ⟨20, 20, .ro, [0], .keep⟩,
    ⟨14, 12, .ro, [0], .keep⟩,
    ⟨10, 8, .ro, [0], .keep⟩,
    ⟨6, 4, .ro, [0], .keep⟩,
    ⟨1, 0, .ro, [0], .keep⟩]⟩,
  -- WIR_MISMATCH_LIMIT
  ⟨0x044, 4, 1, [⟨5, 0, .rws, [4], .clamp 1 32⟩]⟩,
  -- WIR_MISMATCH_CNT
  ⟨0x048, 4, 1, [⟨22, 16, .ro, [0], .keep⟩,
    ⟨14, 8, .ro, [0], .keep⟩,
    ⟨6, 0, .ro, [0], .keep⟩]⟩,
  -- WIR_MISMATCH_LAST
  ⟨0x04C, 4, 1, [⟨25, 24, .ro, [0], .keep⟩,
    ⟨23, 0, .ro, [0], .keep⟩]⟩,
  -- WIR_MISMATCH_CYC
  ⟨0x050, 4, 1, [⟨31, 0, .ro, [0], .keep⟩]⟩,
  -- WIR_SIDELINE
  ⟨0x054, 4, 1, [⟨7, 4, .ro, [0], .keep⟩,
    ⟨1, 0, .ro, [0], .keep⟩]⟩,
  -- WIR_ISO_STAT
  ⟨0x058, 4, 1, [⟨25, 25, .ro, [1], .keep⟩,
    ⟨24, 24, .ro, [1], .keep⟩,
    ⟨23, 16, .ro, [255], .keep⟩,
    ⟨15, 8, .ro, [255], .keep⟩,
    ⟨7, 0, .ro, [255], .keep⟩]⟩,
  -- WIR_ISO_OUT
  ⟨0x05C, 4, 1, [⟨15, 8, .ro, [255], .keep⟩,
    ⟨7, 0, .ro, [255], .keep⟩]⟩,
  -- WIR_LEG_DEV
  ⟨0x060, 4, 1, [⟨7, 0, .rws, [4], .clamp 2 64⟩]⟩,
  -- WIR_DISAGREE_REL
  ⟨0x064, 4, 1, [⟨0, 0, .rws, [0], .keep⟩]⟩,
  -- WIR_WDT
  ⟨0x068, 4, 1, [⟨15, 0, .rws, [20], .clamp 5 1000⟩]⟩,
  -- WIR_CLK_MON
  ⟨0x06C, 4, 1, [⟨17, 17, .ro, [0], .keep⟩,
    ⟨16, 16, .ro, [0], .keep⟩,
    ⟨15, 0, .ro, [0], .keep⟩]⟩ ] ++ [
  -- WIR_LOCK_FAULT
  ⟨0x070, 4, 1, [⟨19, 16, .ro, [0], .keep⟩,
    ⟨3, 0, .ro, [0], .keep⟩]⟩,
  -- WIR_ST_STAT
  ⟨0x074, 4, 1, [⟨8, 8, .ro, [0], .keep⟩,
    ⟨7, 7, .ro, [0], .keep⟩,
    ⟨6, 6, .ro, [0], .keep⟩,
    ⟨5, 5, .ro, [0], .keep⟩,
    ⟨4, 4, .ro, [0], .keep⟩,
    ⟨3, 3, .ro, [0], .keep⟩,
    ⟨2, 2, .ro, [0], .keep⟩,
    ⟨1, 1, .ro, [0], .keep⟩,
    ⟨0, 0, .ro, [0], .keep⟩]⟩,
  -- WIR_SAFE_CAUSE
  ⟨0x078, 4, 1, [⟨31, 29, .ro, [0], .keep⟩,
    ⟨28, 24, .ro, [0], .keep⟩,
    ⟨23, 0, .ro, [0], .keep⟩]⟩ ]

/-- The block registers of the SIB page (R69). -/
def sibRegs : List RegDesc := [
  -- SIB_CTRL
  ⟨0x040, 4, 1, [⟨7, 4, .rws, [9], .keep⟩,
    ⟨1, 1, .rws, [0], .keep⟩,
    ⟨0, 0, .rws, [0], .keep⟩]⟩,
  -- SIB_LINK_STAT
  ⟨0x044, 4, 2, [⟨15, 8, .rc, [0], .keep⟩,
    ⟨7, 6, .ro, [0], .keep⟩,
    ⟨5, 5, .ro, [0], .keep⟩,
    ⟨4, 3, .ro, [0], .keep⟩,
    ⟨2, 0, .ro, [0], .keep⟩]⟩,
  -- SIB_LINK_DELAY
  ⟨0x04C, 4, 2, [⟨15, 0, .ro, [0], .keep⟩]⟩,
  -- SIB_PEER
  ⟨0x054, 4, 2, [⟨31, 16, .ro, [0], .keep⟩,
    ⟨7, 7, .ro, [0], .keep⟩,
    ⟨6, 6, .ro, [0], .keep⟩,
    ⟨5, 5, .ro, [0], .keep⟩,
    ⟨4, 2, .ro, [0], .keep⟩,
    ⟨1, 0, .ro, [0], .keep⟩]⟩,
  -- SIB_TIME_BOUND
  ⟨0x05C, 4, 1, [⟨23, 16, .rws, [2], .zeroAs 1⟩,
    ⟨15, 0, .rws, [1000], .clamp 100 65535⟩]⟩,
  -- SIB_TIME_DEV
  ⟨0x060, 4, 1, [⟨31, 0, .ro, [0], .keep⟩]⟩,
  -- SIB_TIME_STAT
  ⟨0x064, 4, 1, [⟨31, 16, .rc, [0], .keep⟩,
    ⟨9, 8, .ro, [0], .keep⟩,
    ⟨7, 0, .ro, [0], .keep⟩]⟩,
  -- SIB_CYC_TMO
  ⟨0x068, 4, 1, [⟨15, 0, .rws, [200], .clamp 20 10000⟩]⟩,
  -- SIB_LOST_T
  ⟨0x06C, 4, 1, [⟨15, 0, .rws, [5000], .clamp 500 50000⟩]⟩,
  -- SIB_REJOIN
  ⟨0x070, 4, 1, [⟨31, 16, .rws, [256], .clamp 256 65535⟩,
    ⟨5, 4, .rws, [0], .keep⟩,
    ⟨3, 2, .rws, [0], .keep⟩,
    ⟨1, 0, .rws, [0], .keep⟩]⟩,
  -- SIB_REJOIN_STAT
  ⟨0x074, 4, 1, [⟨31, 16, .ro, [0], .keep⟩,
    ⟨7, 4, .ro, [0], .keep⟩,
    ⟨2, 0, .ro, [0], .keep⟩]⟩ ]

/-- The block registers of the ERR page (R104). -/
def errRegs : List RegDesc := [
  -- ERR_ACTIVE
  ⟨0x040, 4, 1, [⟨31, 27, .ro, [0], .keep⟩,
    ⟨26, 24, .ro, [0], .keep⟩,
    ⟨23, 0, .ro, [0], .keep⟩]⟩,
  -- ERR_QSTAT
  ⟨0x044, 4, 1, [⟨20, 16, .ro, [0], .keep⟩,
    ⟨15, 12, .ro, [0], .keep⟩,
    ⟨11, 8, .ro, [0], .keep⟩,
    ⟨7, 4, .ro, [0], .keep⟩,
    ⟨3, 0, .ro, [0], .keep⟩]⟩,
  -- ERR_COUNT
  ⟨0x048, 4, 5, [⟨31, 0, .rc, [0], .keep⟩]⟩,
  -- ERR_ESC
  ⟨0x05C, 4, 1, [⟨15, 8, .rc, [0], .keep⟩,
    ⟨7, 0, .rc, [0], .keep⟩]⟩,
  -- ERR_ASSIGN
  ⟨0x060, 4, 4, [⟨31, 0, .rws, [0x4000, 0], .keep⟩]⟩,
  -- ERR_TASK_MAX
  ⟨0x070, 4, 1, [⟨3, 0, .rws, [4], .clamp 1 8⟩]⟩,
  -- ERR_LOG_CNT
  ⟨0x074, 4, 1, [⟨31, 16, .rc, [0], .keep⟩,
    ⟨6, 0, .ro, [0], .keep⟩]⟩,
  -- ERR_LOG_POP
  ⟨0x078, 4, 1, [⟨0, 0, .wo, [0], .keep⟩]⟩,
  -- ERR_LOG_SRC
  ⟨0x07C, 4, 1, [⟨31, 31, .ro, [0], .keep⟩,
    ⟨30, 28, .ro, [0], .keep⟩,
    ⟨23, 0, .ro, [0], .keep⟩]⟩,
  -- ERR_LOG_INFO
  ⟨0x080, 4, 1, [⟨31, 24, .ro, [0], .keep⟩,
    ⟨23, 0, .ro, [0], .keep⟩]⟩,
  -- ERR_LOG_TIME_LO
  ⟨0x084, 4, 1, [⟨31, 0, .ro, [0], .keep⟩]⟩,
  -- ERR_LOG_TIME_HI
  ⟨0x088, 4, 1, [⟨31, 0, .ro, [0], .keep⟩]⟩ ] ++ [
  -- ERR_ACK
  ⟨0x08C, 4, 1, [⟨2, 0, .rws, [0], .keep⟩]⟩,
  -- ERR_RELEASE
  ⟨0x090, 4, 1, [⟨23, 0, .rws, [0], .keep⟩]⟩,
  -- ERR_INJECT
  ⟨0x094, 4, 1, [⟨30, 28, .wo, [0], .keep⟩,
    ⟨23, 0, .wo, [0], .keep⟩]⟩,
  -- ERR_HEALTH
  ⟨0x098, 4, 1, [⟨31, 24, .ro, [0], .keep⟩,
    ⟨23, 16, .ro, [0], .keep⟩,
    ⟨10, 8, .ro, [0], .keep⟩,
    ⟨0, 0, .ro, [0], .keep⟩]⟩ ]

/-- The block registers of the TXN page (R87). -/
def txnRegs : List RegDesc := [
  -- TXN_CMD
  ⟨0x040, 4, 1, [⟨9, 8, .wo, [0], .keep⟩,
    ⟨3, 0, .wo, [0], .keep⟩]⟩,
  -- TXN_LEAD
  ⟨0x044, 4, 1, [⟨13, 0, .rws, [1000], .clamp 100 10000⟩]⟩,
  -- TXN_STAGE_ADDR
  ⟨0x048, 4, 1, [⟨25, 2, .rw, [0], .keep⟩]⟩,
  -- TXN_STAGE_DATA
  ⟨0x04C, 4, 1, [⟨31, 0, .wo, [0], .keep⟩]⟩,
  -- TXN_LAST
  ⟨0x050, 4, 1, [⟨7, 4, .ro, [0], .keep⟩,
    ⟨3, 0, .ro, [0], .keep⟩]⟩,
  -- TXN_GRP_CFG
  ⟨0x080, 4, 16, [⟨20, 20, .rw, [0], .keep⟩,
    ⟨19, 16, .rw, [0], .keep⟩,
    ⟨12, 4, .rw, [0], .keep⟩,
    ⟨2, 0, .rw, [1], .keep⟩]⟩,
  -- TXN_GRP_STAT
  ⟨0x0C0, 4, 16, [⟨28, 16, .ro, [0], .keep⟩,
    ⟨15, 15, .ro, [0], .keep⟩,
    ⟨14, 14, .ro, [0], .keep⟩,
    ⟨13, 11, .ro, [0], .keep⟩,
    ⟨10, 7, .ro, [0], .keep⟩,
    ⟨2, 0, .ro, [0], .keep⟩]⟩,
  -- TXN_GRP_TIME_LO
  ⟨0x100, 8, 16, [⟨31, 0, .rw, [0], .keep⟩]⟩,
  -- TXN_GRP_TIME_HI
  ⟨0x104, 8, 16, [⟨31, 0, .rw, [0], .keep⟩]⟩ ]

/-- The block registers of the BSN page (R120). -/
def bsnRegs : List RegDesc := [
  -- BSN_RANK0
  ⟨0x040, 4, 1, [⟨2, 0, .rw, [3], .keep⟩,
    ⟨6, 4, .rw, [5], .keep⟩,
    ⟨10, 8, .rw, [6], .keep⟩,
    ⟨14, 12, .rw, [6], .keep⟩,
    ⟨18, 16, .rw, [1], .keep⟩,
    ⟨22, 20, .rw, [1], .keep⟩,
    ⟨26, 24, .rw, [2], .keep⟩,
    ⟨30, 28, .rw, [2], .keep⟩]⟩,
  -- BSN_RANK1
  ⟨0x044, 4, 1, [⟨14, 12, .rw, [0], .keep⟩,
    ⟨10, 8, .rw, [2], .keep⟩,
    ⟨6, 4, .rw, [5], .keep⟩,
    ⟨2, 0, .rw, [4], .keep⟩]⟩,
  -- BSN_MASK
  ⟨0x048, 4, 1, [⟨11, 0, .ro, [4095], .keep⟩]⟩,
  -- BSN_LOCK
  ⟨0x04C, 4, 1, [⟨15, 0, .ro, [0], .keep⟩]⟩,
  -- BSN_LOCK_OWN
  ⟨0x050, 4, 2, [⟨31, 0, .ro, [0], .keep⟩]⟩,
  -- BSN_ECC
  ⟨0x058, 4, 1, [⟨31, 16, .rc, [0], .keep⟩,
    ⟨15, 0, .rc, [0], .keep⟩]⟩,
  -- BSN_ECC_ADDR
  ⟨0x05C, 4, 1, [⟨23, 0, .ro, [0], .keep⟩]⟩,
  -- BSN_DISCARD
  ⟨0x060, 4, 1, [⟨31, 28, .ro, [0], .keep⟩,
    ⟨23, 0, .ro, [0], .keep⟩]⟩,
  -- BSN_SCRUB
  ⟨0x064, 4, 1, [⟨31, 16, .ro, [0], .keep⟩,
    ⟨15, 0, .ro, [0], .keep⟩]⟩,
  -- BSN_REGION_LO
  ⟨0x080, 8, 32, [⟨25, 12, .ro, [0], .keep⟩]⟩,
  -- BSN_REGION_HI
  ⟨0x084, 8, 32, [⟨31, 31, .ro, [0], .keep⟩,
    ⟨30, 30, .ro, [0], .keep⟩,
    ⟨29, 29, .ro, [0], .keep⟩,
    ⟨13, 0, .ro, [0], .keep⟩]⟩ ]

/-- The block registers of the SLV page (R156). -/
def slvRegs : List RegDesc := [
  -- SLV_LANES
  ⟨0x040, 4, 1, [⟨8, 0, .ro, [256], .keep⟩]⟩,
  -- SLV_LANE_OUT
  ⟨0x044, 4, 8, [⟨31, 0, .ro, [0], .keep⟩]⟩,
  -- SLV_CTX_CFG
  ⟨0x080, 4, 4, [⟨9, 8, .rws, [0, 1, 2, 3], .fpri⟩,
    ⟨6, 4, .rws, [1, 2, 0], .trig⟩,
    ⟨3, 2, .rws, [0], .keep⟩,
    ⟨0, 0, .rws, [0], .keep⟩]⟩,
  -- SLV_CTX_PERIOD
  ⟨0x090, 4, 4, [⟨16, 0, .rws, [300], .clamp 1 86400⟩]⟩,
  -- SLV_CTX_IMG
  ⟨0x0A0, 4, 4, [⟨25, 0, .ro, [0], .keep⟩]⟩,
  -- SLV_CTX_SBY
  ⟨0x0B0, 4, 4, [⟨25, 0, .ro, [0], .keep⟩]⟩,
  -- SLV_CTX_FP_LO
  ⟨0x0C0, 8, 4, [⟨31, 0, .ro, [0], .keep⟩]⟩,
  -- SLV_CTX_FP_HI
  ⟨0x0C4, 8, 4, [⟨31, 0, .ro, [0], .keep⟩]⟩,
  -- SLV_CTX_STAT
  ⟨0x0E0, 4, 4, [⟨31, 16, .rc, [0], .keep⟩,
    ⟨11, 8, .ro, [0], .keep⟩,
    ⟨5, 5, .w1c, [0], .keep⟩,
    ⟨2, 0, .ro, [0], .keep⟩]⟩,
  -- SLV_CTX_GO
  ⟨0x100, 4, 1, [⟨7, 4, .rws, [0], .keep⟩,
    ⟨3, 0, .rws, [0], .keep⟩]⟩,
  -- SLV_SWAP
  ⟨0x104, 4, 1, [⟨2, 2, .rws, [0], .keep⟩,
    ⟨1, 0, .rws, [0], .keep⟩]⟩,
  -- SLV_SWAP_HASH
  ⟨0x108, 4, 4, [⟨31, 0, .rws, [0], .keep⟩]⟩ ] ++ [
  -- SLV_DQ_BASE
  ⟨0x120, 4, 4, [⟨25, 0, .ro, [0], .keep⟩]⟩,
  -- SLV_DQ_LAST
  ⟨0x130, 4, 4, [⟨15, 0, .ro, [0], .keep⟩]⟩,
  -- SLV_DQ_STAT
  ⟨0x140, 4, 4, [⟨31, 16, .rc, [0], .keep⟩,
    ⟨9, 9, .w1c, [0], .keep⟩,
    ⟨8, 8, .w1c, [0], .keep⟩,
    ⟨7, 0, .ro, [0], .keep⟩]⟩,
  -- SLV_PLAN
  ⟨0x150, 4, 1, [⟨8, 8, .rws, [0], .keep⟩,
    ⟨7, 4, .rws, [15], .keep⟩,
    ⟨3, 0, .rws, [14], .keep⟩]⟩,
  -- SLV_OPT_STAGE
  ⟨0x154, 4, 1, [⟨15, 0, .rws, [900], .clamp 60 3600⟩]⟩,
  -- SLV_EST_BAD
  ⟨0x158, 4, 1, [⟨31, 0, .rws, [0x40800000], .f32Min 0x40000000⟩]⟩,
  -- SLV_EST_W
  ⟨0x15C, 4, 1, [⟨12, 8, .rws, [20], .keep⟩,
    ⟨4, 0, .rws, [8], .keep⟩]⟩,
  -- SLV_EST_QMIN
  ⟨0x160, 4, 1, [⟨31, 0, .rws, [0x3D4CCCCD], .keep⟩]⟩,
  -- SLV_EST_HIST
  ⟨0x164, 4, 1, [⟨10, 0, .ro, [0], .keep⟩]⟩ ]

/-- The block registers of the SLC page (R184). -/
def slcRegs : List RegDesc := [
  -- SLC_PIVMIN
  ⟨0x040, 4, 1, [⟨31, 0, .rws, [0x35800000], .f32Max 0x3B800000⟩]⟩,
  -- SLC_WARM_MIN
  ⟨0x044, 4, 1, [⟨6, 0, .rws, [60], .clamp 0 100⟩]⟩,
  -- SLC_SYNC_WAIT
  ⟨0x048, 4, 1, [⟨15, 0, .rws, [50], .clamp 1 10000⟩]⟩,
  -- SLC_PLAN_ON
  ⟨0x04C, 4, 1, [⟨1, 1, .rws, [0], .keep⟩,
    ⟨0, 0, .rws, [1], .keep⟩]⟩,
  -- SLC_INFEAS_N
  ⟨0x050, 4, 1, [⟨7, 0, .rws, [5], .zeroAs 1⟩]⟩,
  -- SLC_COLD
  ⟨0x054, 4, 1, [⟨3, 0, .rws, [0], .keep⟩]⟩,
  -- SLC_LANE_FAIL
  ⟨0x058, 4, 1, [⟨8, 8, .ro, [0], .keep⟩,
    ⟨7, 0, .ro, [0], .keep⟩]⟩,
  -- SLC_CRIT
  ⟨0x05C, 4, 1, [⟨16, 0, .ro, [0], .keep⟩]⟩,
  -- SLC_DEADLINE
  ⟨0x060, 4, 4, [⟨31, 0, .rws, [0x927C0, 0x1C9C380, 0xF4240], .clamp 1000 0xFFFFFFFF⟩]⟩,
  -- SLC_ITER_CAP
  ⟨0x070, 4, 4, [⟨7, 0, .rws, [10, 80, 50], .zeroAs 1⟩]⟩,
  -- SLC_GRP
  ⟨0x080, 4, 4, [⟨7, 4, .rws, [11, 13, 0], .keep⟩,
    ⟨3, 0, .rws, [10, 12, 0], .keep⟩]⟩,
  -- SLC_GATHER
  ⟨0x090, 4, 4, [⟨0, 0, .rws, [0], .keep⟩]⟩ ] ++ [
  -- SLC_WIN_BASE
  ⟨0x0A0, 8, 4, [⟨17, 0, .ro, [0], .keep⟩]⟩,
  -- SLC_WIN_LEN
  ⟨0x0A4, 8, 4, [⟨17, 0, .ro, [0], .keep⟩]⟩,
  -- SLC_RUN
  ⟨0x0C0, 4, 4, [⟨31, 16, .ro, [0], .keep⟩,
    ⟨8, 8, .ro, [0], .keep⟩,
    ⟨7, 3, .ro, [0], .keep⟩,
    ⟨2, 0, .ro, [0], .keep⟩]⟩,
  -- SLC_ITER
  ⟨0x0D0, 4, 4, [⟨31, 20, .ro, [0], .keep⟩,
    ⟨19, 8, .ro, [0], .keep⟩,
    ⟨1, 0, .ro, [0], .keep⟩]⟩,
  -- SLC_TIME
  ⟨0x0E0, 4, 4, [⟨31, 0, .ro, [0], .keep⟩]⟩,
  -- SLC_PIVOT
  ⟨0x0F0, 4, 4, [⟨31, 20, .ro, [0], .keep⟩,
    ⟨19, 0, .ro, [0], .keep⟩]⟩,
  -- SLC_SAT_STEP
  ⟨0x100, 8, 4, [⟨31, 31, .w1c, [0], .keep⟩,
    ⟨13, 0, .ro, [0], .keep⟩]⟩,
  -- SLC_SAT_INDEX
  ⟨0x104, 8, 4, [⟨23, 0, .ro, [0], .keep⟩]⟩,
  -- SLC_WARM
  ⟨0x120, 4, 4, [⟨18, 16, .ro, [0], .keep⟩,
    ⟨15, 0, .ro, [0], .keep⟩]⟩,
  -- SLC_REFRES
  ⟨0x130, 4, 4, [⟨31, 0, .ro, [0], .keep⟩]⟩,
  -- SLC_SYNC_STAT
  ⟨0x140, 4, 4, [⟨31, 20, .ro, [0], .keep⟩,
    ⟨11, 4, .rc, [0], .keep⟩,
    ⟨3, 3, .ro, [0], .keep⟩,
    ⟨2, 2, .ro, [0], .keep⟩]⟩,
  -- SLC_PUB
  ⟨0x160, 4, 4, [⟨0, 0, .rws, [0], .keep⟩]⟩ ] ++ [
  -- SLC_RESID
  ⟨0x180, 4, 32, [⟨31, 0, .ro, [0], .keep⟩]⟩,
  -- SLC_TOL
  ⟨0x200, 4, 32, [⟨31, 0, .rws, [0x3727C5AC], .f32Pos 0x33800000⟩]⟩,
  -- SLC_SUSP_ROW
  ⟨0x280, 8, 16, [⟨31, 31, .ro, [0], .keep⟩,
    ⟨30, 30, .ro, [0], .keep⟩,
    ⟨16, 0, .ro, [0], .keep⟩]⟩,
  -- SLC_SUSP_RN
  ⟨0x284, 8, 16, [⟨31, 0, .ro, [0], .keep⟩]⟩,
  -- SLC_GLIST
  ⟨0x300, 4, 8, [⟨25, 0, .ro, [0], .keep⟩]⟩,
  -- SLC_SYNC_MARK
  ⟨0x320, 4, 4, [⟨31, 0, .rws, [0], .keep⟩]⟩ ]

/-- The block registers of the LOP page (R207). -/
def lopRegs : List RegDesc := [
  -- LOP_CFG_BASE
  ⟨0x040, 4, 1, [⟨25, 0, .ro, [0], .keep⟩]⟩,
  -- LOP_STATE_BASE
  ⟨0x044, 4, 1, [⟨25, 0, .ro, [0], .keep⟩]⟩,
  -- LOP_SP_BASE
  ⟨0x048, 4, 1, [⟨25, 0, .ro, [0], .keep⟩]⟩,
  -- LOP_TEST_BASE
  ⟨0x04C, 4, 1, [⟨25, 0, .ro, [0], .keep⟩]⟩,
  -- LOP_CAP_BASE
  ⟨0x050, 4, 1, [⟨25, 0, .ro, [0], .keep⟩]⟩,
  -- LOP_TICK
  ⟨0x054, 4, 1, [⟨31, 16, .rc, [0], .keep⟩,
    ⟨9, 0, .ro, [0], .keep⟩]⟩,
  -- LOP_UPD
  ⟨0x058, 4, 1, [⟨20, 0, .ro, [0], .keep⟩]⟩,
  -- LOP_EN
  ⟨0x080, 4, 16, [⟨31, 0, .rws, [0], .keep⟩]⟩,
  -- LOP_BANK
  ⟨0x0C0, 4, 16, [⟨31, 0, .rws, [0], .keep⟩]⟩,
  -- LOP_BANK_ACT
  ⟨0x100, 4, 16, [⟨31, 0, .ro, [0], .keep⟩]⟩,
  -- LOP_RUNNING
  ⟨0x140, 4, 16, [⟨31, 0, .ro, [0], .keep⟩]⟩,
  -- LOP_INVALID
  ⟨0x180, 4, 16, [⟨31, 0, .ro, [0], .keep⟩]⟩ ] ++ [
  -- LOP_SATALM
  ⟨0x1C0, 4, 16, [⟨31, 0, .ro, [0], .keep⟩]⟩,
  -- LOP_TEST
  ⟨0x200, 4, 8, [⟨31, 31, .rws, [0], .keep⟩,
    ⟨30, 30, .rws, [0], .keep⟩,
    ⟨29, 27, .rws, [0], .keep⟩,
    ⟨26, 23, .rws, [0], .keep⟩,
    ⟨8, 0, .rws, [0], .keep⟩]⟩,
  -- LOP_TEST_STAT
  ⟨0x220, 4, 8, [⟨31, 31, .w1c, [0], .keep⟩,
    ⟨23, 0, .ro, [0], .keep⟩]⟩,
  -- LOP_CAP_CTRL
  ⟨0x240, 32, 4, [⟨31, 31, .rws, [0], .keep⟩,
    ⟨30, 28, .rws, [0], .aboveAs 3 0⟩,
    ⟨27, 25, .rws, [0], .keep⟩,
    ⟨8, 0, .rws, [0], .keep⟩]⟩,
  -- LOP_CAP_SIG
  ⟨0x244, 32, 4, [⟨23, 16, .rws, [0], .aboveAs 9 0⟩,
    ⟨15, 8, .rws, [0], .aboveAs 9 0⟩,
    ⟨7, 0, .rws, [0], .aboveAs 9 0⟩]⟩,
  -- LOP_CAP_TOTAL
  ⟨0x248, 32, 4, [⟨16, 0, .rws, [0x10000], .clamp 1 65536⟩]⟩,
  -- LOP_CAP_PRE
  ⟨0x24C, 32, 4, [⟨16, 0, .rws, [0], .keep⟩]⟩,
  -- LOP_CAP_LEVEL
  ⟨0x250, 32, 4, [⟨31, 0, .rws, [0], .keep⟩]⟩,
  -- LOP_CAP_ADDR
  ⟨0x254, 32, 4, [⟨23, 0, .rws, [0], .keep⟩]⟩,
  -- LOP_CAP_STAT
  ⟨0x2C0, 4, 4, [⟨31, 29, .ro, [0], .keep⟩,
    ⟨16, 0, .ro, [0], .keep⟩]⟩ ]

/-- The block registers of the SCN page (R233). -/
def scnRegs : List RegDesc := [
  -- SCN_STAT
  ⟨0x040, 4, 1, [⟨11, 11, .w1c, [0], .keep⟩,
    ⟨10, 10, .w1c, [0], .keep⟩,
    ⟨9, 9, .ro, [0], .keep⟩,
    ⟨8, 8, .ro, [0], .keep⟩,
    ⟨5, 5, .ro, [0], .keep⟩,
    ⟨4, 4, .ro, [0], .keep⟩,
    ⟨3, 3, .ro, [0], .keep⟩,
    ⟨2, 0, .ro, [0], .keep⟩]⟩,
  -- SCN_CYC_NUM
  ⟨0x044, 4, 1, [⟨31, 0, .ro, [0], .keep⟩]⟩,
  -- SCN_CYC_MAX
  ⟨0x048, 4, 1, [⟨16, 0, .rws, [0x2710], .clamp 100 100000⟩]⟩,
  -- SCN_CYC_LAST
  ⟨0x04C, 4, 1, [⟨16, 0, .ro, [0], .keep⟩]⟩,
  -- SCN_P3_LAST
  ⟨0x050, 4, 1, [⟨16, 0, .ro, [0], .keep⟩]⟩,
  -- SCN_FORCE_KEY
  ⟨0x054, 4, 1, [⟨31, 0, .wo, [0], .keep⟩]⟩,
  -- SCN_KEY_TTL
  ⟨0x058, 4, 1, [⟨15, 0, .rws, [3600], .clamp 60 65535⟩]⟩,
  -- SCN_FORCE_CNT
  ⟨0x05C, 4, 1, [⟨31, 16, .rc, [0], .keep⟩,
    ⟨8, 0, .ro, [0], .keep⟩]⟩,
  -- SCN_LATCH
  ⟨0x060, 4, 1, [⟨14, 0, .ro, [0], .keep⟩]⟩,
  -- SCN_ENTRY
  ⟨0x064, 4, 1, [⟨31, 16, .ro, [0], .keep⟩,
    ⟨15, 0, .ro, [0], .keep⟩]⟩,
  -- SCN_STATE_BASE
  ⟨0x068, 4, 1, [⟨25, 0, .ro, [0], .keep⟩]⟩,
  -- SCN_TIME_LO
  ⟨0x06C, 4, 1, [⟨31, 0, .ro, [0], .keep⟩]⟩ ] ++ [
  -- SCN_TIME_HI
  ⟨0x070, 4, 1, [⟨31, 0, .ro, [0], .keep⟩]⟩,
  -- SCN_ERRTASK
  ⟨0x074, 4, 1, [⟨15, 8, .ro, [0], .keep⟩,
    ⟨7, 0, .ro, [0], .keep⟩]⟩,
  -- SCN_GRP
  ⟨0x078, 4, 1, [⟨4, 4, .ro, [0], .keep⟩,
    ⟨3, 0, .ro, [0], .keep⟩]⟩,
  -- SCN_AGREE
  ⟨0x07C, 4, 1, [⟨31, 16, .rc, [0], .keep⟩,
    ⟨15, 0, .ro, [0], .keep⟩]⟩ ]

/-- The block registers of the STN page (R253). -/
def stnRegs : List RegDesc := [
  -- STN_CTRL
  ⟨0x040, 4, 1, [⟨0, 0, .rws, [0], .keep⟩]⟩,
  -- STN_PORT
  ⟨0x044, 4, 1, [⟨18, 16, .rws, [6], .keep⟩,
    ⟨15, 0, .rws, [0xB87E], .keep⟩]⟩,
  -- STN_MCAST_UP
  ⟨0x048, 4, 1, [⟨31, 0, .rws, [0xEFC02F01], .keep⟩]⟩,
  -- STN_MCAST_DN
  ⟨0x04C, 4, 1, [⟨31, 0, .rws, [0xEFC02F02], .keep⟩]⟩,
  -- STN_CYCLE
  ⟨0x050, 4, 1, [⟨13, 0, .rws, [1000], .clamp 100 10000⟩]⟩,
  -- STN_TIMING
  ⟨0x054, 4, 1, [⟨31, 16, .rws, [2000], .keep⟩,
    ⟨15, 0, .rws, [1500], .keep⟩]⟩,
  -- STN_SNAP
  ⟨0x058, 4, 1, [⟨23, 0, .rws, [0x9C40], .keep⟩]⟩,
  -- STN_WATCH
  ⟨0x05C, 4, 1, [⟨15, 8, .rws, [3], .zeroAs 1⟩,
    ⟨7, 0, .rws, [3], .zeroAs 1⟩]⟩,
  -- STN_TABLE_BASE
  ⟨0x060, 4, 1, [⟨25, 0, .ro, [0], .keep⟩]⟩,
  -- STN_COUNT0
  ⟨0x064, 4, 1, [⟨26, 16, .ro, [0], .keep⟩,
    ⟨10, 0, .ro, [0], .keep⟩]⟩,
  -- STN_COUNT1
  ⟨0x068, 4, 1, [⟨26, 16, .ro, [0], .keep⟩,
    ⟨10, 0, .ro, [0], .keep⟩]⟩,
  -- STN_RX
  ⟨0x06C, 4, 1, [⟨31, 24, .rc, [0], .keep⟩,
    ⟨23, 16, .rc, [0], .keep⟩,
    ⟨15, 8, .rc, [0], .keep⟩,
    ⟨7, 0, .rc, [0], .keep⟩]⟩ ] ++ [
  -- STN_LATE
  ⟨0x070, 4, 1, [⟨31, 16, .rc, [0], .keep⟩,
    ⟨15, 0, .rc, [0], .keep⟩]⟩,
  -- STN_RXMIN
  ⟨0x074, 4, 1, [⟨23, 16, .ro, [0], .keep⟩,
    ⟨10, 0, .ro, [0], .keep⟩]⟩,
  -- STN_SEL
  ⟨0x078, 4, 1, [⟨9, 0, .rw, [0], .keep⟩]⟩,
  -- STN_SEL_STAT
  ⟨0x07C, 4, 1, [⟨31, 24, .ro, [0], .keep⟩,
    ⟨23, 16, .ro, [0], .keep⟩,
    ⟨10, 8, .ro, [0], .keep⟩,
    ⟨5, 5, .ro, [0], .keep⟩,
    ⟨4, 4, .ro, [1], .keep⟩,
    ⟨2, 0, .ro, [0], .keep⟩]⟩,
  -- STN_SEL_BOOT
  ⟨0x080, 4, 1, [⟨31, 0, .ro, [0], .keep⟩]⟩,
  -- STN_SEL_SEQ
  ⟨0x084, 4, 1, [⟨31, 0, .ro, [0], .keep⟩]⟩,
  -- STN_SEL_LLDP
  ⟨0x088, 4, 1, [⟨31, 0, .ro, [0], .keep⟩]⟩,
  -- STN_RETIRED
  ⟨0x0C0, 4, 32, [⟨31, 0, .rws, [0], .keep⟩]⟩ ]

/-- The block registers of the LUM page (R274). -/
def lumRegs : List RegDesc := [
  -- LUM_CTRL
  ⟨0x040, 4, 1, [⟨0, 0, .rws, [0], .keep⟩]⟩,
  -- LUM_ZONE_BASE
  ⟨0x044, 4, 1, [⟨25, 0, .ro, [0], .keep⟩]⟩,
  -- LUM_RECIPE_BASE
  ⟨0x048, 4, 1, [⟨25, 0, .ro, [0], .keep⟩]⟩,
  -- LUM_SP_BASE
  ⟨0x04C, 4, 1, [⟨25, 0, .ro, [0], .keep⟩]⟩,
  -- LUM_DLI_BASE
  ⟨0x050, 4, 1, [⟨25, 0, .ro, [0], .keep⟩]⟩,
  -- LUM_CIVIL
  ⟨0x054, 4, 1, [⟨31, 0, .rws, [0], .keep⟩]⟩,
  -- LUM_DAY
  ⟨0x058, 4, 1, [⟨16, 0, .rws, [0], .aboveAs 86399 0⟩]⟩,
  -- LUM_RPT
  ⟨0x05C, 4, 1, [⟨23, 0, .ro, [0], .keep⟩]⟩,
  -- LUM_STAT
  ⟨0x060, 4, 1, [⟨31, 16, .rc, [0], .keep⟩,
    ⟨10, 0, .ro, [0], .keep⟩]⟩,
  -- LUM_SEL
  ⟨0x064, 4, 1, [⟨12, 10, .rw, [0], .keep⟩,
    ⟨9, 0, .rw, [0], .keep⟩]⟩,
  -- LUM_SEL_SP
  ⟨0x068, 4, 1, [⟨31, 0, .ro, [0], .keep⟩]⟩,
  -- LUM_SEL_DLI
  ⟨0x06C, 4, 1, [⟨31, 0, .ro, [0], .keep⟩]⟩ ] ++ [
  -- LUM_ZONE_BAD
  ⟨0x080, 4, 32, [⟨31, 0, .ro, [0], .keep⟩]⟩,
  -- LUM_GRP_INT
  ⟨0x100, 4, 64, [⟨31, 0, .rws, [0], .f32Unit⟩]⟩ ]

/-- The block registers of the PMS page (R276). -/
def pmsRegs : List RegDesc := [
  -- PMS_CTRL
  ⟨0x040, 4, 1, [⟨5, 4, .rws, [0], .keep⟩,
    ⟨1, 1, .rws, [0], .keep⟩,
    ⟨0, 0, .rws, [0], .keep⟩]⟩,
  -- PMS_LEVEL
  ⟨0x044, 4, 1, [⟨9, 9, .ro, [0], .keep⟩,
    ⟨8, 8, .ro, [0], .keep⟩,
    ⟨7, 4, .ro, [0], .keep⟩,
    ⟨3, 0, .ro, [0], .keep⟩]⟩,
  -- PMS_LEAD
  ⟨0x048, 4, 1, [⟨13, 0, .rws, [2000], .clamp 500 10000⟩]⟩,
  -- PMS_RESTORE
  ⟨0x04C, 4, 1, [⟨31, 16, .rws, [10], .clamp 1 3600⟩,
    ⟨15, 0, .rws, [500], .clamp 50 60000⟩]⟩,
  -- PMS_RST_BAND
  ⟨0x050, 4, 1, [⟨31, 16, .rws, [500], .keep⟩,
    ⟨15, 0, .rws, [200], .keep⟩]⟩,
  -- PMS_CAP_BASE
  ⟨0x054, 4, 1, [⟨25, 0, .ro, [0], .keep⟩]⟩,
  -- PMS_LAST_LO
  ⟨0x058, 4, 1, [⟨31, 0, .ro, [0], .keep⟩]⟩,
  -- PMS_LAST_HI
  ⟨0x05C, 4, 1, [⟨31, 0, .ro, [0], .keep⟩]⟩,
  -- PMS_LAST_SRC
  ⟨0x060, 4, 1, [⟨31, 16, .rc, [0], .keep⟩,
    ⟨11, 8, .ro, [0], .keep⟩,
    ⟨3, 0, .ro, [0], .keep⟩]⟩,
  -- PMS_GEN
  ⟨0x080, 4, 16, [⟨31, 31, .rws, [0], .keep⟩,
    ⟨30, 30, .rws, [0], .keep⟩,
    ⟨29, 29, .rws, [0], .keep⟩,
    ⟨12, 8, .rws, [0], .keep⟩,
    ⟨4, 0, .rws, [0], .keep⟩]⟩,
  -- PMS_TIE
  ⟨0x0C0, 4, 2, [⟨31, 31, .rws, [0], .keep⟩,
    ⟨30, 30, .rws, [0], .keep⟩,
    ⟨4, 0, .rws, [0], .keep⟩]⟩,
  -- PMS_STAGE_CTRL
  ⟨0x100, 32, 8, [⟨31, 31, .rws, [0], .keep⟩,
    ⟨30, 30, .rws, [1], .keep⟩,
    ⟨29, 29, .rws, [0], .keep⟩,
    ⟨23, 16, .rws, [0], .keep⟩,
    ⟨15, 0, .rws, [0], .keep⟩]⟩ ] ++ [
  -- PMS_STAGE_UF_HZ
  ⟨0x104, 32, 8, [⟨31, 0, .rws, [0], .keep⟩]⟩,
  -- PMS_STAGE_WIN
  ⟨0x108, 32, 8, [⟨15, 8, .rws, [5], .clamp 2 50⟩,
    ⟨7, 0, .rws, [3], .clamp 1 16⟩]⟩,
  -- PMS_STAGE_ROCOF
  ⟨0x10C, 32, 8, [⟨31, 0, .rws, [0], .keep⟩]⟩,
  -- PMS_STAGE_OVL_A
  ⟨0x110, 32, 8, [⟨31, 0, .rws, [0], .keep⟩]⟩,
  -- PMS_STAGE_OVL
  ⟨0x114, 32, 8, [⟨25, 24, .rws, [0], .keep⟩,
    ⟨15, 0, .rws, [100], .keep⟩]⟩,
  -- PMS_STAGE_DELAY
  ⟨0x118, 32, 8, [⟨15, 0, .rws, [30], .keep⟩]⟩ ]

/-- The block registers of the NRG page (R300). -/
def nrgRegs : List RegDesc := [
  -- NRG_CTRL
  ⟨0x040, 4, 1, [⟨2, 2, .rws, [1], .keep⟩,
    ⟨1, 1, .rws, [1], .keep⟩,
    ⟨0, 0, .rws, [0], .keep⟩]⟩,
  -- NRG_QTY_BASE
  ⟨0x044, 4, 1, [⟨25, 0, .ro, [0], .keep⟩]⟩,
  -- NRG_ACC_BASE
  ⟨0x048, 4, 1, [⟨25, 0, .ro, [0], .keep⟩]⟩,
  -- NRG_RHO_BASE
  ⟨0x04C, 4, 1, [⟨25, 0, .ro, [0], .keep⟩]⟩,
  -- NRG_CP_BASE
  ⟨0x050, 4, 1, [⟨25, 0, .ro, [0], .keep⟩]⟩,
  -- NRG_SAVE
  ⟨0x054, 4, 1, [⟨11, 0, .rws, [60], .clamp 1 3600⟩]⟩,
  -- NRG_INT
  ⟨0x058, 4, 1, [⟨16, 0, .rws, [900], .clamp 60 86400⟩]⟩,
  -- NRG_ZC
  ⟨0x05C, 4, 1, [⟨20, 16, .rws, [2], .clamp 1 20⟩,
    ⟨9, 0, .rws, [50], .clamp 25 1000⟩]⟩,
  -- NRG_RATIO
  ⟨0x060, 4, 8, [⟨31, 0, .rws, [0x3F800000], .keep⟩]⟩,
  -- NRG_IMG
  ⟨0x080, 4, 1, [⟨23, 0, .ro, [0], .keep⟩]⟩,
  -- NRG_STAT
  ⟨0x084, 4, 1, [⟨11, 8, .ro, [15], .keep⟩,
    ⟨0, 0, .ro, [0], .keep⟩]⟩,
  -- NRG_SLOT_STAT
  ⟨0x088, 4, 1, [⟨7, 7, .w1c, [0], .keep⟩,
    ⟨6, 6, .ro, [0], .keep⟩,
    ⟨5, 5, .ro, [0], .keep⟩,
    ⟨4, 4, .ro, [0], .keep⟩,
    ⟨3, 3, .ro, [0], .keep⟩,
    ⟨2, 0, .ro, [0], .keep⟩]⟩ ] ++ [
  -- NRG_SLOT_SEQ
  ⟨0x08C, 4, 1, [⟨31, 0, .ro, [0], .keep⟩]⟩,
  -- NRG_ACC_SEL
  ⟨0x090, 4, 1, [⟨7, 0, .rw, [0], .keep⟩]⟩,
  -- NRG_ACC_LO
  ⟨0x094, 4, 1, [⟨31, 0, .ro, [0], .keep⟩]⟩,
  -- NRG_ACC_HI
  ⟨0x098, 4, 1, [⟨31, 0, .ro, [0], .keep⟩]⟩,
  -- NRG_WRAP
  ⟨0x0A0, 4, 8, [⟨31, 0, .w1c, [0], .keep⟩]⟩,
  -- NRG_INVALID
  ⟨0x0C0, 4, 4, [⟨31, 0, .ro, [0], .keep⟩]⟩ ]

/-- The block registers of the PLS page (R301). -/
def plsRegs : List RegDesc := [
  -- PLS_SPC_CFG
  ⟨0x040, 4, 8, [⟨31, 31, .rws, [0], .keep⟩,
    ⟨11, 11, .rws, [0], .keep⟩,
    ⟨10, 8, .rws, [0], .keep⟩,
    ⟨7, 7, .rws, [0], .keep⟩,
    ⟨4, 0, .rws, [10], .zeroAs 1⟩]⟩,
  -- PLS_SPC_FWD
  ⟨0x060, 4, 8, [⟨31, 0, .ro, [0], .keep⟩]⟩,
  -- PLS_SPC_REV
  ⟨0x080, 4, 8, [⟨31, 0, .ro, [0], .keep⟩]⟩,
  -- PLS_SPC_STAT
  ⟨0x0A0, 4, 1, [⟨7, 0, .ro, [0], .keep⟩]⟩,
  -- PLS_OUT_CFG_CTRL
  ⟨0x0C0, 8, 4, [⟨31, 31, .rws, [0], .keep⟩,
    ⟨21, 13, .rws, [100], .clamp 10 500⟩,
    ⟨12, 8, .rws, [0], .keep⟩,
    ⟨7, 0, .rws, [0], .keep⟩]⟩,
  -- PLS_OUT_CFG_WEIGHT
  ⟨0x0C4, 8, 4, [⟨31, 0, .rws, [1], .zeroAs 1⟩]⟩,
  -- PLS_OUT_STAT
  ⟨0x0E0, 4, 4, [⟨31, 31, .w1c, [0], .keep⟩,
    ⟨30, 30, .ro, [0], .keep⟩,
    ⟨24, 16, .ro, [0], .keep⟩,
    ⟨15, 0, .ro, [0], .keep⟩]⟩ ]

/-- The block registers of the ADC page (R320). -/
def adcRegs : List RegDesc := [
  -- ADC_CTRL
  ⟨0x040, 4, 1, [⟨1, 1, .rws, [0], .keep⟩,
    ⟨0, 0, .rws, [0], .keep⟩]⟩,
  -- ADC_SEQ
  ⟨0x044, 4, 4, [⟨21, 16, .rws, [0, 1, 0], .keep⟩,
    ⟨10, 8, .rws, [2, 0], .clamp 0 4⟩,
    ⟨2, 0, .rws, [1, 1, 0], .aboveAs 4 0⟩]⟩,
  -- ADC_SEQ_PER
  ⟨0x054, 4, 4, [⟨19, 0, .rws, [1000], .clamp 10 1000000⟩]⟩,
  -- ADC_Q_STAT
  ⟨0x064, 4, 1, [⟨31, 16, .rc, [0], .keep⟩,
    ⟨12, 0, .ro, [0], .keep⟩]⟩,
  -- ADC_SEQ_OVR
  ⟨0x068, 4, 1, [⟨31, 0, .rc, [0], .keep⟩]⟩,
  -- ADC_SEQ_STAT
  ⟨0x06C, 4, 1, [⟨3, 0, .ro, [0], .keep⟩]⟩,
  -- ADC_RING_BASE
  ⟨0x070, 4, 1, [⟨25, 0, .ro, [0], .keep⟩]⟩,
  -- ADC_RING_LEN
  ⟨0x074, 4, 1, [⟨4, 0, .ro, [0], .keep⟩]⟩,
  -- ADC_RING_WR
  ⟨0x078, 4, 1, [⟨31, 0, .ro, [0], .keep⟩]⟩,
  -- ADC_COMPAT
  ⟨0x07C, 4, 1, [⟨7, 0, .rw, [0], .keep⟩]⟩,
  -- ADC_DATA
  ⟨0x080, 4, 1, [⟨31, 31, .rc, [0], .keep⟩,
    ⟨30, 30, .rc, [0], .keep⟩,
    ⟨23, 0, .ro, [0], .keep⟩]⟩,
  -- ADC_REF
  ⟨0x0A0, 4, 8, [⟨31, 31, .ro, [0], .keep⟩,
    ⟨15, 0, .ro, [0], .keep⟩]⟩ ] ++ [
  -- ADC_STEP_MUX
  ⟨0x400, 8, 256, [⟨31, 0, .rws, [0x11111111, 0, 0, 0, 0, 0, 0, 0, 0, 0, 0, 0, 0, 0, 0, 0, 0, 0, 0, 0, 0, 0, 0, 0, 0, 0, 0, 0, 0, 0, 0, 0, 0, 0, 0, 0, 0, 0, 0, 0, 0, 0, 0, 0, 0, 0, 0, 0, 0, 0, 0, 0, 0, 0, 0, 0, 0, 0, 0, 0, 0, 0, 0, 0, 0x22222222, 0x33333333, 0], .keep⟩]⟩,
  -- ADC_STEP_FLAGS
  ⟨0x404, 8, 256, [⟨0, 0, .rws, [1, 0, 0, 0, 0, 0, 0, 0, 0, 0, 0, 0, 0, 0, 0, 0, 0, 0, 0, 0, 0, 0, 0, 0, 0, 0, 0, 0, 0, 0, 0, 0, 0, 0, 0, 0, 0, 0, 0, 0, 0, 0, 0, 0, 0, 0, 0, 0, 0, 0, 0, 0, 0, 0, 0, 0, 0, 0, 0, 0, 0, 0, 0, 0, 1, 1, 0], .keep⟩]⟩ ]

/-- The block registers of the AIN page (R321). -/
def ainRegs : List RegDesc := [
  -- AIN_CFG
  ⟨0x040, 4, 16, [⟨15, 8, .rws, [4], .zeroAs 1⟩,
    ⟨5, 5, .rws, [1], .keep⟩,
    ⟨4, 4, .rws, [1], .keep⟩,
    ⟨3, 3, .rws, [0], .keep⟩,
    ⟨2, 0, .rws, [0], .aboveAs 5 0⟩]⟩,
  -- AIN_IMG
  ⟨0x080, 4, 1, [⟨23, 0, .ro, [0], .keep⟩]⟩,
  -- AIN_AGREE
  ⟨0x084, 4, 1, [⟨1, 0, .ro, [0], .keep⟩]⟩,
  -- AIN_OFS
  ⟨0x100, 4, 24, [⟨23, 0, .rws, [0], .keep⟩]⟩,
  -- AIN_GAIN
  ⟨0x180, 4, 24, [⟨23, 0, .rws, [0x400000], .keep⟩]⟩,
  -- AIN_SCALE_K
  ⟨0x200, 8, 16, [⟨31, 0, .rws, [0x3F800000], .keep⟩]⟩,
  -- AIN_SCALE_B
  ⟨0x204, 8, 16, [⟨31, 0, .rws, [0], .keep⟩]⟩,
  -- AIN_STAT
  ⟨0x280, 4, 16, [⟨7, 7, .ro, [0], .keep⟩,
    ⟨6, 6, .ro, [0], .keep⟩,
    ⟨5, 5, .ro, [0], .keep⟩,
    ⟨4, 4, .ro, [0], .keep⟩,
    ⟨3, 3, .ro, [0], .keep⟩,
    ⟨2, 0, .ro, [0], .keep⟩]⟩ ]

/-- The block registers of the AOU page (R322). -/
def aouRegs : List RegDesc := [
  -- AOU_CFG_CTRL
  ⟨0x040, 8, 8, [⟨15, 8, .rws, [30], .clamp 25 60⟩,
    ⟨2, 1, .rws, [0], .aboveAs 2 0⟩,
    ⟨0, 0, .rws, [0], .keep⟩]⟩,
  -- AOU_CFG_WADDR
  ⟨0x044, 8, 8, [⟨23, 0, .rws, [0], .keep⟩]⟩,
  -- AOU_LIM_LO
  ⟨0x080, 8, 8, [⟨31, 0, .rws, [0x40733333], .f32Range24⟩]⟩,
  -- AOU_LIM_HI
  ⟨0x084, 8, 8, [⟨31, 0, .rws, [0x41A40000], .f32Range24⟩]⟩,
  -- AOU_COMP_T
  ⟨0x0C0, 4, 1, [⟨9, 0, .rws, [20], .clamp 1 1000⟩]⟩,
  -- AOU_TEST
  ⟨0x100, 4, 8, [⟨31, 31, .rw, [0], .keep⟩,
    ⟨15, 0, .rw, [0], .keep⟩]⟩,
  -- AOU_STAT
  ⟨0x120, 4, 8, [⟨31, 16, .ro, [0], .keep⟩,
    ⟨15, 8, .ro, [0], .keep⟩,
    ⟨7, 7, .ro, [0], .keep⟩,
    ⟨6, 6, .ro, [0], .keep⟩,
    ⟨5, 5, .ro, [0], .keep⟩,
    ⟨4, 4, .ro, [1], .keep⟩,
    ⟨3, 2, .ro, [0], .keep⟩,
    ⟨1, 0, .ro, [0], .keep⟩]⟩,
  -- AOU_VLX
  ⟨0x140, 4, 8, [⟨15, 0, .ro, [0], .keep⟩]⟩ ]

/-- The block registers of the DIO page (R341). -/
def dioRegs : List RegDesc := [
  -- DIO_CTRL
  ⟨0x040, 4, 1, [⟨0, 0, .rws, [0], .keep⟩]⟩,
  -- DIO_IMG
  ⟨0x044, 4, 1, [⟨23, 0, .ro, [0], .keep⟩]⟩,
  -- DIO_OUT
  ⟨0x048, 4, 1, [⟨23, 0, .rws, [0], .keep⟩]⟩,
  -- DIO_TEST_EN
  ⟨0x04C, 4, 1, [⟨31, 0, .rw, [0], .keep⟩]⟩,
  -- DIO_TEST_VAL
  ⟨0x050, 4, 1, [⟨31, 0, .rw, [0], .keep⟩]⟩,
  -- DIO_CFG
  ⟨0x080, 4, 32, [⟨31, 24, .rws, [80], .keep⟩,
    ⟨23, 16, .rws, [4], .zeroAs 1⟩,
    ⟨15, 12, .rws, [2], .clamp 0 8⟩,
    ⟨11, 8, .rws, [0], .keep⟩,
    ⟨7, 7, .rws, [0], .keep⟩,
    ⟨6, 6, .rws, [0], .keep⟩,
    ⟨5, 5, .rws, [0], .keep⟩,
    ⟨4, 4, .rws, [0], .keep⟩,
    ⟨3, 3, .rws, [1], .keep⟩,
    ⟨2, 2, .rws, [1], .keep⟩,
    ⟨1, 1, .rws, [0], .keep⟩,
    ⟨0, 0, .rws, [0], .keep⟩]⟩,
  -- DIO_CFG2
  ⟨0x100, 4, 32, [⟨31, 16, .rws, [400], .clamp 4 40000⟩,
    ⟨15, 8, .rws, [5], .zeroAs 1⟩]⟩,
  -- DIO_STAT
  ⟨0x180, 4, 32, [⟨27, 16, .ro, [0], .keep⟩,
    ⟨7, 7, .ro, [0], .keep⟩,
    ⟨6, 6, .ro, [0], .keep⟩,
    ⟨5, 5, .ro, [0], .keep⟩,
    ⟨4, 4, .ro, [0], .keep⟩,
    ⟨3, 3, .ro, [0], .keep⟩,
    ⟨2, 2, .ro, [0], .keep⟩,
    ⟨1, 1, .ro, [0], .keep⟩,
    ⟨0, 0, .ro, [0], .keep⟩]⟩,
  -- DIO_VIN
  ⟨0x200, 4, 32, [⟨15, 0, .ro, [0], .keep⟩]⟩ ]

/-- The block registers of the TRP page (R342). -/
def trpRegs : List RegDesc := [
  -- TRP_TEST
  ⟨0x040, 4, 1, [⟨31, 31, .rws, [1], .keep⟩,
    ⟨11, 0, .rws, [60], .clamp 1 3600⟩]⟩,
  -- TRP_PT_CMD
  ⟨0x044, 4, 1, [⟨25, 16, .wo, [0], .keep⟩,
    ⟨4, 4, .wo, [0], .keep⟩,
    ⟨3, 3, .wo, [0], .keep⟩,
    ⟨2, 0, .wo, [0], .keep⟩]⟩,
  -- TRP_TEST_CNT
  ⟨0x048, 4, 1, [⟨31, 16, .rc, [0], .keep⟩,
    ⟨15, 0, .rc, [0], .keep⟩]⟩,
  -- TRP_CFG
  ⟨0x080, 4, 8, [⟨31, 31, .rws, [0], .keep⟩,
    ⟨28, 24, .rws, [0], .keep⟩,
    ⟨23, 0, .rws, [0], .keep⟩]⟩,
  -- TRP_STAT
  ⟨0x0C0, 4, 8, [⟨31, 20, .ro, [0], .keep⟩,
    ⟨19, 8, .ro, [0], .keep⟩,
    ⟨7, 7, .ro, [0], .keep⟩,
    ⟨6, 6, .ro, [0], .keep⟩,
    ⟨5, 5, .ro, [0], .keep⟩,
    ⟨4, 4, .ro, [0], .keep⟩,
    ⟨3, 3, .ro, [0], .keep⟩,
    ⟨2, 0, .ro, [0], .keep⟩]⟩ ]

/-- The block registers of the PTP page (R360). -/
def ptpRegs : List RegDesc := [
  -- PTP_CTRL
  ⟨0x040, 4, 1, [⟨23, 16, .rw, [0], .sclamp8 (-7) 4⟩,
    ⟨15, 8, .rw, [0], .keep⟩,
    ⟨1, 1, .rw, [0], .keep⟩,
    ⟨0, 0, .rw, [1], .keep⟩]⟩,
  -- PTP_INC
  ⟨0x044, 4, 1, [⟨3, 0, .rw, [8], .clamp 6 10⟩]⟩,
  -- PTP_INC_FRAC
  ⟨0x048, 4, 1, [⟨31, 0, .rw, [0], .keep⟩]⟩,
  -- PTP_TIME_LO
  ⟨0x04C, 4, 1, [⟨31, 0, .ro, [0], .keep⟩]⟩,
  -- PTP_TIME_HI
  ⟨0x050, 4, 1, [⟨31, 0, .ro, [0], .keep⟩]⟩,
  -- PTP_STEP_LO
  ⟨0x054, 4, 1, [⟨31, 0, .rw, [0], .keep⟩]⟩,
  -- PTP_STEP_HI
  ⟨0x058, 4, 1, [⟨31, 0, .rw, [0], .keep⟩]⟩,
  -- PTP_HOLD
  ⟨0x05C, 4, 1, [⟨7, 0, .rw, [8], .clamp 2 255⟩]⟩,
  -- PTP_STAT
  ⟨0x060, 4, 1, [⟨10, 8, .ro, [0], .keep⟩,
    ⟨3, 3, .w1c, [0], .keep⟩,
    ⟨2, 2, .ro, [0], .keep⟩,
    ⟨1, 1, .ro, [0], .keep⟩,
    ⟨0, 0, .ro, [0], .keep⟩]⟩,
  -- PTP_PPS_TS_LO
  ⟨0x064, 4, 1, [⟨31, 0, .ro, [0], .keep⟩]⟩,
  -- PTP_PPS_TS_HI
  ⟨0x068, 4, 1, [⟨31, 0, .ro, [0], .keep⟩]⟩,
  -- PTP_PPS_W
  ⟨0x06C, 4, 1, [⟨9, 0, .rw, [100], .clamp 1 900⟩]⟩ ]

/-- The block registers of the NET page (R384). -/
def netRegs : List RegDesc := [
  -- NET_IP_ADDR
  ⟨0x040, 8, 4, [⟨31, 0, .rw, [0], .keep⟩]⟩,
  -- NET_IP_MASK
  ⟨0x044, 8, 4, [⟨31, 0, .rw, [0], .keep⟩]⟩,
  -- NET_CTRL
  ⟨0x060, 4, 1, [⟨1, 1, .rw, [1], .keep⟩,
    ⟨0, 0, .rw, [1], .keep⟩]⟩,
  -- NET_CNT
  ⟨0x064, 4, 1, [⟨31, 16, .rc, [0], .keep⟩,
    ⟨15, 0, .rc, [0], .keep⟩]⟩ ]

/-- The block registers of the ETH pages (R384). -/
def ethRegs : List RegDesc := [
  -- ETH_CTRL
  ⟨0x040, 4, 1, [⟨31, 31, .rw, [0], .keep⟩,
    ⟨30, 30, .rw, [0], .keep⟩,
    ⟨29, 29, .rw, [0], .keep⟩,
    ⟨11, 0, .rw, [0], .keep⟩]⟩,
  -- ETH_ADDR_LO
  ⟨0x044, 4, 1, [⟨31, 0, .rw, [0], .keep⟩]⟩,
  -- ETH_ADDR_HI
  ⟨0x048, 4, 1, [⟨15, 0, .rw, [0], .keep⟩]⟩,
  -- ETH_STAT
  ⟨0x04C, 4, 1, [⟨6, 6, .w1c, [0], .keep⟩,
    ⟨5, 5, .ro, [0], .keep⟩,
    ⟨4, 3, .ro, [0], .keep⟩]⟩,
  -- ETH_CNT
  ⟨0x050, 4, 1, [⟨31, 16, .rc, [0], .keep⟩,
    ⟨15, 0, .rc, [0], .keep⟩]⟩,
  -- ETH_ERR
  ⟨0x054, 4, 1, [⟨31, 24, .rc, [0], .keep⟩,
    ⟨23, 16, .rc, [0], .keep⟩,
    ⟨15, 8, .rc, [0], .keep⟩,
    ⟨7, 0, .rc, [0], .keep⟩]⟩,
  -- ETH_LATE
  ⟨0x058, 4, 1, [⟨15, 0, .rc, [0], .keep⟩]⟩,
  -- ETH_RX_BASE
  ⟨0x05C, 4, 1, [⟨25, 0, .ro, [0], .keep⟩]⟩,
  -- ETH_RX_LEN
  ⟨0x060, 4, 1, [⟨4, 0, .ro, [0], .keep⟩]⟩,
  -- ETH_RX_WR
  ⟨0x064, 4, 1, [⟨31, 0, .ro, [0], .keep⟩]⟩,
  -- ETH_TX_BASE
  ⟨0x068, 4, 1, [⟨25, 0, .ro, [0], .keep⟩]⟩,
  -- ETH_TX_TIME_LO
  ⟨0x06C, 4, 1, [⟨31, 0, .rw, [0], .keep⟩]⟩ ] ++ [
  -- ETH_TX_TIME_HI
  ⟨0x070, 4, 1, [⟨31, 0, .rw, [0], .keep⟩]⟩,
  -- ETH_TX_CMD
  ⟨0x074, 4, 1, [⟨31, 31, .wo, [0], .keep⟩,
    ⟨30, 30, .wo, [0], .keep⟩,
    ⟨26, 16, .wo, [0], .keep⟩,
    ⟨5, 0, .wo, [0], .keep⟩]⟩,
  -- ETH_TX_BUSY
  ⟨0x078, 4, 2, [⟨31, 0, .ro, [0], .keep⟩]⟩,
  -- ETH_TXTS_LO
  ⟨0x080, 4, 1, [⟨31, 0, .ro, [0], .keep⟩]⟩,
  -- ETH_TXTS_HI
  ⟨0x084, 4, 1, [⟨31, 0, .ro, [0], .keep⟩]⟩,
  -- ETH_LLDP
  ⟨0x088, 4, 1, [⟨31, 0, .ro, [0], .keep⟩]⟩ ]

/-- The block registers of the PRP page (R384). -/
def prpRegs : List RegDesc := [
  -- PRP_CTRL
  ⟨0x040, 4, 1, [⟨7, 4, .rws, [15], .keep⟩,
    ⟨3, 0, .rws, [15], .keep⟩]⟩,
  -- PRP_FORGET
  ⟨0x044, 4, 1, [⟨13, 0, .rws, [400], .clamp 10 10000⟩]⟩,
  -- PRP_CNT_DUP
  ⟨0x048, 8, 4, [⟨31, 0, .rc, [0], .keep⟩]⟩,
  -- PRP_CNT_WRONG_LAN
  ⟨0x04C, 8, 4, [⟨31, 0, .rc, [0], .keep⟩]⟩ ]

/-- The block registers of the CAN pages (R384). -/
def canRegs : List RegDesc := [
  -- CAN_CTRL
  ⟨0x040, 4, 1, [⟨31, 31, .rws, [0], .keep⟩,
    ⟨30, 30, .rws, [1], .keep⟩,
    ⟨29, 29, .rws, [0], .keep⟩,
    ⟨28, 28, .rws, [0], .keep⟩,
    ⟨27, 27, .rws, [1], .keep⟩,
    ⟨26, 26, .rws, [0], .keep⟩,
    ⟨7, 0, .rws, [16], .keep⟩]⟩,
  -- CAN_NBT
  ⟨0x044, 4, 1, [⟨31, 24, .rws, [0], .keep⟩,
    ⟨23, 16, .rws, [126], .zeroAs 1⟩,
    ⟨14, 8, .rws, [31], .keep⟩,
    ⟨6, 0, .rws, [31], .keep⟩]⟩,
  -- CAN_DBT
  ⟨0x048, 4, 1, [⟨23, 16, .rws, [0], .keep⟩,
    ⟨12, 8, .rws, [30], .keep⟩,
    ⟨7, 4, .rws, [7], .keep⟩,
    ⟨3, 0, .rws, [7], .keep⟩]⟩,
  -- CAN_STAT
  ⟨0x04C, 4, 1, [⟨31, 24, .ro, [0], .keep⟩,
    ⟨23, 16, .ro, [0], .keep⟩,
    ⟨1, 0, .ro, [3], .keep⟩]⟩,
  -- CAN_CNT
  ⟨0x050, 4, 1, [⟨31, 16, .rc, [0], .keep⟩,
    ⟨15, 8, .rc, [0], .keep⟩,
    ⟨7, 0, .rc, [0], .keep⟩]⟩,
  -- CAN_RXQ
  ⟨0x054, 4, 1, [⟨9, 0, .ro, [0], .keep⟩]⟩,
  -- CAN_RX_ID
  ⟨0x058, 4, 1, [⟨31, 31, .ro, [0], .keep⟩,
    ⟨28, 0, .ro, [0], .keep⟩]⟩,
  -- CAN_RX_FLG
  ⟨0x05C, 4, 1, [⟨31, 31, .ro, [0], .keep⟩,
    ⟨30, 30, .ro, [0], .keep⟩,
    ⟨29, 29, .ro, [0], .keep⟩,
    ⟨28, 28, .ro, [0], .keep⟩,
    ⟨27, 24, .ro, [0], .keep⟩]⟩,
  -- CAN_RX_TS_LO
  ⟨0x060, 4, 1, [⟨31, 0, .ro, [0], .keep⟩]⟩,
  -- CAN_RX_TS_HI
  ⟨0x064, 4, 1, [⟨31, 0, .ro, [0], .keep⟩]⟩,
  -- CAN_RX_POP
  ⟨0x068, 4, 1, [⟨0, 0, .wo, [0], .keep⟩]⟩,
  -- CAN_RX_DATA
  ⟨0x080, 4, 16, [⟨31, 0, .ro, [0], .keep⟩]⟩ ] ++ [
  -- CAN_TX_ID
  ⟨0x0C0, 4, 1, [⟨31, 31, .rw, [0], .keep⟩,
    ⟨28, 0, .rw, [0], .keep⟩]⟩,
  -- CAN_TX_FLG
  ⟨0x0C4, 4, 1, [⟨31, 31, .wo, [0], .keep⟩,
    ⟨30, 30, .rw, [0], .keep⟩,
    ⟨29, 29, .rw, [0], .keep⟩,
    ⟨28, 28, .rw, [0], .keep⟩,
    ⟨27, 24, .rw, [0], .keep⟩]⟩,
  -- CAN_TX_DATA
  ⟨0x100, 4, 16, [⟨31, 0, .rw, [0], .keep⟩]⟩,
  -- CAN_MAP_BASE
  ⟨0x140, 4, 1, [⟨25, 0, .ro, [0], .keep⟩]⟩ ]

/-- The block registers of the SER pages (R384). -/
def serRegs : List RegDesc := [
  -- SER_CTRL
  ⟨0x040, 4, 1, [⟨31, 31, .rw, [0], .keep⟩,
    ⟨30, 30, .rw, [0], .keep⟩,
    ⟨29, 29, .rw, [1], .keep⟩,
    ⟨5, 4, .rw, [0], .keep⟩,
    ⟨3, 3, .rw, [0], .keep⟩]⟩,
  -- SER_BAUD
  ⟨0x044, 4, 1, [⟨19, 0, .rw, [3472], .clamp 100 1048575⟩]⟩,
  -- SER_GAP
  ⟨0x048, 4, 1, [⟨15, 8, .rw, [1], .zeroAs 1⟩,
    ⟨7, 0, .rw, [35], .zeroAs 1⟩]⟩,
  -- SER_RING_BASE
  ⟨0x04C, 4, 1, [⟨25, 0, .ro, [0], .keep⟩]⟩,
  -- SER_RING_LEN
  ⟨0x050, 4, 1, [⟨4, 0, .ro, [0], .keep⟩]⟩,
  -- SER_RING_WR
  ⟨0x054, 4, 1, [⟨31, 0, .ro, [0], .keep⟩]⟩,
  -- SER_TX_BASE
  ⟨0x058, 4, 1, [⟨25, 0, .ro, [0], .keep⟩]⟩,
  -- SER_TX_CMD
  ⟨0x05C, 4, 1, [⟨31, 31, .wo, [0], .keep⟩,
    ⟨12, 0, .wo, [0], .keep⟩]⟩,
  -- SER_TX_TIME_LO
  ⟨0x060, 4, 1, [⟨31, 0, .rw, [0], .keep⟩]⟩,
  -- SER_TX_TIME_HI
  ⟨0x064, 4, 1, [⟨31, 0, .rw, [0], .keep⟩]⟩,
  -- SER_STAT
  ⟨0x068, 4, 1, [⟨31, 31, .ro, [0], .keep⟩,
    ⟨23, 16, .rc, [0], .keep⟩,
    ⟨15, 8, .rc, [0], .keep⟩,
    ⟨7, 0, .rc, [0], .keep⟩]⟩ ]

/-- The block registers of the HIF page (R384). -/
def hifRegs : List RegDesc := [
  -- HIF_STAT
  ⟨0x040, 4, 1, [⟨31, 31, .ro, [0], .keep⟩,
    ⟨29, 28, .ro, [0], .keep⟩,
    ⟨27, 26, .ro, [0], .keep⟩]⟩,
  -- HIF_SPI_CNT
  ⟨0x044, 4, 1, [⟨31, 16, .rc, [0], .keep⟩,
    ⟨15, 8, .rc, [0], .keep⟩,
    ⟨7, 0, .rc, [0], .keep⟩]⟩,
  -- HIF_REARM
  ⟨0x048, 4, 1, [⟨31, 0, .wo, [0], .keep⟩]⟩,
  -- HIF_VEC
  ⟨0x080, 4, 13, [⟨7, 7, .rw, [0], .keep⟩,
    ⟨4, 0, .rw, [0], .keep⟩,
    ⟨15, 15, .rw, [0], .keep⟩,
    ⟨12, 8, .rw, [0], .keep⟩,
    ⟨23, 23, .rw, [0], .keep⟩,
    ⟨20, 16, .rw, [0], .keep⟩,
    ⟨31, 31, .rw, [0], .keep⟩,
    ⟨28, 24, .rw, [0], .keep⟩]⟩,
  -- HIF_SPI_IRQ
  ⟨0x0C0, 4, 2, [⟨31, 0, .rw, [0], .keep⟩]⟩ ]

/-- The block registers of the OSP page (R384). -/
def ospRegs : List RegDesc := [
  -- OSP_STAT
  ⟨0x040, 4, 1, [⟨31, 31, .ro, [0], .keep⟩,
    ⟨30, 30, .ro, [0], .keep⟩,
    ⟨29, 29, .w1c, [0], .keep⟩,
    ⟨25, 24, .ro, [0], .keep⟩,
    ⟨20, 16, .ro, [0], .keep⟩,
    ⟨4, 0, .ro, [0], .keep⟩]⟩,
  -- OSP_ADDR
  ⟨0x044, 4, 1, [⟨31, 0, .rw, [0], .keep⟩]⟩,
  -- OSP_BUF
  ⟨0x048, 4, 1, [⟨25, 0, .rw, [0], .keep⟩]⟩,
  -- OSP_LEN
  ⟨0x04C, 4, 1, [⟨16, 0, .rw, [0], .keep⟩]⟩,
  -- OSP_CMD
  ⟨0x050, 4, 1, [⟨1, 0, .wo, [0], .keep⟩]⟩ ]

/-- The block registers of the BMI page (R384). -/
def bmiRegs : List RegDesc := [
  -- BMI_CTRL
  ⟨0x040, 4, 1, [⟨31, 31, .rws, [0], .keep⟩,
    ⟨2, 2, .rws, [0], .keep⟩,
    ⟨1, 0, .rws, [1], .keep⟩]⟩,
  -- BMI_IMG
  ⟨0x044, 4, 1, [⟨23, 0, .ro, [0], .keep⟩]⟩,
  -- BMI_POLL
  ⟨0x080, 4, 16, [⟨31, 31, .rws, [0], .keep⟩,
    ⟨30, 24, .rws, [0], .keep⟩,
    ⟨23, 16, .rws, [0], .keep⟩,
    ⟨15, 14, .rws, [0], .keep⟩,
    ⟨11, 0, .rws, [100], .zeroAs 1⟩]⟩,
  -- BMI_XFER
  ⟨0x0C0, 4, 1, [⟨31, 31, .rw, [0], .keep⟩,
    ⟨30, 30, .rw, [0], .keep⟩,
    ⟨29, 28, .rw, [0], .keep⟩,
    ⟨22, 16, .rw, [0], .keep⟩,
    ⟨15, 8, .rw, [0], .keep⟩]⟩,
  -- BMI_XDATA
  ⟨0x0C4, 4, 1, [⟨31, 0, .rw, [0], .keep⟩]⟩,
  -- BMI_XSTAT
  ⟨0x0C8, 4, 1, [⟨31, 31, .ro, [0], .keep⟩,
    ⟨3, 0, .ro, [0], .keep⟩]⟩ ]

/-- The block registers of the SED page (R402). -/
def sedRegs : List RegDesc := [
  -- SED_CTRL
  ⟨0x040, 4, 1, [⟨2, 2, .rws, [0], .keep⟩,
    ⟨1, 1, .rws, [1], .keep⟩,
    ⟨0, 0, .rws, [0], .keep⟩]⟩,
  -- SED_INT
  ⟨0x044, 4, 1, [⟨11, 0, .rws, [60], .clamp 1 3600⟩]⟩,
  -- SED_HEAD_LO
  ⟨0x048, 4, 1, [⟨31, 0, .ro, [0], .keep⟩]⟩,
  -- SED_HEAD_HI
  ⟨0x04C, 4, 1, [⟨15, 0, .ro, [0], .keep⟩]⟩,
  -- SED_TAIL_LO
  ⟨0x050, 4, 1, [⟨31, 0, .ro, [0], .keep⟩]⟩,
  -- SED_TAIL_HI
  ⟨0x054, 4, 1, [⟨15, 0, .ro, [0], .keep⟩]⟩,
  -- SED_MOVED_LO
  ⟨0x058, 4, 1, [⟨31, 0, .ro, [0], .keep⟩]⟩,
  -- SED_MOVED_HI
  ⟨0x05C, 4, 1, [⟨15, 0, .ro, [0], .keep⟩]⟩,
  -- SED_BATCH
  ⟨0x060, 4, 1, [⟨31, 16, .rws, [60], .clamp 1 3600⟩,
    ⟨15, 0, .rws, [4096], .clamp 64 16384⟩]⟩,
  -- SED_STAT
  ⟨0x064, 4, 1, [⟨31, 16, .rc, [0], .keep⟩,
    ⟨15, 15, .ro, [0], .keep⟩,
    ⟨13, 0, .ro, [0], .keep⟩]⟩,
  -- SED_RD_SEQ_LO
  ⟨0x068, 4, 1, [⟨31, 0, .rw, [0], .keep⟩]⟩,
  -- SED_RD_SEQ_HI
  ⟨0x06C, 4, 1, [⟨15, 0, .rw, [0], .keep⟩]⟩ ] ++ [
  -- SED_RD_CNT
  ⟨0x070, 4, 1, [⟨12, 0, .rw, [1], .clamp 1 4096⟩]⟩,
  -- SED_RD_BUF
  ⟨0x074, 4, 1, [⟨25, 0, .rw, [0], .keep⟩]⟩,
  -- SED_RD_CMD
  ⟨0x078, 4, 1, [⟨0, 0, .wo, [0], .keep⟩]⟩,
  -- SED_RD_STAT
  ⟨0x07C, 4, 1, [⟨31, 31, .ro, [0], .keep⟩,
    ⟨30, 30, .w1c, [0], .keep⟩]⟩,
  -- SED_WATCH_BASE
  ⟨0x080, 4, 1, [⟨25, 0, .ro, [0], .keep⟩]⟩,
  -- SED_FLOOD_BASE
  ⟨0x084, 4, 1, [⟨25, 0, .ro, [0], .keep⟩]⟩,
  -- SED_STG_BASE
  ⟨0x088, 4, 1, [⟨25, 0, .ro, [0], .keep⟩]⟩,
  -- SED_XR_BASE
  ⟨0x08C, 4, 1, [⟨31, 0, .ro, [0], .keep⟩]⟩,
  -- SED_XR_LEN
  ⟨0x090, 4, 1, [⟨15, 0, .ro, [0], .keep⟩]⟩,
  -- SED_SUPP
  ⟨0x094, 4, 1, [⟨31, 16, .rc, [0], .keep⟩,
    ⟨15, 0, .rc, [0], .keep⟩]⟩ ]

/-- The block registers of the WER page (R420). -/
def werRegs : List RegDesc := [
  -- WER_CTRL
  ⟨0x040, 4, 1, [⟨31, 31, .rws, [1], .keep⟩,
    ⟨30, 30, .rws, [0], .keep⟩,
    ⟨16, 0, .rws, [7200], .aboveAs 86399 0⟩]⟩,
  -- WER_VREG
  ⟨0x044, 4, 1, [⟨6, 0, .rws, [0], .keep⟩]⟩,
  -- WER_PLAN
  ⟨0x048, 4, 1, [⟨31, 24, .ro, [24], .keep⟩,
    ⟨19, 16, .ro, [0], .keep⟩,
    ⟨8, 8, .ro, [0], .keep⟩,
    ⟨1, 0, .ro, [2], .keep⟩]⟩,
  -- WER_DERATE
  ⟨0x04C, 4, 1, [⟨31, 0, .ro, [0], .keep⟩]⟩,
  -- WER_WARN
  ⟨0x050, 4, 1, [⟨6, 0, .rws, [20], .clamp 1 99⟩]⟩,
  -- WER_LAST_LO
  ⟨0x054, 4, 1, [⟨31, 0, .ro, [0], .keep⟩]⟩,
  -- WER_LAST_HI
  ⟨0x058, 4, 1, [⟨31, 0, .ro, [0], .keep⟩]⟩,
  -- WER_MARGIN
  ⟨0x080, 4, 16, [⟨31, 31, .ro, [0], .keep⟩,
    ⟨15, 8, .ro, [0], .keep⟩,
    ⟨7, 0, .ro, [0], .keep⟩]⟩ ]

/-- The block registers of the MON page (R121). -/
def monRegs : List RegDesc := [
  -- MON_ALL
  ⟨0x040, 4, 1, [⟨2, 2, .wo, [0], .keep⟩,
    ⟨1, 1, .wo, [0], .keep⟩,
    ⟨0, 0, .wo, [0], .keep⟩]⟩,
  -- MON_SNAP_AT_LO
  ⟨0x048, 4, 1, [⟨31, 0, .rw, [0], .keep⟩]⟩,
  -- MON_SNAP_AT_HI
  ⟨0x04C, 4, 1, [⟨31, 0, .rw, [0], .keep⟩]⟩,
  -- MON_SNAP_TIME_LO
  ⟨0x050, 4, 1, [⟨31, 0, .ro, [0], .keep⟩]⟩,
  -- MON_SNAP_TIME_HI
  ⟨0x054, 4, 1, [⟨31, 0, .ro, [0], .keep⟩]⟩ ]

/-- The block registers of the DBG page (R420). -/
def dbgRegs : List RegDesc := [
  -- DBG_IDCODE
  ⟨0x040, 4, 1, [⟨31, 0, .ro, [0x1730056B], .keep⟩]⟩,
  -- DBG_FRZ_TIME_LO
  ⟨0x044, 4, 1, [⟨31, 0, .ro, [0], .keep⟩]⟩,
  -- DBG_FRZ_TIME_HI
  ⟨0x048, 4, 1, [⟨31, 0, .ro, [0], .keep⟩]⟩,
  -- DBG_SECT
  ⟨0x080, 4, 8, [⟨31, 0, .ro, [0], .keep⟩]⟩ ]

/-- The registers of every page's common header above STAT (R433, R71, R119): those that hold a value of their
own. ID, CAP and STAT are computed. -/
def headerRegs : List RegDesc := [
  -- CTRL
  ⟨0x008, 4, 1, [⟨1, 1, .wo, [0], .keep⟩, ⟨0, 0, .rw, [0], .keep⟩]⟩,
  -- IRQ_RAW
  ⟨0x010, 4, 1, [⟨31, 0, .ro, [0], .keep⟩]⟩,
  -- IRQ_EN
  ⟨0x014, 4, 1, [⟨31, 0, .rw, [0], .keep⟩]⟩,
  -- ERR_CODE
  ⟨0x01C, 4, 1, [⟨31, 8, .rc, [0], .keep⟩, ⟨7, 0, .rc, [0], .keep⟩]⟩,
  -- TXN_SEL
  ⟨0x020, 4, 1, [⟨4, 4, .rw, [0], .keep⟩, ⟨3, 0, .rw, [0], .keep⟩]⟩,
  -- MON_SEL
  ⟨0x024, 4, 1, [⟨23, 8, .rw, [0], .keep⟩, ⟨7, 0, .rw, [0], .keep⟩]⟩,
  -- MON_HIST_IDX
  ⟨0x030, 4, 1, [⟨4, 0, .rw, [0], .keep⟩]⟩,
  -- MON_CTRL
  ⟨0x038, 4, 1, [⟨31, 16, .rw, [0], .keep⟩, ⟨12, 8, .rw, [0], .keep⟩, ⟨2, 2, .wo, [0], .keep⟩,
    ⟨1, 1, .wo, [0], .keep⟩, ⟨0, 0, .rw, [0], .keep⟩]⟩ ]

/-- The pages by number (R429). -/
def pageRegs : Nat → List RegDesc
  | 0x00 => sysRegs
  | 0x01 => pwrRegs
  | 0x02 => clkRegs
  | 0x03 => sprRegs
  | 0x04 => rsvRegs
  | 0x05 => wirRegs
  | 0x06 => sibRegs
  | 0x07 => errRegs
  | 0x08 => txnRegs
  | 0x09 => bsnRegs
  | 0x0A => slvRegs
  | 0x0B => slcRegs
  | 0x0C => lopRegs
  | 0x0D => scnRegs
  | 0x0E => stnRegs
  | 0x0F => lumRegs
  | 0x10 => pmsRegs
  | 0x11 => nrgRegs
  | 0x12 => plsRegs
  | 0x13 => adcRegs
  | 0x14 => ainRegs
  | 0x15 => aouRegs
  | 0x16 => dioRegs
  | 0x17 => trpRegs
  | 0x18 => ptpRegs
  | 0x19 => netRegs
  | 0x1A => ethRegs
  | 0x1B => ethRegs
  | 0x1C => ethRegs
  | 0x1D => ethRegs
  | 0x1E => ethRegs
  | 0x1F => ethRegs
  | 0x20 => ethRegs
  | 0x21 => ethRegs
  | 0x22 => prpRegs
  | 0x23 => canRegs
  | 0x24 => canRegs
  | 0x25 => canRegs
  | 0x26 => canRegs
  | 0x27 => serRegs
  | 0x28 => serRegs
  | 0x29 => serRegs
  | 0x2A => serRegs
  | 0x2B => hifRegs
  | 0x2C => ospRegs
  | 0x2D => bmiRegs
  | 0x2E => sedRegs
  | 0x2F => werRegs
  | 0x30 => monRegs
  | 0x31 => dbgRegs
  | _ => []

/-- The power domain of a page (R429); the PLS_SPC registers are in domain 0, see pageDomainAt. -/
def pageDomain : Nat → Nat
  | 0x00 => 2
  | 0x01 => 2
  | 0x02 => 2
  | 0x03 => 0
  | 0x04 => 1
  | 0x05 => 2
  | 0x06 => 2
  | 0x07 => 2
  | 0x08 => 3
  | 0x09 => 6
  | 0x0A => 5
  | 0x0B => 5
  | 0x0C => 4
  | 0x0D => 3
  | 0x0E => 7
  | 0x0F => 11
  | 0x10 => 11
  | 0x11 => 11
  | 0x12 => 11
  | 0x13 => 12
  | 0x14 => 12
  | 0x15 => 12
  | 0x16 => 13
  | 0x17 => 13
  | 0x18 => 7
  | 0x19 => 7
  | 0x1A => 7
  | 0x1B => 7
  | 0x1C => 7
  | 0x1D => 7
  | 0x1E => 7
  | 0x1F => 7
  | 0x20 => 7
  | 0x21 => 7
  | 0x22 => 7
  | 0x23 => 8
  | 0x24 => 8
  | 0x25 => 8
  | 0x26 => 8
  | 0x27 => 8
  | 0x28 => 8
  | 0x29 => 8
  | 0x2A => 8
  | 0x2B => 9
  | 0x2C => 10
  | 0x2D => 10
  | 0x2E => 10
  | 0x2F => 2
  | 0x30 => 2
  | 0x31 => 2
  | _ => 2

/-! ### The fields, by name -/

def Fd.SYS_MODE_VOTERS : Fd := ⟨0x00040, 17, 16⟩
def Fd.SYS_MODE_STARTUP : Fd := ⟨0x00040, 11, 8⟩
def Fd.SYS_MODE_MODE : Fd := ⟨0x00040, 3, 0⟩
def Fd.SYS_MODE_REQ_TARGET : Fd := ⟨0x00044, 3, 0⟩
def Fd.SYS_STRAP_BOOT : Fd := ⟨0x00048, 5, 4⟩
def Fd.SYS_STRAP_AO_ALM : Fd := ⟨0x00048, 2, 2⟩
def Fd.SYS_STRAP_POS : Fd := ⟨0x00048, 1, 0⟩
def Fd.SYS_RST_CAUSE_FREEZE : Fd := ⟨0x0004C, 6, 6⟩
def Fd.SYS_RST_CAUSE_WAKE : Fd := ⟨0x0004C, 5, 5⟩
def Fd.SYS_RST_CAUSE_SOFT : Fd := ⟨0x0004C, 4, 4⟩
def Fd.SYS_RST_CAUSE_WDT : Fd := ⟨0x0004C, 3, 3⟩
def Fd.SYS_RST_CAUSE_RESET_PIN : Fd := ⟨0x0004C, 2, 2⟩
def Fd.SYS_RST_CAUSE_MAIN_POR : Fd := ⟨0x0004C, 1, 1⟩
def Fd.SYS_RST_CAUSE_SPR_POR : Fd := ⟨0x0004C, 0, 0⟩
def Fd.SYS_BOOT_STAT_TRIPLET : Fd := ⟨0x00050, 7, 7⟩
def Fd.SYS_BOOT_STAT_SIMPLEX_SURVIVE : Fd := ⟨0x00050, 6, 6⟩
def Fd.SYS_BOOT_STAT_AUTO_RUN : Fd := ⟨0x00050, 5, 5⟩
def Fd.SYS_BOOT_STAT_SEAL_OK : Fd := ⟨0x00050, 4, 4⟩
def Fd.SYS_BOOT_STAT_RESULT : Fd := ⟨0x00050, 3, 0⟩
def Fd.SYS_BOOT_CTRL_GO : Fd := ⟨0x00054, 0, 0⟩
def Fd.SYS_JOIN_WAIT : Fd := ⟨0x00058, 15, 0⟩
def Fd.SYS_SWRST_KEY : Fd := ⟨0x0005C, 31, 0⟩
def Fd.SYS_FP (n : Nat) : Fd := ⟨0x00060 + 4 * n, 31, 0⟩
def Fd.PWR_ON : Fd := ⟨0x01040, 13, 0⟩
def Fd.PWR_IDLE_STAT_IDLE : Fd := ⟨0x01044, 13, 0⟩
def Fd.PWR_HOLD : Fd := ⟨0x01048, 13, 0⟩
def Fd.PWR_IDLE_T_US : Fd := ⟨0x0104C, 15, 0⟩
def Fd.PWR_SUP_PF : Fd := ⟨0x01050, 4, 4⟩
def Fd.PWR_SUP_LP_OK : Fd := ⟨0x01050, 3, 3⟩
def Fd.PWR_SUP_VDD33_OK : Fd := ⟨0x01050, 2, 2⟩
def Fd.PWR_SUP_VDDIO18_OK : Fd := ⟨0x01050, 1, 1⟩
def Fd.PWR_SUP_VCORE_OK : Fd := ⟨0x01050, 0, 0⟩
def Fd.PWR_TEMP_FIELD : Fd := ⟨0x01054, 31, 16⟩
def Fd.PWR_TEMP_CORE : Fd := ⟨0x01054, 15, 0⟩
def Fd.PWR_WAKES_SOLVER : Fd := ⟨0x01058, 31, 16⟩
def Fd.PWR_WAKES_OTHER : Fd := ⟨0x01058, 15, 0⟩
def Fd.PWR_BANK_LS_EN : Fd := ⟨0x0105C, 0, 0⟩
def Fd.CLK_STAT_FOSC_OK : Fd := ⟨0x02040, 5, 5⟩
def Fd.CLK_STAT_XTAL_OK : Fd := ⟨0x02040, 4, 4⟩
def Fd.CLK_STAT_LOCK_N : Fd := ⟨0x02040, 3, 3⟩
def Fd.CLK_STAT_LOCK_Y : Fd := ⟨0x02040, 2, 2⟩
def Fd.CLK_STAT_LOCK_S : Fd := ⟨0x02040, 1, 1⟩
def Fd.CLK_STAT_RUN_S : Fd := ⟨0x02040, 0, 0⟩
def Fd.CLK_XTAL_PPB : Fd := ⟨0x02044, 31, 0⟩
def Fd.CLK_UNLOCK_CNT : Fd := ⟨0x02048, 7, 0⟩
def Fd.SPR_TICK_LO_COUNT : Fd := ⟨0x03040, 31, 0⟩
def Fd.SPR_TICK_HI_COUNT : Fd := ⟨0x03044, 15, 0⟩
def Fd.SPR_SET_LO_COUNT : Fd := ⟨0x03048, 31, 0⟩
def Fd.SPR_SET_HI_GO : Fd := ⟨0x0304C, 31, 31⟩
def Fd.SPR_SET_HI_TIME : Fd := ⟨0x0304C, 30, 30⟩
def Fd.SPR_SET_HI_COUNT : Fd := ⟨0x0304C, 15, 0⟩
def Fd.SPR_CIVIL_OFS : Fd := ⟨0x03050, 31, 0⟩
def Fd.SPR_HOUR_ADJ : Fd := ⟨0x03054, 1, 0⟩
def Fd.SPR_CMP_LO_CMP : Fd := ⟨0x03058, 31, 0⟩
def Fd.SPR_CMP_HI_ARM : Fd := ⟨0x0305C, 31, 31⟩
def Fd.SPR_CMP_HI_CMP : Fd := ⟨0x0305C, 15, 0⟩
def Fd.SPR_SQW_EN : Fd := ⟨0x03060, 4, 4⟩
def Fd.SPR_SQW_DIV : Fd := ⟨0x03060, 3, 0⟩
def Fd.SPR_SNAP : Fd := ⟨0x03064, 0, 0⟩
def Fd.SPR_SNAP_LO_VALUE : Fd := ⟨0x03068, 31, 0⟩
def Fd.SPR_SNAP_HI_VALUE : Fd := ⟨0x0306C, 15, 0⟩
def Fd.SPR_SNAP_OFS_VALUE : Fd := ⟨0x03070, 31, 0⟩
def Fd.SPR_STAT_FROZE : Fd := ⟨0x03074, 9, 9⟩
def Fd.SPR_STAT_XTAL_STOP : Fd := ⟨0x03074, 8, 8⟩
def Fd.SPR_STAT_WRAP : Fd := ⟨0x03074, 7, 7⟩
def Fd.SPR_STAT_CMP_HIT : Fd := ⟨0x03074, 6, 6⟩
def Fd.SPR_STAT_ON_BAT : Fd := ⟨0x03074, 5, 5⟩
def Fd.SPR_STAT_CELL_LOW : Fd := ⟨0x03074, 4, 4⟩
def Fd.SPR_STAT_POR_SEEN : Fd := ⟨0x03074, 3, 3⟩
def Fd.SPR_STAT_COUNT_VALID : Fd := ⟨0x03074, 2, 2⟩
def Fd.SPR_STAT_TIME_VALID : Fd := ⟨0x03074, 1, 1⟩
def Fd.SPR_STAT_PENDING : Fd := ⟨0x03074, 0, 0⟩
def Fd.SPR_PTP_OFS_S : Fd := ⟨0x03078, 31, 0⟩
def Fd.RSV_STAT_VRES : Fd := ⟨0x04040, 31, 16⟩
def Fd.RSV_STAT_BUDGET : Fd := ⟨0x04040, 3, 2⟩
def Fd.RSV_STAT_MEAS : Fd := ⟨0x04040, 1, 1⟩
def Fd.RSV_STAT_READY : Fd := ⟨0x04040, 0, 0⟩
def Fd.RSV_CAP_C : Fd := ⟨0x04044, 15, 0⟩
def Fd.RSV_CAP_FIRST_C : Fd := ⟨0x04048, 15, 0⟩
def Fd.RSV_EUSE_UJ : Fd := ⟨0x0404C, 15, 0⟩
def Fd.RSV_COMMIT_US : Fd := ⟨0x04050, 31, 16⟩
def Fd.RSV_COMMIT_CNT : Fd := ⟨0x04050, 15, 0⟩
def Fd.WIR_VOTE_STAT_SIMPLEX : Fd := ⟨0x05040, 21, 21⟩
def Fd.WIR_VOTE_STAT_TWO_MEMBER : Fd := ⟨0x05040, 20, 20⟩
def Fd.WIR_VOTE_STAT_ROLE_C : Fd := ⟨0x05040, 14, 12⟩
def Fd.WIR_VOTE_STAT_ROLE_B : Fd := ⟨0x05040, 10, 8⟩
def Fd.WIR_VOTE_STAT_ROLE_A : Fd := ⟨0x05040, 6, 4⟩
def Fd.WIR_VOTE_STAT_OWN_POS : Fd := ⟨0x05040, 1, 0⟩
def Fd.WIR_MISMATCH_LIMIT : Fd := ⟨0x05044, 5, 0⟩
def Fd.WIR_MISMATCH_CNT_CNT_C : Fd := ⟨0x05048, 22, 16⟩
def Fd.WIR_MISMATCH_CNT_CNT_B : Fd := ⟨0x05048, 14, 8⟩
def Fd.WIR_MISMATCH_CNT_CNT_A : Fd := ⟨0x05048, 6, 0⟩
def Fd.WIR_MISMATCH_LAST_POS : Fd := ⟨0x0504C, 25, 24⟩
def Fd.WIR_MISMATCH_LAST_ADDR : Fd := ⟨0x0504C, 23, 0⟩
def Fd.WIR_MISMATCH_CYC : Fd := ⟨0x05050, 31, 0⟩
def Fd.WIR_SIDELINE_CAUSE : Fd := ⟨0x05054, 7, 4⟩
def Fd.WIR_SIDELINE_POS : Fd := ⟨0x05054, 1, 0⟩
def Fd.WIR_ISO_STAT_DN_LINE_FAIL : Fd := ⟨0x05058, 25, 25⟩
def Fd.WIR_ISO_STAT_UP_LINE_FAIL : Fd := ⟨0x05058, 24, 24⟩
def Fd.WIR_ISO_STAT_IN_DN : Fd := ⟨0x05058, 23, 16⟩
def Fd.WIR_ISO_STAT_IN_UP : Fd := ⟨0x05058, 15, 8⟩
def Fd.WIR_ISO_STAT_SW_OPEN : Fd := ⟨0x05058, 7, 0⟩
def Fd.WIR_ISO_OUT_OUT_DN : Fd := ⟨0x0505C, 15, 8⟩
def Fd.WIR_ISO_OUT_OUT_UP : Fd := ⟨0x0505C, 7, 0⟩
def Fd.WIR_LEG_DEV_FILT : Fd := ⟨0x05060, 7, 0⟩
def Fd.WIR_DISAGREE_REL : Fd := ⟨0x05064, 0, 0⟩
def Fd.WIR_WDT_TIMEOUT : Fd := ⟨0x05068, 15, 0⟩
def Fd.WIR_CLK_MON_FAIL : Fd := ⟨0x0506C, 17, 17⟩
def Fd.WIR_CLK_MON_WARN : Fd := ⟨0x0506C, 16, 16⟩
def Fd.WIR_CLK_MON_COUNT : Fd := ⟨0x0506C, 15, 0⟩
def Fd.WIR_LOCK_FAULT_BANK : Fd := ⟨0x05070, 19, 16⟩
def Fd.WIR_LOCK_FAULT_OWNER : Fd := ⟨0x05070, 3, 0⟩
def Fd.WIR_ST_STAT_HALVED : Fd := ⟨0x05074, 8, 8⟩
def Fd.WIR_ST_STAT_REF_FAIL : Fd := ⟨0x05074, 7, 7⟩
def Fd.WIR_ST_STAT_REHASH_FAIL : Fd := ⟨0x05074, 6, 6⟩
def Fd.WIR_ST_STAT_LANE_FAIL : Fd := ⟨0x05074, 5, 5⟩
def Fd.WIR_ST_STAT_SCRUB_UE : Fd := ⟨0x05074, 4, 4⟩
def Fd.WIR_ST_STAT_LOCKSTEP_FAIL : Fd := ⟨0x05074, 3, 3⟩
def Fd.WIR_ST_STAT_CLK_FAIL : Fd := ⟨0x05074, 2, 2⟩
def Fd.WIR_ST_STAT_PER_FAIL : Fd := ⟨0x05074, 1, 1⟩
def Fd.WIR_ST_STAT_START_FAIL : Fd := ⟨0x05074, 0, 0⟩
def Fd.WIR_SAFE_CAUSE_CLASS : Fd := ⟨0x05078, 31, 29⟩
def Fd.WIR_SAFE_CAUSE_CAUSE : Fd := ⟨0x05078, 28, 24⟩
def Fd.WIR_SAFE_CAUSE_SRC : Fd := ⟨0x05078, 23, 0⟩
def Fd.SIB_CTRL_WGRP : Fd := ⟨0x06040, 7, 4⟩
def Fd.SIB_CTRL_STORE_IMG : Fd := ⟨0x06040, 1, 1⟩
def Fd.SIB_CTRL_AUTO_REJOIN : Fd := ⟨0x06040, 0, 0⟩
def Fd.SIB_LINK_STAT_CRC_ERR (n : Nat) : Fd := ⟨0x06044 + 4 * n, 15, 8⟩
def Fd.SIB_LINK_STAT_PARTNER (n : Nat) : Fd := ⟨0x06044 + 4 * n, 7, 6⟩
def Fd.SIB_LINK_STAT_RELAYING (n : Nat) : Fd := ⟨0x06044 + 4 * n, 5, 5⟩
def Fd.SIB_LINK_STAT_REFUSE (n : Nat) : Fd := ⟨0x06044 + 4 * n, 4, 3⟩
def Fd.SIB_LINK_STAT_STATE (n : Nat) : Fd := ⟨0x06044 + 4 * n, 2, 0⟩
def Fd.SIB_LINK_DELAY (n : Nat) : Fd := ⟨0x0604C + 4 * n, 15, 0⟩
def Fd.SIB_PEER_COMPAT (n : Nat) : Fd := ⟨0x06054 + 4 * n, 31, 16⟩
def Fd.SIB_PEER_TIME_OK (n : Nat) : Fd := ⟨0x06054 + 4 * n, 7, 7⟩
def Fd.SIB_PEER_VER_AGREE (n : Nat) : Fd := ⟨0x06054 + 4 * n, 6, 6⟩
def Fd.SIB_PEER_CFG_AGREE (n : Nat) : Fd := ⟨0x06054 + 4 * n, 5, 5⟩
def Fd.SIB_PEER_ROLE (n : Nat) : Fd := ⟨0x06054 + 4 * n, 4, 2⟩
def Fd.SIB_PEER_REACH (n : Nat) : Fd := ⟨0x06054 + 4 * n, 1, 0⟩
def Fd.SIB_TIME_BOUND_TICKS : Fd := ⟨0x0605C, 23, 16⟩
def Fd.SIB_TIME_BOUND_NS : Fd := ⟨0x0605C, 15, 0⟩
def Fd.SIB_TIME_DEV : Fd := ⟨0x06060, 31, 0⟩
def Fd.SIB_TIME_STAT_EVT_TOTAL : Fd := ⟨0x06064, 31, 16⟩
def Fd.SIB_TIME_STAT_EVT : Fd := ⟨0x06064, 9, 8⟩
def Fd.SIB_TIME_STAT_TICK_DEV : Fd := ⟨0x06064, 7, 0⟩
def Fd.SIB_CYC_TMO : Fd := ⟨0x06068, 15, 0⟩
def Fd.SIB_LOST_T_LOST : Fd := ⟨0x0606C, 15, 0⟩
def Fd.SIB_REJOIN_SHADOW_CYC : Fd := ⟨0x06070, 31, 16⟩
def Fd.SIB_REJOIN_RETIRE_POS : Fd := ⟨0x06070, 5, 4⟩
def Fd.SIB_REJOIN_VOTE_POS : Fd := ⟨0x06070, 3, 2⟩
def Fd.SIB_REJOIN_ADMIT_POS : Fd := ⟨0x06070, 1, 0⟩
def Fd.SIB_REJOIN_STAT_SHADOW_DONE : Fd := ⟨0x06074, 31, 16⟩
def Fd.SIB_REJOIN_STAT_FAIL : Fd := ⟨0x06074, 7, 4⟩
def Fd.SIB_REJOIN_STAT_PHASE : Fd := ⟨0x06074, 2, 0⟩
def Fd.ERR_ACTIVE_ACT : Fd := ⟨0x07040, 31, 27⟩
def Fd.ERR_ACTIVE_CLASS : Fd := ⟨0x07040, 26, 24⟩
def Fd.ERR_ACTIVE_SRC : Fd := ⟨0x07040, 23, 0⟩
def Fd.ERR_QSTAT_PEND : Fd := ⟨0x07044, 20, 16⟩
def Fd.ERR_QSTAT_Q3 : Fd := ⟨0x07044, 15, 12⟩
def Fd.ERR_QSTAT_Q2 : Fd := ⟨0x07044, 11, 8⟩
def Fd.ERR_QSTAT_Q1 : Fd := ⟨0x07044, 7, 4⟩
def Fd.ERR_QSTAT_Q0 : Fd := ⟨0x07044, 3, 0⟩
def Fd.ERR_COUNT_CNT (n : Nat) : Fd := ⟨0x07048 + 4 * n, 31, 0⟩
def Fd.ERR_ESC_SAME : Fd := ⟨0x0705C, 15, 8⟩
def Fd.ERR_ESC_OVF : Fd := ⟨0x0705C, 7, 0⟩
def Fd.ERR_ASSIGN_PAGES (n : Nat) : Fd := ⟨0x07060 + 4 * n, 31, 0⟩
def Fd.ERR_TASK_MAX : Fd := ⟨0x07070, 3, 0⟩
def Fd.ERR_LOG_CNT_LOST : Fd := ⟨0x07074, 31, 16⟩
def Fd.ERR_LOG_CNT_CNT : Fd := ⟨0x07074, 6, 0⟩
def Fd.ERR_LOG_POP : Fd := ⟨0x07078, 0, 0⟩
def Fd.ERR_LOG_SRC_ESC : Fd := ⟨0x0707C, 31, 31⟩
def Fd.ERR_LOG_SRC_CLASS : Fd := ⟨0x0707C, 30, 28⟩
def Fd.ERR_LOG_SRC_SRC : Fd := ⟨0x0707C, 23, 0⟩
def Fd.ERR_LOG_INFO_CAUSE : Fd := ⟨0x07080, 31, 24⟩
def Fd.ERR_LOG_INFO_DETAIL : Fd := ⟨0x07080, 23, 0⟩
def Fd.ERR_LOG_TIME_LO_TIME : Fd := ⟨0x07084, 31, 0⟩
def Fd.ERR_LOG_TIME_HI_TIME : Fd := ⟨0x07088, 31, 0⟩
def Fd.ERR_ACK_CLASS : Fd := ⟨0x0708C, 2, 0⟩
def Fd.ERR_RELEASE_SRC : Fd := ⟨0x07090, 23, 0⟩
def Fd.ERR_INJECT_CLASS : Fd := ⟨0x07094, 30, 28⟩
def Fd.ERR_INJECT_SRC : Fd := ⟨0x07094, 23, 0⟩
def Fd.ERR_HEALTH_MARGIN : Fd := ⟨0x07098, 31, 24⟩
def Fd.ERR_HEALTH_ST_FAIL : Fd := ⟨0x07098, 23, 16⟩
def Fd.ERR_HEALTH_PEND_MAX : Fd := ⟨0x07098, 10, 8⟩
def Fd.ERR_HEALTH_ANY : Fd := ⟨0x07098, 0, 0⟩
def Fd.TXN_CMD_OP : Fd := ⟨0x08040, 9, 8⟩
def Fd.TXN_CMD_GROUP : Fd := ⟨0x08040, 3, 0⟩
def Fd.TXN_LEAD : Fd := ⟨0x08044, 13, 0⟩
def Fd.TXN_STAGE_ADDR_WADDR : Fd := ⟨0x08048, 25, 2⟩
def Fd.TXN_STAGE_DATA : Fd := ⟨0x0804C, 31, 0⟩
def Fd.TXN_LAST_RESULT : Fd := ⟨0x08050, 7, 4⟩
def Fd.TXN_LAST_GROUP : Fd := ⟨0x08050, 3, 0⟩
def Fd.TXN_GRP_CFG_SUP_EN (n : Nat) : Fd := ⟨0x08080 + 4 * n, 20, 20⟩
def Fd.TXN_GRP_CFG_SUP (n : Nat) : Fd := ⟨0x08080 + 4 * n, 19, 16⟩
def Fd.TXN_GRP_CFG_SLOT (n : Nat) : Fd := ⟨0x08080 + 4 * n, 12, 4⟩
def Fd.TXN_GRP_CFG_KIND (n : Nat) : Fd := ⟨0x08080 + 4 * n, 2, 0⟩
def Fd.TXN_GRP_STAT_ENTRIES (n : Nat) : Fd := ⟨0x080C0 + 4 * n, 28, 16⟩
def Fd.TXN_GRP_STAT_REFUSED (n : Nat) : Fd := ⟨0x080C0 + 4 * n, 15, 15⟩
def Fd.TXN_GRP_STAT_HOST (n : Nat) : Fd := ⟨0x080C0 + 4 * n, 14, 14⟩
def Fd.TXN_GRP_STAT_AGREE (n : Nat) : Fd := ⟨0x080C0 + 4 * n, 13, 11⟩
def Fd.TXN_GRP_STAT_RESULT (n : Nat) : Fd := ⟨0x080C0 + 4 * n, 10, 7⟩
def Fd.TXN_GRP_STAT_STATE (n : Nat) : Fd := ⟨0x080C0 + 4 * n, 2, 0⟩
def Fd.TXN_GRP_TIME_LO_TIME (n : Nat) : Fd := ⟨0x08100 + 8 * n, 31, 0⟩
def Fd.TXN_GRP_TIME_HI_TIME (n : Nat) : Fd := ⟨0x08104 + 8 * n, 31, 0⟩
def Fd.BSN_RANK0_RANK_0 : Fd := ⟨0x09040, 2, 0⟩
def Fd.BSN_RANK0_RANK_1 : Fd := ⟨0x09040, 6, 4⟩
def Fd.BSN_RANK0_RANK_2 : Fd := ⟨0x09040, 10, 8⟩
def Fd.BSN_RANK0_RANK_3 : Fd := ⟨0x09040, 14, 12⟩
def Fd.BSN_RANK0_RANK_4 : Fd := ⟨0x09040, 18, 16⟩
def Fd.BSN_RANK0_RANK_5 : Fd := ⟨0x09040, 22, 20⟩
def Fd.BSN_RANK0_RANK_6 : Fd := ⟨0x09040, 26, 24⟩
def Fd.BSN_RANK0_RANK_7 : Fd := ⟨0x09040, 30, 28⟩
def Fd.BSN_RANK1_RANK_11 : Fd := ⟨0x09044, 14, 12⟩
def Fd.BSN_RANK1_RANK_10 : Fd := ⟨0x09044, 10, 8⟩
def Fd.BSN_RANK1_RANK_9 : Fd := ⟨0x09044, 6, 4⟩
def Fd.BSN_RANK1_RANK_8 : Fd := ⟨0x09044, 2, 0⟩
def Fd.BSN_MASK_MASKED : Fd := ⟨0x09048, 11, 0⟩
def Fd.BSN_LOCK_HELD : Fd := ⟨0x0904C, 15, 0⟩
def Fd.BSN_LOCK_OWN_OWNER (n : Nat) : Fd := ⟨0x09050 + 4 * n, 31, 0⟩
def Fd.BSN_ECC_CE : Fd := ⟨0x09058, 31, 16⟩
def Fd.BSN_ECC_UE : Fd := ⟨0x09058, 15, 0⟩
def Fd.BSN_ECC_ADDR_WADDR : Fd := ⟨0x0905C, 23, 0⟩
def Fd.BSN_DISCARD_REQ : Fd := ⟨0x09060, 31, 28⟩
def Fd.BSN_DISCARD_WADDR : Fd := ⟨0x09060, 23, 0⟩
def Fd.BSN_SCRUB_PASSES : Fd := ⟨0x09064, 31, 16⟩
def Fd.BSN_SCRUB_LAST_S : Fd := ⟨0x09064, 15, 0⟩
def Fd.BSN_REGION_LO_BASE (n : Nat) : Fd := ⟨0x09080 + 8 * n, 25, 12⟩
def Fd.BSN_REGION_HI_VALID (n : Nat) : Fd := ⟨0x09084 + 8 * n, 31, 31⟩
def Fd.BSN_REGION_HI_TXN (n : Nat) : Fd := ⟨0x09084 + 8 * n, 30, 30⟩
def Fd.BSN_REGION_HI_RO (n : Nat) : Fd := ⟨0x09084 + 8 * n, 29, 29⟩
def Fd.BSN_REGION_HI_PAGES (n : Nat) : Fd := ⟨0x09084 + 8 * n, 13, 0⟩
def Fd.SLV_LANES_IN_SERVICE : Fd := ⟨0x0A040, 8, 0⟩
def Fd.SLV_LANE_OUT (n : Nat) : Fd := ⟨0x0A044 + 4 * n, 31, 0⟩
def Fd.SLV_CTX_CFG_FPRI (n : Nat) : Fd := ⟨0x0A080 + 4 * n, 9, 8⟩
def Fd.SLV_CTX_CFG_TRIG (n : Nat) : Fd := ⟨0x0A080 + 4 * n, 6, 4⟩
def Fd.SLV_CTX_CFG_SRC (n : Nat) : Fd := ⟨0x0A080 + 4 * n, 3, 2⟩
def Fd.SLV_CTX_CFG_EN (n : Nat) : Fd := ⟨0x0A080 + 4 * n, 0, 0⟩
def Fd.SLV_CTX_PERIOD (n : Nat) : Fd := ⟨0x0A090 + 4 * n, 16, 0⟩
def Fd.SLV_CTX_IMG_BASE (n : Nat) : Fd := ⟨0x0A0A0 + 4 * n, 25, 0⟩
def Fd.SLV_CTX_SBY_BASE (n : Nat) : Fd := ⟨0x0A0B0 + 4 * n, 25, 0⟩
def Fd.SLV_CTX_FP_LO_FP (n : Nat) : Fd := ⟨0x0A0C0 + 8 * n, 31, 0⟩
def Fd.SLV_CTX_FP_HI_FP (n : Nat) : Fd := ⟨0x0A0C4 + 8 * n, 31, 0⟩
def Fd.SLV_CTX_STAT_OVR (n : Nat) : Fd := ⟨0x0A0E0 + 4 * n, 31, 16⟩
def Fd.SLV_CTX_STAT_LAST (n : Nat) : Fd := ⟨0x0A0E0 + 4 * n, 11, 8⟩
def Fd.SLV_CTX_STAT_SWAPPED (n : Nat) : Fd := ⟨0x0A0E0 + 4 * n, 5, 5⟩
def Fd.SLV_CTX_STAT_STATE (n : Nat) : Fd := ⟨0x0A0E0 + 4 * n, 2, 0⟩
def Fd.SLV_CTX_GO_ABORT : Fd := ⟨0x0A100, 7, 4⟩
def Fd.SLV_CTX_GO_START : Fd := ⟨0x0A100, 3, 0⟩
def Fd.SLV_SWAP_EN : Fd := ⟨0x0A104, 2, 2⟩
def Fd.SLV_SWAP_CTX : Fd := ⟨0x0A104, 1, 0⟩
def Fd.SLV_SWAP_HASH (n : Nat) : Fd := ⟨0x0A108 + 4 * n, 31, 0⟩
def Fd.SLV_DQ_BASE (n : Nat) : Fd := ⟨0x0A120 + 4 * n, 25, 0⟩
def Fd.SLV_DQ_LAST (n : Nat) : Fd := ⟨0x0A130 + 4 * n, 15, 0⟩
def Fd.SLV_DQ_STAT_SKIPPED (n : Nat) : Fd := ⟨0x0A140 + 4 * n, 31, 16⟩
def Fd.SLV_DQ_STAT_BAD (n : Nat) : Fd := ⟨0x0A140 + 4 * n, 9, 9⟩
def Fd.SLV_DQ_STAT_SAT (n : Nat) : Fd := ⟨0x0A140 + 4 * n, 8, 8⟩
def Fd.SLV_DQ_STAT_APPLIED (n : Nat) : Fd := ⟨0x0A140 + 4 * n, 7, 0⟩
def Fd.SLV_PLAN_EN : Fd := ⟨0x0A150, 8, 8⟩
def Fd.SLV_PLAN_GRP_B : Fd := ⟨0x0A150, 7, 4⟩
def Fd.SLV_PLAN_GRP_A : Fd := ⟨0x0A150, 3, 0⟩
def Fd.SLV_OPT_STAGE : Fd := ⟨0x0A154, 15, 0⟩
def Fd.SLV_EST_BAD_THRESH : Fd := ⟨0x0A158, 31, 0⟩
def Fd.SLV_EST_W_VIRT : Fd := ⟨0x0A15C, 12, 8⟩
def Fd.SLV_EST_W_SUBW : Fd := ⟨0x0A15C, 4, 0⟩
def Fd.SLV_EST_QMIN : Fd := ⟨0x0A160, 31, 0⟩
def Fd.SLV_EST_HIST_DEPTH : Fd := ⟨0x0A164, 10, 0⟩
def Fd.SLC_PIVMIN_REL : Fd := ⟨0x0B040, 31, 0⟩
def Fd.SLC_WARM_MIN_PCT : Fd := ⟨0x0B044, 6, 0⟩
def Fd.SLC_SYNC_WAIT : Fd := ⟨0x0B048, 15, 0⟩
def Fd.SLC_PLAN_ON_DEADLINE : Fd := ⟨0x0B04C, 1, 1⟩
def Fd.SLC_PLAN_ON_CAP : Fd := ⟨0x0B04C, 0, 0⟩
def Fd.SLC_INFEAS_N : Fd := ⟨0x0B050, 7, 0⟩
def Fd.SLC_COLD_CTX : Fd := ⟨0x0B054, 3, 0⟩
def Fd.SLC_LANE_FAIL_VALID : Fd := ⟨0x0B058, 8, 8⟩
def Fd.SLC_LANE_FAIL_LANE : Fd := ⟨0x0B058, 7, 0⟩
def Fd.SLC_CRIT_CNT : Fd := ⟨0x0B05C, 16, 0⟩
def Fd.SLC_DEADLINE_US (n : Nat) : Fd := ⟨0x0B060 + 4 * n, 31, 0⟩
def Fd.SLC_ITER_CAP (n : Nat) : Fd := ⟨0x0B070 + 4 * n, 7, 0⟩
def Fd.SLC_GRP_PUB (n : Nat) : Fd := ⟨0x0B080 + 4 * n, 7, 4⟩
def Fd.SLC_GRP_SYNC (n : Nat) : Fd := ⟨0x0B080 + 4 * n, 3, 0⟩
def Fd.SLC_GATHER_SEL (n : Nat) : Fd := ⟨0x0B090 + 4 * n, 0, 0⟩
def Fd.SLC_WIN_BASE (n : Nat) : Fd := ⟨0x0B0A0 + 8 * n, 17, 0⟩
def Fd.SLC_WIN_LEN (n : Nat) : Fd := ⟨0x0B0A4 + 8 * n, 17, 0⟩
def Fd.SLC_RUN_SERIAL (n : Nat) : Fd := ⟨0x0B0C0 + 4 * n, 31, 16⟩
def Fd.SLC_RUN_PUBLISHED (n : Nat) : Fd := ⟨0x0B0C0 + 4 * n, 8, 8⟩
def Fd.SLC_RUN_FLAGS (n : Nat) : Fd := ⟨0x0B0C0 + 4 * n, 7, 3⟩
def Fd.SLC_RUN_STATUS (n : Nat) : Fd := ⟨0x0B0C0 + 4 * n, 2, 0⟩
def Fd.SLC_ITER_TOTAL (n : Nat) : Fd := ⟨0x0B0D0 + 4 * n, 31, 20⟩
def Fd.SLC_ITER_BEST (n : Nat) : Fd := ⟨0x0B0D0 + 4 * n, 19, 8⟩
def Fd.SLC_ITER_REMOVED (n : Nat) : Fd := ⟨0x0B0D0 + 4 * n, 1, 0⟩
def Fd.SLC_TIME_US (n : Nat) : Fd := ⟨0x0B0E0 + 4 * n, 31, 0⟩
def Fd.SLC_PIVOT_CNT (n : Nat) : Fd := ⟨0x0B0F0 + 4 * n, 31, 20⟩
def Fd.SLC_PIVOT_FIRST (n : Nat) : Fd := ⟨0x0B0F0 + 4 * n, 19, 0⟩
def Fd.SLC_SAT_STEP_SET (n : Nat) : Fd := ⟨0x0B100 + 8 * n, 31, 31⟩
def Fd.SLC_SAT_STEP_STEP (n : Nat) : Fd := ⟨0x0B100 + 8 * n, 13, 0⟩
def Fd.SLC_SAT_INDEX (n : Nat) : Fd := ⟨0x0B104 + 8 * n, 23, 0⟩
def Fd.SLC_WARM_PATH (n : Nat) : Fd := ⟨0x0B120 + 4 * n, 18, 16⟩
def Fd.SLC_WARM_MATCHED (n : Nat) : Fd := ⟨0x0B120 + 4 * n, 15, 0⟩
def Fd.SLC_REFRES_RHO (n : Nat) : Fd := ⟨0x0B130 + 4 * n, 31, 0⟩
def Fd.SLC_SYNC_STAT_ITER (n : Nat) : Fd := ⟨0x0B140 + 4 * n, 31, 20⟩
def Fd.SLC_SYNC_STAT_SPLIT (n : Nat) : Fd := ⟨0x0B140 + 4 * n, 11, 4⟩
def Fd.SLC_SYNC_STAT_DROP_DN (n : Nat) : Fd := ⟨0x0B140 + 4 * n, 3, 3⟩
def Fd.SLC_SYNC_STAT_DROP_UP (n : Nat) : Fd := ⟨0x0B140 + 4 * n, 2, 2⟩
def Fd.SLC_PUB_HALF (n : Nat) : Fd := ⟨0x0B160 + 4 * n, 0, 0⟩
def Fd.SLC_RESID_RHO (n : Nat) : Fd := ⟨0x0B180 + 4 * n, 31, 0⟩
def Fd.SLC_TOL (n : Nat) : Fd := ⟨0x0B200 + 4 * n, 31, 0⟩
def Fd.SLC_SUSP_ROW_VALID (n : Nat) : Fd := ⟨0x0B280 + 8 * n, 31, 31⟩
def Fd.SLC_SUSP_ROW_REMOVED (n : Nat) : Fd := ⟨0x0B280 + 8 * n, 30, 30⟩
def Fd.SLC_SUSP_ROW_ROW (n : Nat) : Fd := ⟨0x0B280 + 8 * n, 16, 0⟩
def Fd.SLC_SUSP_RN (n : Nat) : Fd := ⟨0x0B284 + 8 * n, 31, 0⟩
def Fd.SLC_GLIST_BASE (n : Nat) : Fd := ⟨0x0B300 + 4 * n, 25, 0⟩
def Fd.SLC_SYNC_MARK (n : Nat) : Fd := ⟨0x0B320 + 4 * n, 31, 0⟩
def Fd.LOP_CFG_BASE : Fd := ⟨0x0C040, 25, 0⟩
def Fd.LOP_STATE_BASE : Fd := ⟨0x0C044, 25, 0⟩
def Fd.LOP_SP_BASE : Fd := ⟨0x0C048, 25, 0⟩
def Fd.LOP_TEST_BASE : Fd := ⟨0x0C04C, 25, 0⟩
def Fd.LOP_CAP_BASE : Fd := ⟨0x0C050, 25, 0⟩
def Fd.LOP_TICK_OVR : Fd := ⟨0x0C054, 31, 16⟩
def Fd.LOP_TICK_DUE : Fd := ⟨0x0C054, 9, 0⟩
def Fd.LOP_UPD : Fd := ⟨0x0C058, 20, 0⟩
def Fd.LOP_EN (n : Nat) : Fd := ⟨0x0C080 + 4 * n, 31, 0⟩
def Fd.LOP_BANK_SEL (n : Nat) : Fd := ⟨0x0C0C0 + 4 * n, 31, 0⟩
def Fd.LOP_BANK_ACT (n : Nat) : Fd := ⟨0x0C100 + 4 * n, 31, 0⟩
def Fd.LOP_RUNNING_RUN (n : Nat) : Fd := ⟨0x0C140 + 4 * n, 31, 0⟩
def Fd.LOP_INVALID_INV (n : Nat) : Fd := ⟨0x0C180 + 4 * n, 31, 0⟩
def Fd.LOP_SATALM_ALM (n : Nat) : Fd := ⟨0x0C1C0 + 4 * n, 31, 0⟩
def Fd.LOP_TEST_RUN (n : Nat) : Fd := ⟨0x0C200 + 4 * n, 31, 31⟩
def Fd.LOP_TEST_POINT (n : Nat) : Fd := ⟨0x0C200 + 4 * n, 30, 30⟩
def Fd.LOP_TEST_KIND (n : Nat) : Fd := ⟨0x0C200 + 4 * n, 29, 27⟩
def Fd.LOP_TEST_ORDER (n : Nat) : Fd := ⟨0x0C200 + 4 * n, 26, 23⟩
def Fd.LOP_TEST_SLOT (n : Nat) : Fd := ⟨0x0C200 + 4 * n, 8, 0⟩
def Fd.LOP_TEST_STAT_DONE (n : Nat) : Fd := ⟨0x0C220 + 4 * n, 31, 31⟩
def Fd.LOP_TEST_STAT_K (n : Nat) : Fd := ⟨0x0C220 + 4 * n, 23, 0⟩
def Fd.LOP_CAP_CTRL_ARM (n : Nat) : Fd := ⟨0x0C240 + 32 * n, 31, 31⟩
def Fd.LOP_CAP_CTRL_TRIG (n : Nat) : Fd := ⟨0x0C240 + 32 * n, 30, 28⟩
def Fd.LOP_CAP_CTRL_TGEN (n : Nat) : Fd := ⟨0x0C240 + 32 * n, 27, 25⟩
def Fd.LOP_CAP_CTRL_SLOT (n : Nat) : Fd := ⟨0x0C240 + 32 * n, 8, 0⟩
def Fd.LOP_CAP_SIG_SIG2 (n : Nat) : Fd := ⟨0x0C244 + 32 * n, 23, 16⟩
def Fd.LOP_CAP_SIG_SIG1 (n : Nat) : Fd := ⟨0x0C244 + 32 * n, 15, 8⟩
def Fd.LOP_CAP_SIG_SIG0 (n : Nat) : Fd := ⟨0x0C244 + 32 * n, 7, 0⟩
def Fd.LOP_CAP_TOTAL (n : Nat) : Fd := ⟨0x0C248 + 32 * n, 16, 0⟩
def Fd.LOP_CAP_PRE (n : Nat) : Fd := ⟨0x0C24C + 32 * n, 16, 0⟩
def Fd.LOP_CAP_LEVEL (n : Nat) : Fd := ⟨0x0C250 + 32 * n, 31, 0⟩
def Fd.LOP_CAP_ADDR (n : Nat) : Fd := ⟨0x0C254 + 32 * n, 23, 0⟩
def Fd.LOP_CAP_STAT_STATE (n : Nat) : Fd := ⟨0x0C2C0 + 4 * n, 31, 29⟩
def Fd.LOP_CAP_STAT_COUNT (n : Nat) : Fd := ⟨0x0C2C0 + 4 * n, 16, 0⟩
def Fd.SCN_STAT_UNLATCHED : Fd := ⟨0x0D040, 11, 11⟩
def Fd.SCN_STAT_OVF : Fd := ⟨0x0D040, 10, 10⟩
def Fd.SCN_STAT_KEY_OK : Fd := ⟨0x0D040, 9, 9⟩
def Fd.SCN_STAT_FORCED : Fd := ⟨0x0D040, 8, 8⟩
def Fd.SCN_STAT_ERRTASK : Fd := ⟨0x0D040, 5, 5⟩
def Fd.SCN_STAT_RUN : Fd := ⟨0x0D040, 4, 4⟩
def Fd.SCN_STAT_ETASK : Fd := ⟨0x0D040, 3, 3⟩
def Fd.SCN_STAT_PHASE : Fd := ⟨0x0D040, 2, 0⟩
def Fd.SCN_CYC_NUM_CYC : Fd := ⟨0x0D044, 31, 0⟩
def Fd.SCN_CYC_MAX : Fd := ⟨0x0D048, 16, 0⟩
def Fd.SCN_CYC_LAST_US : Fd := ⟨0x0D04C, 16, 0⟩
def Fd.SCN_P3_LAST_US : Fd := ⟨0x0D050, 16, 0⟩
def Fd.SCN_FORCE_KEY : Fd := ⟨0x0D054, 31, 0⟩
def Fd.SCN_KEY_TTL : Fd := ⟨0x0D058, 15, 0⟩
def Fd.SCN_FORCE_CNT_CHANGES : Fd := ⟨0x0D05C, 31, 16⟩
def Fd.SCN_FORCE_CNT_ACTIVE : Fd := ⟨0x0D05C, 8, 0⟩
def Fd.SCN_LATCH_ENTRIES : Fd := ⟨0x0D060, 14, 0⟩
def Fd.SCN_ENTRY_ERRTASK : Fd := ⟨0x0D064, 31, 16⟩
def Fd.SCN_ENTRY_MAIN : Fd := ⟨0x0D064, 15, 0⟩
def Fd.SCN_STATE_BASE : Fd := ⟨0x0D068, 25, 0⟩
def Fd.SCN_TIME_LO_TICK : Fd := ⟨0x0D06C, 31, 0⟩
def Fd.SCN_TIME_HI_TICK : Fd := ⟨0x0D070, 31, 0⟩
def Fd.SCN_ERRTASK_CALLS : Fd := ⟨0x0D074, 15, 8⟩
def Fd.SCN_ERRTASK_LINE : Fd := ⟨0x0D074, 7, 0⟩
def Fd.SCN_GRP_VALID : Fd := ⟨0x0D078, 4, 4⟩
def Fd.SCN_GRP_GROUP : Fd := ⟨0x0D078, 3, 0⟩
def Fd.SCN_AGREE_CYCLES : Fd := ⟨0x0D07C, 31, 16⟩
def Fd.SCN_AGREE_DIFF : Fd := ⟨0x0D07C, 15, 0⟩
def Fd.STN_CTRL_EN : Fd := ⟨0x0E040, 0, 0⟩
def Fd.STN_PORT_PCP : Fd := ⟨0x0E044, 18, 16⟩
def Fd.STN_PORT_PORT : Fd := ⟨0x0E044, 15, 0⟩
def Fd.STN_MCAST_UP_ADDR : Fd := ⟨0x0E048, 31, 0⟩
def Fd.STN_MCAST_DN_ADDR : Fd := ⟨0x0E04C, 31, 0⟩
def Fd.STN_CYCLE_MS : Fd := ⟨0x0E050, 13, 0⟩
def Fd.STN_TIMING_LAUNCH_US : Fd := ⟨0x0E054, 31, 16⟩
def Fd.STN_TIMING_BUILD_US : Fd := ⟨0x0E054, 15, 0⟩
def Fd.STN_SNAP_US : Fd := ⟨0x0E058, 23, 0⟩
def Fd.STN_WATCH_MISS_N : Fd := ⟨0x0E05C, 15, 8⟩
def Fd.STN_WATCH_WATCH : Fd := ⟨0x0E05C, 7, 0⟩
def Fd.STN_TABLE_BASE : Fd := ⟨0x0E060, 25, 0⟩
def Fd.STN_COUNT0_ABSENT : Fd := ⟨0x0E064, 26, 16⟩
def Fd.STN_COUNT0_LIVE : Fd := ⟨0x0E064, 10, 0⟩
def Fd.STN_COUNT1_RETIRED : Fd := ⟨0x0E068, 26, 16⟩
def Fd.STN_COUNT1_PENDING : Fd := ⟨0x0E068, 10, 0⟩
def Fd.STN_RX_CRC : Fd := ⟨0x0E06C, 31, 24⟩
def Fd.STN_RX_TAG : Fd := ⟨0x0E06C, 23, 16⟩
def Fd.STN_RX_SEQ : Fd := ⟨0x0E06C, 15, 8⟩
def Fd.STN_RX_OTHER : Fd := ⟨0x0E06C, 7, 0⟩
def Fd.STN_LATE_FRAMES : Fd := ⟨0x0E070, 31, 16⟩
def Fd.STN_LATE_CMD : Fd := ⟨0x0E070, 15, 0⟩
def Fd.STN_RXMIN_RUN : Fd := ⟨0x0E074, 23, 16⟩
def Fd.STN_RXMIN_MISSED : Fd := ⟨0x0E074, 10, 0⟩
def Fd.STN_SEL_STATION : Fd := ⟨0x0E078, 9, 0⟩
def Fd.STN_SEL_STAT_RESULT : Fd := ⟨0x0E07C, 31, 24⟩
def Fd.STN_SEL_STAT_UNHEARD : Fd := ⟨0x0E07C, 23, 16⟩
def Fd.STN_SEL_STAT_RXPORT : Fd := ⟨0x0E07C, 10, 8⟩
def Fd.STN_SEL_STAT_GATHERED : Fd := ⟨0x0E07C, 5, 5⟩
def Fd.STN_SEL_STAT_SUBST : Fd := ⟨0x0E07C, 4, 4⟩
def Fd.STN_SEL_STAT_STATE : Fd := ⟨0x0E07C, 2, 0⟩
def Fd.STN_SEL_BOOT_VALUE : Fd := ⟨0x0E080, 31, 0⟩
def Fd.STN_SEL_SEQ_VALUE : Fd := ⟨0x0E084, 31, 0⟩
def Fd.STN_SEL_LLDP_VALUE : Fd := ⟨0x0E088, 31, 0⟩
def Fd.STN_RETIRED_RET (n : Nat) : Fd := ⟨0x0E0C0 + 4 * n, 31, 0⟩
def Fd.LUM_CTRL_EN : Fd := ⟨0x0F040, 0, 0⟩
def Fd.LUM_ZONE_BASE : Fd := ⟨0x0F044, 25, 0⟩
def Fd.LUM_RECIPE_BASE : Fd := ⟨0x0F048, 25, 0⟩
def Fd.LUM_SP_BASE : Fd := ⟨0x0F04C, 25, 0⟩
def Fd.LUM_DLI_BASE : Fd := ⟨0x0F050, 25, 0⟩
def Fd.LUM_CIVIL_OFS : Fd := ⟨0x0F054, 31, 0⟩
def Fd.LUM_DAY_START : Fd := ⟨0x0F058, 16, 0⟩
def Fd.LUM_RPT_WADDR : Fd := ⟨0x0F05C, 23, 0⟩
def Fd.LUM_STAT_LATE : Fd := ⟨0x0F060, 31, 16⟩
def Fd.LUM_STAT_ZONES : Fd := ⟨0x0F060, 10, 0⟩
def Fd.LUM_SEL_CH : Fd := ⟨0x0F064, 12, 10⟩
def Fd.LUM_SEL_ZONE : Fd := ⟨0x0F064, 9, 0⟩
def Fd.LUM_SEL_SP_VALUE : Fd := ⟨0x0F068, 31, 0⟩
def Fd.LUM_SEL_DLI_VALUE : Fd := ⟨0x0F06C, 31, 0⟩
def Fd.LUM_ZONE_BAD (n : Nat) : Fd := ⟨0x0F080 + 4 * n, 31, 0⟩
def Fd.LUM_GRP_INT (n : Nat) : Fd := ⟨0x0F100 + 4 * n, 31, 0⟩
def Fd.PMS_CTRL_FSRC : Fd := ⟨0x10040, 5, 4⟩
def Fd.PMS_CTRL_NOM : Fd := ⟨0x10040, 1, 1⟩
def Fd.PMS_CTRL_EN : Fd := ⟨0x10040, 0, 0⟩
def Fd.PMS_LEVEL_ISLAND : Fd := ⟨0x10044, 9, 9⟩
def Fd.PMS_LEVEL_BLACKOUT : Fd := ⟨0x10044, 8, 8⟩
def Fd.PMS_LEVEL_AGREED : Fd := ⟨0x10044, 7, 4⟩
def Fd.PMS_LEVEL_OWN : Fd := ⟨0x10044, 3, 0⟩
def Fd.PMS_LEAD_US : Fd := ⟨0x10048, 13, 0⟩
def Fd.PMS_RESTORE_RECOVER : Fd := ⟨0x1004C, 31, 16⟩
def Fd.PMS_RESTORE_BLACKOUT_T : Fd := ⟨0x1004C, 15, 0⟩
def Fd.PMS_RST_BAND_HI : Fd := ⟨0x10050, 31, 16⟩
def Fd.PMS_RST_BAND_LO : Fd := ⟨0x10050, 15, 0⟩
def Fd.PMS_CAP_BASE : Fd := ⟨0x10054, 25, 0⟩
def Fd.PMS_LAST_LO_TIME : Fd := ⟨0x10058, 31, 0⟩
def Fd.PMS_LAST_HI_TIME : Fd := ⟨0x1005C, 31, 0⟩
def Fd.PMS_LAST_SRC_SHEDS : Fd := ⟨0x10060, 31, 16⟩
def Fd.PMS_LAST_SRC_KIND : Fd := ⟨0x10060, 11, 8⟩
def Fd.PMS_LAST_SRC_STAGE : Fd := ⟨0x10060, 3, 0⟩
def Fd.PMS_GEN_EN (n : Nat) : Fd := ⟨0x10080 + 4 * n, 31, 31⟩
def Fd.PMS_GEN_TRIP_INV (n : Nat) : Fd := ⟨0x10080 + 4 * n, 30, 30⟩
def Fd.PMS_GEN_BRK_INV (n : Nat) : Fd := ⟨0x10080 + 4 * n, 29, 29⟩
def Fd.PMS_GEN_BRK_CH (n : Nat) : Fd := ⟨0x10080 + 4 * n, 12, 8⟩
def Fd.PMS_GEN_TRIP_CH (n : Nat) : Fd := ⟨0x10080 + 4 * n, 4, 0⟩
def Fd.PMS_TIE_EN (n : Nat) : Fd := ⟨0x100C0 + 4 * n, 31, 31⟩
def Fd.PMS_TIE_BRK_INV (n : Nat) : Fd := ⟨0x100C0 + 4 * n, 30, 30⟩
def Fd.PMS_TIE_BRK_CH (n : Nat) : Fd := ⟨0x100C0 + 4 * n, 4, 0⟩
def Fd.PMS_STAGE_CTRL_EN (n : Nat) : Fd := ⟨0x10100 + 32 * n, 31, 31⟩
def Fd.PMS_STAGE_CTRL_VOTE (n : Nat) : Fd := ⟨0x10100 + 32 * n, 30, 30⟩
def Fd.PMS_STAGE_CTRL_ISLAND_ONLY (n : Nat) : Fd := ⟨0x10100 + 32 * n, 29, 29⟩
def Fd.PMS_STAGE_CTRL_TRP (n : Nat) : Fd := ⟨0x10100 + 32 * n, 23, 16⟩
def Fd.PMS_STAGE_CTRL_GEN (n : Nat) : Fd := ⟨0x10100 + 32 * n, 15, 0⟩
def Fd.PMS_STAGE_UF_HZ (n : Nat) : Fd := ⟨0x10104 + 32 * n, 31, 0⟩
def Fd.PMS_STAGE_WIN_ROCOF_W (n : Nat) : Fd := ⟨0x10108 + 32 * n, 15, 8⟩
def Fd.PMS_STAGE_WIN_UF_N (n : Nat) : Fd := ⟨0x10108 + 32 * n, 7, 0⟩
def Fd.PMS_STAGE_ROCOF (n : Nat) : Fd := ⟨0x1010C + 32 * n, 31, 0⟩
def Fd.PMS_STAGE_OVL_A (n : Nat) : Fd := ⟨0x10110 + 32 * n, 31, 0⟩
def Fd.PMS_STAGE_OVL_OVL_CH (n : Nat) : Fd := ⟨0x10114 + 32 * n, 25, 24⟩
def Fd.PMS_STAGE_OVL_OVL_T (n : Nat) : Fd := ⟨0x10114 + 32 * n, 15, 0⟩
def Fd.PMS_STAGE_DELAY (n : Nat) : Fd := ⟨0x10118 + 32 * n, 15, 0⟩
def Fd.NRG_CTRL_ADOPT : Fd := ⟨0x11040, 2, 2⟩
def Fd.NRG_CTRL_SAVE_EN : Fd := ⟨0x11040, 1, 1⟩
def Fd.NRG_CTRL_EN : Fd := ⟨0x11040, 0, 0⟩
def Fd.NRG_QTY_BASE : Fd := ⟨0x11044, 25, 0⟩
def Fd.NRG_ACC_BASE : Fd := ⟨0x11048, 25, 0⟩
def Fd.NRG_RHO_BASE : Fd := ⟨0x1104C, 25, 0⟩
def Fd.NRG_CP_BASE : Fd := ⟨0x11050, 25, 0⟩
def Fd.NRG_SAVE_PERIOD : Fd := ⟨0x11054, 11, 0⟩
def Fd.NRG_INT_S : Fd := ⟨0x11058, 16, 0⟩
def Fd.NRG_ZC_HYST : Fd := ⟨0x1105C, 20, 16⟩
def Fd.NRG_ZC_TMO : Fd := ⟨0x1105C, 9, 0⟩
def Fd.NRG_RATIO (n : Nat) : Fd := ⟨0x11060 + 4 * n, 31, 0⟩
def Fd.NRG_IMG_WADDR : Fd := ⟨0x11080, 23, 0⟩
def Fd.NRG_STAT_VABS : Fd := ⟨0x11084, 11, 8⟩
def Fd.NRG_STAT_RUN : Fd := ⟨0x11084, 0, 0⟩
def Fd.NRG_SLOT_STAT_PF_DIP : Fd := ⟨0x11088, 7, 7⟩
def Fd.NRG_SLOT_STAT_SPC_LOST : Fd := ⟨0x11088, 6, 6⟩
def Fd.NRG_SLOT_STAT_LOST : Fd := ⟨0x11088, 5, 5⟩
def Fd.NRG_SLOT_STAT_FP_DIFF : Fd := ⟨0x11088, 4, 4⟩
def Fd.NRG_SLOT_STAT_SLOT : Fd := ⟨0x11088, 3, 3⟩
def Fd.NRG_SLOT_STAT_SOURCE : Fd := ⟨0x11088, 2, 0⟩
def Fd.NRG_SLOT_SEQ : Fd := ⟨0x1108C, 31, 0⟩
def Fd.NRG_ACC_SEL_ACC : Fd := ⟨0x11090, 7, 0⟩
def Fd.NRG_ACC_LO_VALUE : Fd := ⟨0x11094, 31, 0⟩
def Fd.NRG_ACC_HI_VALUE : Fd := ⟨0x11098, 31, 0⟩
def Fd.NRG_WRAP (n : Nat) : Fd := ⟨0x110A0 + 4 * n, 31, 0⟩
def Fd.NRG_INVALID_INV (n : Nat) : Fd := ⟨0x110C0 + 4 * n, 31, 0⟩
def Fd.PLS_SPC_CFG_EN (n : Nat) : Fd := ⟨0x12040 + 4 * n, 31, 31⟩
def Fd.PLS_SPC_CFG_DIR_EN (n : Nat) : Fd := ⟨0x12040 + 4 * n, 11, 11⟩
def Fd.PLS_SPC_CFG_DIR_SRC (n : Nat) : Fd := ⟨0x12040 + 4 * n, 10, 8⟩
def Fd.PLS_SPC_CFG_EDGE (n : Nat) : Fd := ⟨0x12040 + 4 * n, 7, 7⟩
def Fd.PLS_SPC_CFG_DEB (n : Nat) : Fd := ⟨0x12040 + 4 * n, 4, 0⟩
def Fd.PLS_SPC_FWD_COUNT (n : Nat) : Fd := ⟨0x12060 + 4 * n, 31, 0⟩
def Fd.PLS_SPC_REV_COUNT (n : Nat) : Fd := ⟨0x12080 + 4 * n, 31, 0⟩
def Fd.PLS_SPC_STAT_CLOSED : Fd := ⟨0x120A0, 7, 0⟩
def Fd.PLS_OUT_CFG_CTRL_EN (n : Nat) : Fd := ⟨0x120C0 + 8 * n, 31, 31⟩
def Fd.PLS_OUT_CFG_CTRL_W (n : Nat) : Fd := ⟨0x120C0 + 8 * n, 21, 13⟩
def Fd.PLS_OUT_CFG_CTRL_CH (n : Nat) : Fd := ⟨0x120C0 + 8 * n, 12, 8⟩
def Fd.PLS_OUT_CFG_CTRL_SRC (n : Nat) : Fd := ⟨0x120C0 + 8 * n, 7, 0⟩
def Fd.PLS_OUT_CFG_WEIGHT (n : Nat) : Fd := ⟨0x120C4 + 8 * n, 31, 0⟩
def Fd.PLS_OUT_STAT_OVF (n : Nat) : Fd := ⟨0x120E0 + 4 * n, 31, 31⟩
def Fd.PLS_OUT_STAT_SHORT (n : Nat) : Fd := ⟨0x120E0 + 4 * n, 30, 30⟩
def Fd.PLS_OUT_STAT_WIDTH (n : Nat) : Fd := ⟨0x120E0 + 4 * n, 24, 16⟩
def Fd.PLS_OUT_STAT_BACKLOG (n : Nat) : Fd := ⟨0x120E0 + 4 * n, 15, 0⟩
def Fd.ADC_CTRL_COMPAT : Fd := ⟨0x13040, 1, 1⟩
def Fd.ADC_CTRL_EN : Fd := ⟨0x13040, 0, 0⟩
def Fd.ADC_SEQ_NSTEP (n : Nat) : Fd := ⟨0x13044 + 4 * n, 21, 16⟩
def Fd.ADC_SEQ_DIV (n : Nat) : Fd := ⟨0x13044 + 4 * n, 10, 8⟩
def Fd.ADC_SEQ_TRIG (n : Nat) : Fd := ⟨0x13044 + 4 * n, 2, 0⟩
def Fd.ADC_SEQ_PER (n : Nat) : Fd := ⟨0x13054 + 4 * n, 19, 0⟩
def Fd.ADC_Q_STAT_LOST : Fd := ⟨0x13064, 31, 16⟩
def Fd.ADC_Q_STAT_FILL : Fd := ⟨0x13064, 12, 0⟩
def Fd.ADC_SEQ_OVR : Fd := ⟨0x13068, 31, 0⟩
def Fd.ADC_SEQ_STAT_BAD : Fd := ⟨0x1306C, 3, 0⟩
def Fd.ADC_RING_BASE : Fd := ⟨0x13070, 25, 0⟩
def Fd.ADC_RING_LEN_LOG2 : Fd := ⟨0x13074, 4, 0⟩
def Fd.ADC_RING_WR : Fd := ⟨0x13078, 31, 0⟩
def Fd.ADC_COMPAT_TAG : Fd := ⟨0x1307C, 7, 0⟩
def Fd.ADC_DATA_VALID : Fd := ⟨0x13080, 31, 31⟩
def Fd.ADC_DATA_OVR : Fd := ⟨0x13080, 30, 30⟩
def Fd.ADC_DATA_VALUE : Fd := ⟨0x13080, 23, 0⟩
def Fd.ADC_REF_FAIL (n : Nat) : Fd := ⟨0x130A0 + 4 * n, 31, 31⟩
def Fd.ADC_REF_PPM (n : Nat) : Fd := ⟨0x130A0 + 4 * n, 15, 0⟩
def Fd.ADC_STEP_MUX (n : Nat) : Fd := ⟨0x13400 + 8 * n, 31, 0⟩
def Fd.ADC_STEP_FLAGS_QUEUE (n : Nat) : Fd := ⟨0x13404 + 8 * n, 0, 0⟩
def Fd.AIN_CFG_FFILT (n : Nat) : Fd := ⟨0x14040 + 4 * n, 15, 8⟩
def Fd.AIN_CFG_FSUB (n : Nat) : Fd := ⟨0x14040 + 4 * n, 5, 5⟩
def Fd.AIN_CFG_AGREE (n : Nat) : Fd := ⟨0x14040 + 4 * n, 4, 4⟩
def Fd.AIN_CFG_LS (n : Nat) : Fd := ⟨0x14040 + 4 * n, 3, 3⟩
def Fd.AIN_CFG_MODE (n : Nat) : Fd := ⟨0x14040 + 4 * n, 2, 0⟩
def Fd.AIN_IMG_WADDR : Fd := ⟨0x14080, 23, 0⟩
def Fd.AIN_AGREE_N : Fd := ⟨0x14084, 1, 0⟩
def Fd.AIN_OFS (n : Nat) : Fd := ⟨0x14100 + 4 * n, 23, 0⟩
def Fd.AIN_GAIN (n : Nat) : Fd := ⟨0x14180 + 4 * n, 23, 0⟩
def Fd.AIN_SCALE_K (n : Nat) : Fd := ⟨0x14200 + 8 * n, 31, 0⟩
def Fd.AIN_SCALE_B (n : Nat) : Fd := ⟨0x14204 + 8 * n, 31, 0⟩
def Fd.AIN_STAT_AGREED_FLT (n : Nat) : Fd := ⟨0x14280 + 4 * n, 7, 7⟩
def Fd.AIN_STAT_SETTLING (n : Nat) : Fd := ⟨0x14280 + 4 * n, 6, 6⟩
def Fd.AIN_STAT_LS_THERM (n : Nat) : Fd := ⟨0x14280 + 4 * n, 5, 5⟩
def Fd.AIN_STAT_LS_LIMIT (n : Nat) : Fd := ⟨0x14280 + 4 * n, 4, 4⟩
def Fd.AIN_STAT_LS_ON (n : Nat) : Fd := ⟨0x14280 + 4 * n, 3, 3⟩
def Fd.AIN_STAT_FAULT (n : Nat) : Fd := ⟨0x14280 + 4 * n, 2, 0⟩
def Fd.AOU_CFG_CTRL_HEAD (n : Nat) : Fd := ⟨0x15040 + 8 * n, 15, 8⟩
def Fd.AOU_CFG_CTRL_ALM (n : Nat) : Fd := ⟨0x15040 + 8 * n, 2, 1⟩
def Fd.AOU_CFG_CTRL_EN (n : Nat) : Fd := ⟨0x15040 + 8 * n, 0, 0⟩
def Fd.AOU_CFG_WADDR (n : Nat) : Fd := ⟨0x15044 + 8 * n, 23, 0⟩
def Fd.AOU_LIM_LO (n : Nat) : Fd := ⟨0x15080 + 8 * n, 31, 0⟩
def Fd.AOU_LIM_HI (n : Nat) : Fd := ⟨0x15084 + 8 * n, 31, 0⟩
def Fd.AOU_COMP_T_MS : Fd := ⟨0x150C0, 9, 0⟩
def Fd.AOU_TEST_EN (n : Nat) : Fd := ⟨0x15100 + 4 * n, 31, 31⟩
def Fd.AOU_TEST_CODE (n : Nat) : Fd := ⟨0x15100 + 4 * n, 15, 0⟩
def Fd.AOU_STAT_READBACK (n : Nat) : Fd := ⟨0x15120 + 4 * n, 31, 16⟩
def Fd.AOU_STAT_VSUP (n : Nat) : Fd := ⟨0x15120 + 4 * n, 15, 8⟩
def Fd.AOU_STAT_COMP (n : Nat) : Fd := ⟨0x15120 + 4 * n, 7, 7⟩
def Fd.AOU_STAT_OPEN (n : Nat) : Fd := ⟨0x15120 + 4 * n, 6, 6⟩
def Fd.AOU_STAT_THERM (n : Nat) : Fd := ⟨0x15120 + 4 * n, 5, 5⟩
def Fd.AOU_STAT_ISO (n : Nat) : Fd := ⟨0x15120 + 4 * n, 4, 4⟩
def Fd.AOU_STAT_LEGS (n : Nat) : Fd := ⟨0x15120 + 4 * n, 3, 2⟩
def Fd.AOU_STAT_STATE (n : Nat) : Fd := ⟨0x15120 + 4 * n, 1, 0⟩
def Fd.AOU_VLX_MV (n : Nat) : Fd := ⟨0x15140 + 4 * n, 15, 0⟩
def Fd.DIO_CTRL_EN : Fd := ⟨0x16040, 0, 0⟩
def Fd.DIO_IMG_WADDR : Fd := ⟨0x16044, 23, 0⟩
def Fd.DIO_OUT_WADDR : Fd := ⟨0x16048, 23, 0⟩
def Fd.DIO_TEST_EN_MASK : Fd := ⟨0x1604C, 31, 0⟩
def Fd.DIO_TEST_VAL : Fd := ⟨0x16050, 31, 0⟩
def Fd.DIO_CFG_THR (n : Nat) : Fd := ⟨0x16080 + 4 * n, 31, 24⟩
def Fd.DIO_CFG_DEPTH (n : Nat) : Fd := ⟨0x16080 + 4 * n, 23, 16⟩
def Fd.DIO_CFG_ILIM (n : Nat) : Fd := ⟨0x16080 + 4 * n, 15, 12⟩
def Fd.DIO_CFG_RETRY (n : Nat) : Fd := ⟨0x16080 + 4 * n, 11, 8⟩
def Fd.DIO_CFG_PAR (n : Nat) : Fd := ⟨0x16080 + 4 * n, 7, 7⟩
def Fd.DIO_CFG_SAFE (n : Nat) : Fd := ⟨0x16080 + 4 * n, 6, 6⟩
def Fd.DIO_CFG_PWM (n : Nat) : Fd := ⟨0x16080 + 4 * n, 5, 5⟩
def Fd.DIO_CFG_CONT (n : Nat) : Fd := ⟨0x16080 + 4 * n, 4, 4⟩
def Fd.DIO_CFG_OWT (n : Nat) : Fd := ⟨0x16080 + 4 * n, 3, 3⟩
def Fd.DIO_CFG_TYPE (n : Nat) : Fd := ⟨0x16080 + 4 * n, 2, 2⟩
def Fd.DIO_CFG_DIR (n : Nat) : Fd := ⟨0x16080 + 4 * n, 1, 1⟩
def Fd.DIO_CFG_EN (n : Nat) : Fd := ⟨0x16080 + 4 * n, 0, 0⟩
def Fd.DIO_CFG2_PER (n : Nat) : Fd := ⟨0x16100 + 4 * n, 31, 16⟩
def Fd.DIO_CFG2_UC (n : Nat) : Fd := ⟨0x16100 + 4 * n, 15, 8⟩
def Fd.DIO_STAT_IOUT (n : Nat) : Fd := ⟨0x16180 + 4 * n, 27, 16⟩
def Fd.DIO_STAT_FED (n : Nat) : Fd := ⟨0x16180 + 4 * n, 7, 7⟩
def Fd.DIO_STAT_THERM (n : Nat) : Fd := ⟨0x16180 + 4 * n, 6, 6⟩
def Fd.DIO_STAT_OPEN (n : Nat) : Fd := ⟨0x16180 + 4 * n, 5, 5⟩
def Fd.DIO_STAT_OVL (n : Nat) : Fd := ⟨0x16180 + 4 * n, 4, 4⟩
def Fd.DIO_STAT_WB (n : Nat) : Fd := ⟨0x16180 + 4 * n, 3, 3⟩
def Fd.DIO_STAT_RB (n : Nat) : Fd := ⟨0x16180 + 4 * n, 2, 2⟩
def Fd.DIO_STAT_RAW (n : Nat) : Fd := ⟨0x16180 + 4 * n, 1, 1⟩
def Fd.DIO_STAT_FILT (n : Nat) : Fd := ⟨0x16180 + 4 * n, 0, 0⟩
def Fd.DIO_VIN_MV (n : Nat) : Fd := ⟨0x16200 + 4 * n, 15, 0⟩
def Fd.TRP_TEST_EN : Fd := ⟨0x17040, 31, 31⟩
def Fd.TRP_TEST_PER : Fd := ⟨0x17040, 11, 0⟩
def Fd.TRP_PT_CMD_DUR : Fd := ⟨0x17044, 25, 16⟩
def Fd.TRP_PT_CMD_BOTH : Fd := ⟨0x17044, 4, 4⟩
def Fd.TRP_PT_CMD_ELEM : Fd := ⟨0x17044, 3, 3⟩
def Fd.TRP_PT_CMD_CH : Fd := ⟨0x17044, 2, 0⟩
def Fd.TRP_TEST_CNT_FAIL : Fd := ⟨0x17048, 31, 16⟩
def Fd.TRP_TEST_CNT_PASS : Fd := ⟨0x17048, 15, 0⟩
def Fd.TRP_CFG_EN (n : Nat) : Fd := ⟨0x17080 + 4 * n, 31, 31⟩
def Fd.TRP_CFG_BIT (n : Nat) : Fd := ⟨0x17080 + 4 * n, 28, 24⟩
def Fd.TRP_CFG_WADDR (n : Nat) : Fd := ⟨0x17080 + 4 * n, 23, 0⟩
def Fd.TRP_STAT_IB (n : Nat) : Fd := ⟨0x170C0 + 4 * n, 31, 20⟩
def Fd.TRP_STAT_IA (n : Nat) : Fd := ⟨0x170C0 + 4 * n, 19, 8⟩
def Fd.TRP_STAT_CMD (n : Nat) : Fd := ⟨0x170C0 + 4 * n, 7, 7⟩
def Fd.TRP_STAT_SHED (n : Nat) : Fd := ⟨0x170C0 + 4 * n, 6, 6⟩
def Fd.TRP_STAT_CLOSED_B (n : Nat) : Fd := ⟨0x170C0 + 4 * n, 5, 5⟩
def Fd.TRP_STAT_CLOSED_A (n : Nat) : Fd := ⟨0x170C0 + 4 * n, 4, 4⟩
def Fd.TRP_STAT_PATH_OPEN (n : Nat) : Fd := ⟨0x170C0 + 4 * n, 3, 3⟩
def Fd.TRP_STAT_TEST (n : Nat) : Fd := ⟨0x170C0 + 4 * n, 2, 0⟩
def Fd.PTP_CTRL_LOG_INT : Fd := ⟨0x18040, 23, 16⟩
def Fd.PTP_CTRL_DOMAIN : Fd := ⟨0x18040, 15, 8⟩
def Fd.PTP_CTRL_PPS_OUT_EN : Fd := ⟨0x18040, 1, 1⟩
def Fd.PTP_CTRL_EN : Fd := ⟨0x18040, 0, 0⟩
def Fd.PTP_INC_INC_NS : Fd := ⟨0x18044, 3, 0⟩
def Fd.PTP_INC_FRAC : Fd := ⟨0x18048, 31, 0⟩
def Fd.PTP_TIME_LO_NS : Fd := ⟨0x1804C, 31, 0⟩
def Fd.PTP_TIME_HI_NS : Fd := ⟨0x18050, 31, 0⟩
def Fd.PTP_STEP_LO_STEP : Fd := ⟨0x18054, 31, 0⟩
def Fd.PTP_STEP_HI_STEP : Fd := ⟨0x18058, 31, 0⟩
def Fd.PTP_HOLD_N : Fd := ⟨0x1805C, 7, 0⟩
def Fd.PTP_STAT_LAST_MAC : Fd := ⟨0x18060, 10, 8⟩
def Fd.PTP_STAT_PPS_SEEN : Fd := ⟨0x18060, 3, 3⟩
def Fd.PTP_STAT_STEP_PEND : Fd := ⟨0x18060, 2, 2⟩
def Fd.PTP_STAT_HOLD : Fd := ⟨0x18060, 1, 1⟩
def Fd.PTP_STAT_VALID : Fd := ⟨0x18060, 0, 0⟩
def Fd.PTP_PPS_TS_LO_NS : Fd := ⟨0x18064, 31, 0⟩
def Fd.PTP_PPS_TS_HI_NS : Fd := ⟨0x18068, 31, 0⟩
def Fd.PTP_PPS_W_MS : Fd := ⟨0x1806C, 9, 0⟩
def Fd.NET_IP_ADDR (n : Nat) : Fd := ⟨0x19040 + 8 * n, 31, 0⟩
def Fd.NET_IP_MASK (n : Nat) : Fd := ⟨0x19044 + 8 * n, 31, 0⟩
def Fd.NET_CTRL_IGMP : Fd := ⟨0x19060, 1, 1⟩
def Fd.NET_CTRL_ICMP : Fd := ⟨0x19060, 0, 0⟩
def Fd.NET_CNT_ARP : Fd := ⟨0x19064, 31, 16⟩
def Fd.NET_CNT_ICMP : Fd := ⟨0x19064, 15, 0⟩
def Fd.ETH_CTRL_EN (i : Nat) : Fd := ⟨0x1A040 + 0x1000 * i, 31, 31⟩
def Fd.ETH_CTRL_MODE (i : Nat) : Fd := ⟨0x1A040 + 0x1000 * i, 30, 30⟩
def Fd.ETH_CTRL_LLDP_TX (i : Nat) : Fd := ⟨0x1A040 + 0x1000 * i, 29, 29⟩
def Fd.ETH_CTRL_VID (i : Nat) : Fd := ⟨0x1A040 + 0x1000 * i, 11, 0⟩
def Fd.ETH_ADDR_LO_ADDR (i : Nat) : Fd := ⟨0x1A044 + 0x1000 * i, 31, 0⟩
def Fd.ETH_ADDR_HI_ADDR (i : Nat) : Fd := ⟨0x1A048 + 0x1000 * i, 15, 0⟩
def Fd.ETH_STAT_TXTS (i : Nat) : Fd := ⟨0x1A04C + 0x1000 * i, 6, 6⟩
def Fd.ETH_STAT_LINK (i : Nat) : Fd := ⟨0x1A04C + 0x1000 * i, 5, 5⟩
def Fd.ETH_STAT_SPEED (i : Nat) : Fd := ⟨0x1A04C + 0x1000 * i, 4, 3⟩
def Fd.ETH_CNT_RX (i : Nat) : Fd := ⟨0x1A050 + 0x1000 * i, 31, 16⟩
def Fd.ETH_CNT_TX (i : Nat) : Fd := ⟨0x1A050 + 0x1000 * i, 15, 0⟩
def Fd.ETH_ERR_FCS (i : Nat) : Fd := ⟨0x1A054 + 0x1000 * i, 31, 24⟩
def Fd.ETH_ERR_SIZE (i : Nat) : Fd := ⟨0x1A054 + 0x1000 * i, 23, 16⟩
def Fd.ETH_ERR_VLAN (i : Nat) : Fd := ⟨0x1A054 + 0x1000 * i, 15, 8⟩
def Fd.ETH_ERR_PAUSE (i : Nat) : Fd := ⟨0x1A054 + 0x1000 * i, 7, 0⟩
def Fd.ETH_LATE (i : Nat) : Fd := ⟨0x1A058 + 0x1000 * i, 15, 0⟩
def Fd.ETH_RX_BASE (i : Nat) : Fd := ⟨0x1A05C + 0x1000 * i, 25, 0⟩
def Fd.ETH_RX_LEN_LOG2 (i : Nat) : Fd := ⟨0x1A060 + 0x1000 * i, 4, 0⟩
def Fd.ETH_RX_WR (i : Nat) : Fd := ⟨0x1A064 + 0x1000 * i, 31, 0⟩
def Fd.ETH_TX_BASE (i : Nat) : Fd := ⟨0x1A068 + 0x1000 * i, 25, 0⟩
def Fd.ETH_TX_TIME_LO_TIME (i : Nat) : Fd := ⟨0x1A06C + 0x1000 * i, 31, 0⟩
def Fd.ETH_TX_TIME_HI_TIME (i : Nat) : Fd := ⟨0x1A070 + 0x1000 * i, 31, 0⟩
def Fd.ETH_TX_CMD_TS (i : Nat) : Fd := ⟨0x1A074 + 0x1000 * i, 31, 31⟩
def Fd.ETH_TX_CMD_Q (i : Nat) : Fd := ⟨0x1A074 + 0x1000 * i, 30, 30⟩
def Fd.ETH_TX_CMD_LEN (i : Nat) : Fd := ⟨0x1A074 + 0x1000 * i, 26, 16⟩
def Fd.ETH_TX_CMD_SLOT (i : Nat) : Fd := ⟨0x1A074 + 0x1000 * i, 5, 0⟩
def Fd.ETH_TX_BUSY (i n : Nat) : Fd := ⟨0x1A078 + 0x1000 * i + 4 * n, 31, 0⟩
def Fd.ETH_TXTS_LO_NS (i : Nat) : Fd := ⟨0x1A080 + 0x1000 * i, 31, 0⟩
def Fd.ETH_TXTS_HI_NS (i : Nat) : Fd := ⟨0x1A084 + 0x1000 * i, 31, 0⟩
def Fd.ETH_LLDP_CRC (i : Nat) : Fd := ⟨0x1A088 + 0x1000 * i, 31, 0⟩
def Fd.PRP_CTRL_SUP : Fd := ⟨0x22040, 7, 4⟩
def Fd.PRP_CTRL_EN : Fd := ⟨0x22040, 3, 0⟩
def Fd.PRP_FORGET_MS : Fd := ⟨0x22044, 13, 0⟩
def Fd.PRP_CNT_DUP (n : Nat) : Fd := ⟨0x22048 + 8 * n, 31, 0⟩
def Fd.PRP_CNT_WRONG_LAN (n : Nat) : Fd := ⟨0x2204C + 8 * n, 31, 0⟩
def Fd.CAN_CTRL_EN (i : Nat) : Fd := ⟨0x23040 + 0x1000 * i, 31, 31⟩
def Fd.CAN_CTRL_FD (i : Nat) : Fd := ⟨0x23040 + 0x1000 * i, 30, 30⟩
def Fd.CAN_CTRL_LISTEN (i : Nat) : Fd := ⟨0x23040 + 0x1000 * i, 29, 29⟩
def Fd.CAN_CTRL_TRIPLE (i : Nat) : Fd := ⟨0x23040 + 0x1000 * i, 28, 28⟩
def Fd.CAN_CTRL_AUTO_RECOV (i : Nat) : Fd := ⟨0x23040 + 0x1000 * i, 27, 27⟩
def Fd.CAN_CTRL_TERM (i : Nat) : Fd := ⟨0x23040 + 0x1000 * i, 26, 26⟩
def Fd.CAN_CTRL_RETRY (i : Nat) : Fd := ⟨0x23040 + 0x1000 * i, 7, 0⟩
def Fd.CAN_NBT_BRP (i : Nat) : Fd := ⟨0x23044 + 0x1000 * i, 31, 24⟩
def Fd.CAN_NBT_TSEG1 (i : Nat) : Fd := ⟨0x23044 + 0x1000 * i, 23, 16⟩
def Fd.CAN_NBT_TSEG2 (i : Nat) : Fd := ⟨0x23044 + 0x1000 * i, 14, 8⟩
def Fd.CAN_NBT_SJW (i : Nat) : Fd := ⟨0x23044 + 0x1000 * i, 6, 0⟩
def Fd.CAN_DBT_BRP (i : Nat) : Fd := ⟨0x23048 + 0x1000 * i, 23, 16⟩
def Fd.CAN_DBT_TSEG1 (i : Nat) : Fd := ⟨0x23048 + 0x1000 * i, 12, 8⟩
def Fd.CAN_DBT_TSEG2 (i : Nat) : Fd := ⟨0x23048 + 0x1000 * i, 7, 4⟩
def Fd.CAN_DBT_SJW (i : Nat) : Fd := ⟨0x23048 + 0x1000 * i, 3, 0⟩
def Fd.CAN_STAT_TEC (i : Nat) : Fd := ⟨0x2304C + 0x1000 * i, 31, 24⟩
def Fd.CAN_STAT_REC (i : Nat) : Fd := ⟨0x2304C + 0x1000 * i, 23, 16⟩
def Fd.CAN_STAT_STATE (i : Nat) : Fd := ⟨0x2304C + 0x1000 * i, 1, 0⟩
def Fd.CAN_CNT_RX (i : Nat) : Fd := ⟨0x23050 + 0x1000 * i, 31, 16⟩
def Fd.CAN_CNT_DROP (i : Nat) : Fd := ⟨0x23050 + 0x1000 * i, 15, 8⟩
def Fd.CAN_CNT_LOST (i : Nat) : Fd := ⟨0x23050 + 0x1000 * i, 7, 0⟩
def Fd.CAN_RXQ_FILL (i : Nat) : Fd := ⟨0x23054 + 0x1000 * i, 9, 0⟩
def Fd.CAN_RX_ID_XTD (i : Nat) : Fd := ⟨0x23058 + 0x1000 * i, 31, 31⟩
def Fd.CAN_RX_ID_ID (i : Nat) : Fd := ⟨0x23058 + 0x1000 * i, 28, 0⟩
def Fd.CAN_RX_FLG_VALID (i : Nat) : Fd := ⟨0x2305C + 0x1000 * i, 31, 31⟩
def Fd.CAN_RX_FLG_FD (i : Nat) : Fd := ⟨0x2305C + 0x1000 * i, 30, 30⟩
def Fd.CAN_RX_FLG_BRS (i : Nat) : Fd := ⟨0x2305C + 0x1000 * i, 29, 29⟩
def Fd.CAN_RX_FLG_ESI (i : Nat) : Fd := ⟨0x2305C + 0x1000 * i, 28, 28⟩
def Fd.CAN_RX_FLG_DLC (i : Nat) : Fd := ⟨0x2305C + 0x1000 * i, 27, 24⟩
def Fd.CAN_RX_TS_LO_NS (i : Nat) : Fd := ⟨0x23060 + 0x1000 * i, 31, 0⟩
def Fd.CAN_RX_TS_HI_NS (i : Nat) : Fd := ⟨0x23064 + 0x1000 * i, 31, 0⟩
def Fd.CAN_RX_POP (i : Nat) : Fd := ⟨0x23068 + 0x1000 * i, 0, 0⟩
def Fd.CAN_RX_DATA (i n : Nat) : Fd := ⟨0x23080 + 0x1000 * i + 4 * n, 31, 0⟩
def Fd.CAN_TX_ID_XTD (i : Nat) : Fd := ⟨0x230C0 + 0x1000 * i, 31, 31⟩
def Fd.CAN_TX_ID_ID (i : Nat) : Fd := ⟨0x230C0 + 0x1000 * i, 28, 0⟩
def Fd.CAN_TX_FLG_GO (i : Nat) : Fd := ⟨0x230C4 + 0x1000 * i, 31, 31⟩
def Fd.CAN_TX_FLG_FD (i : Nat) : Fd := ⟨0x230C4 + 0x1000 * i, 30, 30⟩
def Fd.CAN_TX_FLG_BRS (i : Nat) : Fd := ⟨0x230C4 + 0x1000 * i, 29, 29⟩
def Fd.CAN_TX_FLG_ESI (i : Nat) : Fd := ⟨0x230C4 + 0x1000 * i, 28, 28⟩
def Fd.CAN_TX_FLG_DLC (i : Nat) : Fd := ⟨0x230C4 + 0x1000 * i, 27, 24⟩
def Fd.CAN_TX_DATA (i n : Nat) : Fd := ⟨0x23100 + 0x1000 * i + 4 * n, 31, 0⟩
def Fd.CAN_MAP_BASE (i : Nat) : Fd := ⟨0x23140 + 0x1000 * i, 25, 0⟩
def Fd.SER_CTRL_EN (i : Nat) : Fd := ⟨0x27040 + 0x1000 * i, 31, 31⟩
def Fd.SER_CTRL_TERM (i : Nat) : Fd := ⟨0x27040 + 0x1000 * i, 30, 30⟩
def Fd.SER_CTRL_BIAS (i : Nat) : Fd := ⟨0x27040 + 0x1000 * i, 29, 29⟩
def Fd.SER_CTRL_PARITY (i : Nat) : Fd := ⟨0x27040 + 0x1000 * i, 5, 4⟩
def Fd.SER_CTRL_STOP2 (i : Nat) : Fd := ⟨0x27040 + 0x1000 * i, 3, 3⟩
def Fd.SER_BAUD_V (i : Nat) : Fd := ⟨0x27044 + 0x1000 * i, 19, 0⟩
def Fd.SER_GAP_TURN (i : Nat) : Fd := ⟨0x27048 + 0x1000 * i, 15, 8⟩
def Fd.SER_GAP_GAP (i : Nat) : Fd := ⟨0x27048 + 0x1000 * i, 7, 0⟩
def Fd.SER_RING_BASE (i : Nat) : Fd := ⟨0x2704C + 0x1000 * i, 25, 0⟩
def Fd.SER_RING_LEN_LOG2 (i : Nat) : Fd := ⟨0x27050 + 0x1000 * i, 4, 0⟩
def Fd.SER_RING_WR (i : Nat) : Fd := ⟨0x27054 + 0x1000 * i, 31, 0⟩
def Fd.SER_TX_BASE (i : Nat) : Fd := ⟨0x27058 + 0x1000 * i, 25, 0⟩
def Fd.SER_TX_CMD_AT (i : Nat) : Fd := ⟨0x2705C + 0x1000 * i, 31, 31⟩
def Fd.SER_TX_CMD_LEN (i : Nat) : Fd := ⟨0x2705C + 0x1000 * i, 12, 0⟩
def Fd.SER_TX_TIME_LO_TIME (i : Nat) : Fd := ⟨0x27060 + 0x1000 * i, 31, 0⟩
def Fd.SER_TX_TIME_HI_TIME (i : Nat) : Fd := ⟨0x27064 + 0x1000 * i, 31, 0⟩
def Fd.SER_STAT_BUSY (i : Nat) : Fd := ⟨0x27068 + 0x1000 * i, 31, 31⟩
def Fd.SER_STAT_PARITY (i : Nat) : Fd := ⟨0x27068 + 0x1000 * i, 23, 16⟩
def Fd.SER_STAT_FRAMING (i : Nat) : Fd := ⟨0x27068 + 0x1000 * i, 15, 8⟩
def Fd.SER_STAT_DEFER (i : Nat) : Fd := ⟨0x27068 + 0x1000 * i, 7, 0⟩
def Fd.HIF_STAT_UP : Fd := ⟨0x2B040, 31, 31⟩
def Fd.HIF_STAT_WIDTH : Fd := ⟨0x2B040, 29, 28⟩
def Fd.HIF_STAT_GEN : Fd := ⟨0x2B040, 27, 26⟩
def Fd.HIF_SPI_CNT_FRAMES : Fd := ⟨0x2B044, 31, 16⟩
def Fd.HIF_SPI_CNT_CRC : Fd := ⟨0x2B044, 15, 8⟩
def Fd.HIF_SPI_CNT_ADDR : Fd := ⟨0x2B044, 7, 0⟩
def Fd.HIF_REARM : Fd := ⟨0x2B048, 31, 0⟩
def Fd.HIF_VEC_EN0 (n : Nat) : Fd := ⟨0x2B080 + 4 * n, 7, 7⟩
def Fd.HIF_VEC_VEC0 (n : Nat) : Fd := ⟨0x2B080 + 4 * n, 4, 0⟩
def Fd.HIF_VEC_EN1 (n : Nat) : Fd := ⟨0x2B080 + 4 * n, 15, 15⟩
def Fd.HIF_VEC_VEC1 (n : Nat) : Fd := ⟨0x2B080 + 4 * n, 12, 8⟩
def Fd.HIF_VEC_EN2 (n : Nat) : Fd := ⟨0x2B080 + 4 * n, 23, 23⟩
def Fd.HIF_VEC_VEC2 (n : Nat) : Fd := ⟨0x2B080 + 4 * n, 20, 16⟩
def Fd.HIF_VEC_EN3 (n : Nat) : Fd := ⟨0x2B080 + 4 * n, 31, 31⟩
def Fd.HIF_VEC_VEC3 (n : Nat) : Fd := ⟨0x2B080 + 4 * n, 28, 24⟩
def Fd.HIF_SPI_IRQ_PAGES (n : Nat) : Fd := ⟨0x2B0C0 + 4 * n, 31, 0⟩
def Fd.OSP_STAT_BUSY : Fd := ⟨0x2C040, 31, 31⟩
def Fd.OSP_STAT_ERR : Fd := ⟨0x2C040, 30, 30⟩
def Fd.OSP_STAT_DONE : Fd := ⟨0x2C040, 29, 29⟩
def Fd.OSP_STAT_MODE : Fd := ⟨0x2C040, 25, 24⟩
def Fd.OSP_STAT_SECT : Fd := ⟨0x2C040, 20, 16⟩
def Fd.OSP_STAT_SIZE : Fd := ⟨0x2C040, 4, 0⟩
def Fd.OSP_ADDR : Fd := ⟨0x2C044, 31, 0⟩
def Fd.OSP_BUF : Fd := ⟨0x2C048, 25, 0⟩
def Fd.OSP_LEN : Fd := ⟨0x2C04C, 16, 0⟩
def Fd.OSP_CMD_OP : Fd := ⟨0x2C050, 1, 0⟩
def Fd.BMI_CTRL_EN : Fd := ⟨0x2D040, 31, 31⟩
def Fd.BMI_CTRL_PEC : Fd := ⟨0x2D040, 2, 2⟩
def Fd.BMI_CTRL_SPEED : Fd := ⟨0x2D040, 1, 0⟩
def Fd.BMI_IMG_WADDR : Fd := ⟨0x2D044, 23, 0⟩
def Fd.BMI_POLL_EN (n : Nat) : Fd := ⟨0x2D080 + 4 * n, 31, 31⟩
def Fd.BMI_POLL_ADDR (n : Nat) : Fd := ⟨0x2D080 + 4 * n, 30, 24⟩
def Fd.BMI_POLL_CMD (n : Nat) : Fd := ⟨0x2D080 + 4 * n, 23, 16⟩
def Fd.BMI_POLL_FMT (n : Nat) : Fd := ⟨0x2D080 + 4 * n, 15, 14⟩
def Fd.BMI_POLL_PERIOD (n : Nat) : Fd := ⟨0x2D080 + 4 * n, 11, 0⟩
def Fd.BMI_XFER_GO : Fd := ⟨0x2D0C0, 31, 31⟩
def Fd.BMI_XFER_RD : Fd := ⟨0x2D0C0, 30, 30⟩
def Fd.BMI_XFER_N : Fd := ⟨0x2D0C0, 29, 28⟩
def Fd.BMI_XFER_ADDR : Fd := ⟨0x2D0C0, 22, 16⟩
def Fd.BMI_XFER_CMD : Fd := ⟨0x2D0C0, 15, 8⟩
def Fd.BMI_XDATA_DATA : Fd := ⟨0x2D0C4, 31, 0⟩
def Fd.BMI_XSTAT_BUSY : Fd := ⟨0x2D0C8, 31, 31⟩
def Fd.BMI_XSTAT_FAIL : Fd := ⟨0x2D0C8, 3, 0⟩
def Fd.SED_CTRL_E0 : Fd := ⟨0x2E040, 2, 2⟩
def Fd.SED_CTRL_XR_EN : Fd := ⟨0x2E040, 1, 1⟩
def Fd.SED_CTRL_EN : Fd := ⟨0x2E040, 0, 0⟩
def Fd.SED_INT_S : Fd := ⟨0x2E044, 11, 0⟩
def Fd.SED_HEAD_LO_SEQ : Fd := ⟨0x2E048, 31, 0⟩
def Fd.SED_HEAD_HI_SEQ : Fd := ⟨0x2E04C, 15, 0⟩
def Fd.SED_TAIL_LO_SEQ : Fd := ⟨0x2E050, 31, 0⟩
def Fd.SED_TAIL_HI_SEQ : Fd := ⟨0x2E054, 15, 0⟩
def Fd.SED_MOVED_LO_SEQ : Fd := ⟨0x2E058, 31, 0⟩
def Fd.SED_MOVED_HI_SEQ : Fd := ⟨0x2E05C, 15, 0⟩
def Fd.SED_BATCH_S : Fd := ⟨0x2E060, 31, 16⟩
def Fd.SED_BATCH_N : Fd := ⟨0x2E060, 15, 0⟩
def Fd.SED_STAT_DROP : Fd := ⟨0x2E064, 31, 16⟩
def Fd.SED_STAT_XR_FAIL : Fd := ⟨0x2E064, 15, 15⟩
def Fd.SED_STAT_STAGED : Fd := ⟨0x2E064, 13, 0⟩
def Fd.SED_RD_SEQ_LO_SEQ : Fd := ⟨0x2E068, 31, 0⟩
def Fd.SED_RD_SEQ_HI_SEQ : Fd := ⟨0x2E06C, 15, 0⟩
def Fd.SED_RD_CNT : Fd := ⟨0x2E070, 12, 0⟩
def Fd.SED_RD_BUF : Fd := ⟨0x2E074, 25, 0⟩
def Fd.SED_RD_CMD_GO : Fd := ⟨0x2E078, 0, 0⟩
def Fd.SED_RD_STAT_BUSY : Fd := ⟨0x2E07C, 31, 31⟩
def Fd.SED_RD_STAT_DONE : Fd := ⟨0x2E07C, 30, 30⟩
def Fd.SED_WATCH_BASE : Fd := ⟨0x2E080, 25, 0⟩
def Fd.SED_FLOOD_BASE : Fd := ⟨0x2E084, 25, 0⟩
def Fd.SED_STG_BASE : Fd := ⟨0x2E088, 25, 0⟩
def Fd.SED_XR_BASE_ADDR : Fd := ⟨0x2E08C, 31, 0⟩
def Fd.SED_XR_LEN_SECT : Fd := ⟨0x2E090, 15, 0⟩
def Fd.SED_SUPP_SUPP : Fd := ⟨0x2E094, 31, 16⟩
def Fd.SED_SUPP_FOLD : Fd := ⟨0x2E094, 15, 0⟩
def Fd.WER_CTRL_EN : Fd := ⟨0x2F040, 31, 31⟩
def Fd.WER_CTRL_VREG_EN : Fd := ⟨0x2F040, 30, 30⟩
def Fd.WER_CTRL_AT : Fd := ⟨0x2F040, 16, 0⟩
def Fd.WER_VREG_ADDR : Fd := ⟨0x2F044, 6, 0⟩
def Fd.WER_PLAN_RECAL_H : Fd := ⟨0x2F048, 31, 24⟩
def Fd.WER_PLAN_GB : Fd := ⟨0x2F048, 19, 16⟩
def Fd.WER_PLAN_HALVED : Fd := ⟨0x2F048, 8, 8⟩
def Fd.WER_PLAN_BUDGET : Fd := ⟨0x2F048, 1, 0⟩
def Fd.WER_DERATE_CH : Fd := ⟨0x2F04C, 31, 0⟩
def Fd.WER_WARN_PCT : Fd := ⟨0x2F050, 6, 0⟩
def Fd.WER_LAST_LO_TIME : Fd := ⟨0x2F054, 31, 0⟩
def Fd.WER_LAST_HI_TIME : Fd := ⟨0x2F058, 31, 0⟩
def Fd.WER_MARGIN_VALID (n : Nat) : Fd := ⟨0x2F080 + 4 * n, 31, 31⟩
def Fd.WER_MARGIN_WORST (n : Nat) : Fd := ⟨0x2F080 + 4 * n, 15, 8⟩
def Fd.WER_MARGIN_PCT (n : Nat) : Fd := ⟨0x2F080 + 4 * n, 7, 0⟩
def Fd.MON_ALL_SNAP : Fd := ⟨0x30040, 2, 2⟩
def Fd.MON_ALL_CLR : Fd := ⟨0x30040, 1, 1⟩
def Fd.MON_ALL_ARM : Fd := ⟨0x30040, 0, 0⟩
def Fd.MON_SNAP_AT_LO_TIME : Fd := ⟨0x30048, 31, 0⟩
def Fd.MON_SNAP_AT_HI_TIME : Fd := ⟨0x3004C, 31, 0⟩
def Fd.MON_SNAP_TIME_LO_TIME : Fd := ⟨0x30050, 31, 0⟩
def Fd.MON_SNAP_TIME_HI_TIME : Fd := ⟨0x30054, 31, 0⟩
def Fd.DBG_IDCODE_ID : Fd := ⟨0x31040, 31, 0⟩
def Fd.DBG_FRZ_TIME_LO_TIME : Fd := ⟨0x31044, 31, 0⟩
def Fd.DBG_FRZ_TIME_HI_TIME : Fd := ⟨0x31048, 31, 0⟩
def Fd.DBG_SECT_WORDS (n : Nat) : Fd := ⟨0x31080 + 4 * n, 31, 0⟩

def Fd.CTRL_IRQ_ON (p : Nat) : Fd := ⟨0x1000 * p + 0x008, 0, 0⟩
def Fd.IRQ_RAW (p : Nat) : Fd := ⟨0x1000 * p + 0x010, 31, 0⟩
def Fd.IRQ_EN (p : Nat) : Fd := ⟨0x1000 * p + 0x014, 31, 0⟩
def Fd.ERR_CODE_DETAIL (p : Nat) : Fd := ⟨0x1000 * p + 0x01C, 31, 8⟩
def Fd.ERR_CODE_CODE (p : Nat) : Fd := ⟨0x1000 * p + 0x01C, 7, 0⟩
def Fd.MON_SEL_INDEX (p : Nat) : Fd := ⟨0x1000 * p + 0x024, 23, 8⟩
def Fd.MON_SEL_QTY (p : Nat) : Fd := ⟨0x1000 * p + 0x024, 7, 0⟩
def Fd.MON_HIST_BIN (p : Nat) : Fd := ⟨0x1000 * p + 0x030, 4, 0⟩
def Fd.MON_CTRL_BASE (p : Nat) : Fd := ⟨0x1000 * p + 0x038, 31, 16⟩
def Fd.MON_CTRL_SHIFT (p : Nat) : Fd := ⟨0x1000 * p + 0x038, 12, 8⟩
def Fd.MON_CTRL_EN (p : Nat) : Fd := ⟨0x1000 * p + 0x038, 0, 0⟩
def Fd.TXN_SEL_EN (p : Nat) : Fd := ⟨0x1000 * p + 0x020, 4, 4⟩
def Fd.TXN_SEL_GROUP (p : Nat) : Fd := ⟨0x1000 * p + 0x020, 3, 0⟩

end Sys2Proof.Machine
end

