-- ==== Sys2Proof/Machine/Ops.lean ====
section
/-! DEFINITION. The named operations over registers, the Basin and the interrupt lines: the register file and its
fields (R6 to R9, R433), refusal codes (R435), page interrupts (R378, R434), Basin bytes and words (R107, R109),
positions and roles (R3, R70). -/

namespace Sys2Proof.Machine

/-! ### The register file -/

/-- The register descriptors of a page: header and block registers. -/
def regsOf (p : Nat) : List RegDesc := headerRegs ++ pageRegs p

/-- The element number of a register at an offset of its page, if the offset is one of its words. -/
def RegDesc.elem (r : RegDesc) (off : Nat) : Option Nat :=
  if off < r.off then none
  else if (off - r.off) % (max r.stride 1) = 0 ∧ (off - r.off) / (max r.stride 1) < r.count then
    some ((off - r.off) / (max r.stride 1))
  else none

/-- The register and element at an offset of a page. -/
def findReg (off : Nat) : List RegDesc → Option (RegDesc × Nat)
  | [] => none
  | r :: rs => match r.elem off with
    | some n => some (r, n)
    | none => findReg off rs

/-- The register and element at a byte offset of the window (R431). -/
def regAt (adr : Nat) : Option (RegDesc × Nat) := findReg (adr % 0x1000) (regsOf (adr / 0x1000))

/-- The reset value of a field for an element. -/
def FieldDesc.reset (f : FieldDesc) (n : Nat) : Nat := f.rst.getD n (f.rst.getLastD 0)

/-- The reset value of a register word. -/
def resetWord (r : RegDesc) (n : Nat) : Word :=
  BitVec.ofNat 32 (r.fields.foldl (fun acc f => acc + f.reset n * 2 ^ f.lo) 0)

/-- What a register reads as that nothing has written: its reset value (R34); 0 where there is none (R431). -/
def regDefault (adr : Nat) : Word := match regAt adr with
  | some (r, n) => resetWord r n
  | none => 0

/-- The word held at a byte offset of the window. -/
def State.reg (s : State) (adr : Nat) : Word := Sparse.get regDefault s.regs adr

/-- The word at a byte offset of the window set. -/
def State.setReg (s : State) (adr : Nat) (w : Word) : State := { s with regs := Sparse.set regDefault s.regs adr w }

/-- A field's value in a word. -/
def Fd.of (f : Fd) (w : Word) : Nat := bitsOf w.toNat f.hi f.lo

/-- A word with a field's value replaced. -/
def Fd.into (f : Fd) (w : Word) (v : Nat) : Word :=
  BitVec.ofNat 32 (w.toNat - f.of w * 2 ^ f.lo + v % 2 ^ (f.hi - f.lo + 1) * 2 ^ f.lo)

/-- The value of a register field. -/
def State.fld (s : State) (f : Fd) : Nat := f.of (s.reg f.adr)

/-- Is a register bit set? -/
def State.flag (s : State) (f : Fd) : Bool := s.fld f != 0

/-- A register field set. -/
def State.put (s : State) (f : Fd) (v : Nat) : State := s.setReg f.adr (f.into (s.reg f.adr) v)

/-- A register bit set or cleared. -/
def State.putB (s : State) (f : Fd) (b : Bool) : State := s.put f (b2n b)

/-- A counting field one higher, saturating at its width. -/
def State.bump (s : State) (f : Fd) : State := s.put f (satInc (2 ^ (f.hi - f.lo + 1) - 1) (s.fld f))

/-- A counting field k higher, saturating at its width. -/
def State.bumpBy (s : State) (f : Fd) (k : Nat) : State := s.put f (satAdd (2 ^ (f.hi - f.lo + 1) - 1) (s.fld f) k)

/-- A 64-bit value in a low and a high word, the low one's address given. -/
def State.put64 (s : State) (lo hi : Nat) (v : Nat) : State :=
  (s.setReg lo (BitVec.ofNat 32 v)).setReg hi (BitVec.ofNat 32 (v / 4294967296))

/-- The 64-bit value of a low and a high word. -/
def State.get64 (s : State) (lo hi : Nat) : Nat := (s.reg lo).toNat + 4294967296 * (s.reg hi).toNat

/-- The registers of a set of pages returned to their reset values. -/
def State.clearPages (s : State) (p : Nat → Bool) : State :=
  { s with regs := Sparse.drop (fun a => p (a / 0x1000)) s.regs,
           latch := Sparse.drop (fun a => p (a / 0x1000)) s.latch,
           lowHeld := Sparse.drop (fun a => p (a / 0x1000)) s.lowHeld,
           locks := s.locks.filter fun q => !p q }

/-! ### Time -/

/-- PTP time in ns. -/
def State.now (s : State) : Nat := s.time.ns

/-- The number of the last base tick edge at or before a PTP time (R11, R214): edges lie every 250 µs. -/
def tickOf (ns : Nat) : Nat := ns / 250000

/-! ### Interrupts and refusals -/

/-- The compatibility class of stepping B (R433). -/
def ownClass : Nat := 1

/-- Does a page's HIF_VEC entry enable a vector? (R378) -/
def State.vecOf (s : State) (p : Nat) : Option Nat :=
  let w := (s.reg (0x2B080 + 4 * (p / 4))).toNat
  if bitOf w (8 * (p % 4) + 7) then some (bitsOf w (8 * (p % 4) + 4) (8 * (p % 4))) else none

/-- Has a page an enabled interrupt source pending: IRQ_RAW AND IRQ_EN, while CTRL.IRQ_ON is 1 (R433)? -/
def State.irqPending (s : State) (p : Nat) : Bool :=
  s.flag (.CTRL_IRQ_ON p) && ((s.reg (0x1000 * p + 0x10) &&& s.reg (0x1000 * p + 0x14)) != 0)

/-- Is an MSI-X vector active (R378)? -/
def State.vecActive (s : State) (v : Nat) : Bool :=
  (List.range 50).any fun p => s.vecOf p == some v && s.irqPending p

/-- Interrupt source k of a page occurs: its IRQ_RAW bit sets (R434), and the page's vector is sent when it
becomes active by it (R378). The window has 50 pages (R431). -/
def State.irq (s : State) (p k : Nat) : State :=
  if 50 ≤ p then s else
  let t := s.setReg (0x1000 * p + 0x10) (s.reg (0x1000 * p + 0x10) ||| (1#32 <<< k))
  match t.vecOf p with
  | some v => if t.irqPending p && !s.vecActive v then { t with out := t.out ++ [.msix v] } else t
  | none => t

/-- A refused write or command: its code, with a DETAIL, goes to the page's ERR_CODE (R435), and interrupt source
ERRC of the page occurs (R434). -/
def State.refuse (s : State) (p code detail : Nat) : State :=
  ((s.put (.ERR_CODE_CODE p) code).put (.ERR_CODE_DETAIL p) detail).irq p 0

/-! ### The Basin -/

/-- What a Basin byte reads as that nothing has written since the Basin was initialised (R27 step 6;
assumption 3). -/
def basinFill (_ : Nat) : Byte := 0

/-- A Basin byte. -/
def State.byte (s : State) (a : Nat) : Byte := Sparse.get basinFill s.basin a

/-- A Basin byte written. -/
def State.setByte (s : State) (a : Nat) (v : Byte) : State := { s with basin := Sparse.set basinFill s.basin a v }

/-- A Basin word by its word address: four bytes, low byte first. -/
def State.word (s : State) (w : Nat) : Word :=
  BitVec.ofNat 32 (leNat [s.byte (4 * w), s.byte (4 * w + 1), s.byte (4 * w + 2), s.byte (4 * w + 3)])

/-- A Basin word written, by its word address. -/
def State.setWord (s : State) (w : Nat) (v : Word) : State :=
  let n := v.toNat
  (((s.setByte (4 * w) (BitVec.ofNat 8 n)).setByte (4 * w + 1) (BitVec.ofNat 8 (n / 256))).setByte
    (4 * w + 2) (BitVec.ofNat 8 (n / 65536))).setByte (4 * w + 3) (BitVec.ofNat 8 (n / 16777216))

/-- Basin bytes from an address up. -/
def State.bytes (s : State) (a n : Nat) : List Byte := (List.range n).map fun k => s.byte (a + k)

/-- Basin bytes written from an address up. -/
def State.setBytes (s : State) (a : Nat) (bs : List Byte) : State :=
  (bs.foldl (fun (t : State × Nat) b => (t.1.setByte t.2 b, t.2 + 1)) (s, a)).1

/-- Basin words from a word address up. -/
def State.words (s : State) (w n : Nat) : List Word := (List.range n).map fun k => s.word (w + k)

/-- Basin words written from a word address up. -/
def State.setWords (s : State) (w : Nat) (ws : List Word) : State :=
  (ws.foldl (fun (t : State × Nat) v => (t.1.setWord t.2 v, t.2 + 1)) (s, w)).1

/-- The attributes of a Basin word address by the regions of bank 0 (R108) and BSN_REGION (R109, R120): none
outside every region, else (TXN, RO). -/
def State.attrs (s : State) (w : Nat) : Option (Bool × Bool) :=
  let a := 4 * w
  if a < 0x200000 then some (false, false)
  else if a < 0x400000 then some (true, false)
  else
    (List.range 32).findSome? fun n =>
      let base := s.fld (.BSN_REGION_LO_BASE n) * 4096
      let len := (s.fld (.BSN_REGION_HI_PAGES n) + 1) * 4096
      if s.flag (.BSN_REGION_HI_VALID n) && decide (base ≤ a) && decide (a < base + len) then
        some (s.flag (.BSN_REGION_HI_TXN n), s.flag (.BSN_REGION_HI_RO n))
      else none

/-- Is a Basin word in a transactional region (R72)? -/
def State.isTxn (s : State) (w : Nat) : Bool := match s.attrs w with
  | some (t, ro) => t && !ro
  | none => false

/-- A word of the process image as it reads: a word of a solver's result window reads from the published half
(R162), every other one from the Basin. -/
def State.image (s : State) (w : Nat) : Word :=
  match (List.range 4).find? fun n =>
    let b := s.fld (.SLC_WIN_BASE n)
    decide (0 < s.fld (.SLC_WIN_LEN n)) && decide (b ≤ w) && decide (w < b + s.fld (.SLC_WIN_LEN n)) with
  | some n => Sparse.at 0 (Sparse.at [] s.slv.halves (2 * n + s.fld (.SLC_PUB_HALF n))) (w - s.fld (.SLC_WIN_BASE n))
  | none => s.word w

/-- A Basin word written by a requester inside an operation that raises no event itself: into a region that is neither RO nor
transactional; elsewhere the write is discarded and its event follows (R72, R109). -/
def State.blockWord (s : State) (r w : Nat) (v : Word) : State :=
  match s.attrs w with
  | some (false, false) => s.setWord w v
  | _ => { s with bsn := { s.bsn with discards := s.bsn.discards ++ [(r, w)] } }

/-- As blockWord, for words from a word address up. -/
def State.blockWords (s : State) (r w : Nat) (vs : List Word) : State :=
  (vs.foldl (fun (t : State × Nat) v => (t.1.blockWord r t.2 v, t.2 + 1)) (s, w)).1

/-! ### Free values -/

/-- The next free value (assumption 4). -/
def State.freeVal (s : State) : BitVec 64 := Config.free s.fresh

/-- The state after a free value has been taken. -/
def State.usedFree (s : State) : State := { s with fresh := s.fresh + 1 }

/-- n free bytes. -/
def State.freeBytes (s : State) (n : Nat) : List Byte := (List.range n).map fun k => (Config.free (s.fresh + k)).setWidth 8

/-! ### Wires -/

/-- A message put on a wire. -/
def State.send (s : State) (o : Out) : State := { s with out := s.out ++ [o] }

/-! ### Positions, roles and modes -/

/-- The position of sibling k of a position: 0 up, 1 down (R4's naming: for A, up is B and down is C). -/
def sibPos (p k : Nat) : Nat :=
  if p = 0 then 0 else if k = 0 then (if p = 3 then 1 else p + 1) else (if p = 1 then 3 else p - 1)

/-- Which sibling of a position another position is. -/
def sibOf (p q : Nat) : Option Nat :=
  if p = 0 ∨ q = 0 then none else if q = sibPos p 0 then some 0 else if q = sibPos p 1 then some 1 else none

/-- The role of a position in WIR_VOTE_STAT: 0 absent, 1 joining, 2 shadow, 3 voting, 4 sidelined (R70). -/
def roleFd (p : Nat) : Fd := ⟨0x05040, 4 * p + 2, 4 * p⟩

/-- The role of a position. -/
def State.role (s : State) (p : Nat) : Nat := if p = 0 then 0 else s.fld (roleFd p)

/-- A position's role set. -/
def State.setRole (s : State) (p r : Nat) : State := if p = 0 then s else s.put (roleFd p) r

/-- The siblings that vote: 0 up, 1 down. -/
def State.votingSibs (s : State) : List Nat := [0, 1].filter fun k => s.role (sibPos s.pos k) == 3

/-- Is this member voting? At position S the device acts alone. -/
def State.voting (s : State) : Bool := s.pos == 0 || s.role s.pos == 3

/-- The members that vote (R36: VOTERS counts 1 at position S in Run). -/
def State.voters (s : State) : Nat :=
  if s.pos = 0 then (if s.mode = .run ∨ s.mode = .degraded then 1 else 0)
  else b2n (s.role 1 == 3) + b2n (s.role 2 == 3) + b2n (s.role 3 == 3)

/-- No voting sibling exists: position S, a simplex survivor, or a member whose voting set holds no other. Its scan cycles wait
for no images. -/
def State.alone (s : State) : Bool := s.pos == 0 || s.votingSibs.isEmpty

/-- The three cases of R82 in which no group hashes are exchanged and an armed group is Agreed at once: position S, a simplex
survivor, a voting member in Commission whose voting set holds no other. -/
def State.noHashes (s : State) : Bool :=
  s.pos == 0 || s.flag ⟨0x05040, 21, 21⟩ || (s.mode == .commission && s.role s.pos == 3 && s.votingSibs.isEmpty)

/-- Does the device run outputs: Run or Degraded? -/
def State.live (s : State) : Bool := s.mode == .run || s.mode == .degraded

/-- The code of a mode in SYS_MODE.MODE (R36); start-up reads Safe. -/
def modeCode : Mode → Nat
  | .sleep => 0
  | .commission => 1
  | .run => 2
  | .degraded => 3
  | .safe => 4
  | .startUp => 4
  | .frozen => 5

/-- The level of land SAFE_N: high only in Run or Degraded while the device counts as a voting member (R17). -/
def State.safeN (s : State) : Bool := s.live && s.voting

/-- The level of land FORCE_IND: high while a force acts; an unpowered device reads low (R231). -/
def State.forceInd (s : State) : Bool := s.flag .SCN_STAT_FORCED && s.mode != .sleep && !s.held

/-- Do the core domains run: not in Sleep, not Frozen, and past the main power-on reset? -/
def State.awake (s : State) : Bool := s.mode != .sleep && s.mode != .frozen && !s.held && !s.stopped

/-! ### The outcome of a command -/

/-- A command's outcome: the state it leaves, with the queue as it was. -/
def effect (s t : State) : Host.Outcome State Fault Refusal := .next { t with pending := s.pending }

end Sys2Proof.Machine
end

