-- ==== Sys2Proof/Machine/Records.lean ====
section
/-! DEFINITION. Monitor samples (R119), and Sediment records on their way to the MRAM write queue: numbering (R394),
staging and drops (R395), the flood table with rate limit (R399) and repeat fold (R400). -/

namespace Sys2Proof.Machine

/-! ### Monitors -/

/-- The bin of a sample: ⌊(v − BASE) / 2^SHIFT⌋, clamped to 0 to 31 (R119). -/
def monBin (base shift v : Nat) : Nat := min 31 ((v - base) / 2 ^ shift)

/-- A sample taken into live monitor data. -/
def MonData.take (m : MonData) (base shift v : Nat) : MonData :=
  { min := Nat.min m.min v, max := Nat.max m.max v,
    bins := Sparse.mod 0 m.bins (monBin base shift v) (satInc 0xFFFFFFFF) }

/-- A sample of a page's monitor quantity arises; it is taken while the monitor is enabled and selects it (R119). -/
def State.sample (s : State) (p qty idx v : Nat) : State :=
  if s.flag (.MON_CTRL_EN p) ∧ s.fld (.MON_SEL_QTY p) = qty ∧ s.fld (.MON_SEL_INDEX p) = idx then
    { s with monLive := Sparse.mod {} s.monLive p
               (fun m => m.take (s.fld (.MON_CTRL_BASE p)) (s.fld (.MON_CTRL_SHIFT p)) (min v 0xFFFFFFFF)) }
  else s

/-! ### Records -/

/-- A record with its flags: own position, TIME_UNCERTAIN while PTP_STAT.VALID is 0, bits [7:4] per kind (R386). -/
def State.mkRec (s : State) (kind time per : Nat) (body : List Word) : Rec :=
  { kind := kind, flags := s.pos + 4 * b2n (!s.flag .PTP_STAT_VALID) + 16 * per, time := time, body := body }

/-- A 32-bit word of a number. -/
def w32 (n : Nat) : Word := BitVec.ofNat 32 n

/-- The body of a Condition record (R388). -/
def condBody (code action cls source value reps last cycle : Nat) : List Word :=
  [w32 (code + action * 0x10000 + cls * 0x1000000), w32 source, w32 value, w32 reps, w32 last,
   w32 (last / 0x100000000), w32 cycle, 0, 0, 0, 0]

/-- The 64 bytes of a numbered record (R386). -/
def SedRec.bytes (r : SedRec) : List Byte :=
  let b := leBytes 6 r.seq ++ leBytes 1 r.r.kind ++ leBytes 1 r.r.flags ++ leBytes 8 r.r.time ++
    wordsBytes (r.r.body.take 11)
  b ++ wordBytes (crc32 b)

/-- Records in staging: those queued for MRAM and the open folds (R395, R400). -/
def State.staged (s : State) : Nat := s.sed.queue.length + s.sed.folds.length

/-- SED_STAT.STAGED follows the staging ring. -/
def State.showStaged (s : State) : State := (s.put .SED_STAT_STAGED (min 8192 s.staged)).sample 0x2E 1 0 s.staged

/-- A record that finds staging full is dropped and counted; the first drop in a 1 s window is to raise an E1
(R395; the windows are those of PTP time, assumption 12). -/
def State.dropRec (s : State) : State :=
  let win := s.now / 1000000000
  let first := s.sed.dropWin != some win
  { s.bump .SED_STAT_DROP with
    sed := { s.sed with dropped := s.sed.dropped + 1, dropWin := some win,
                        dropCnt := if first then 1 else s.sed.dropCnt + 1,
                        dropDue := s.sed.dropDue || first } }

/-- The code of a Condition record. -/
def Rec.code (r : Rec) : Nat := (r.body.headD 0).toNat % 0x10000

/-- The place of a record among those of its cycle (R394): Mode change, Condition, Lost interval, Energy interval, Health, Interval
summary; within a kind ascending CODE and SOURCE, QTY and PART, or ITEM. -/
def Rec.place (r : Rec) : Nat :=
  let word := fun (k : Nat) => (r.body.getD k 0).toNat
  match r.kind with
  | 5 => 0
  | 2 => 2 ^ 48 + r.code * 2 ^ 32 + word 1
  | 4 => 2 * 2 ^ 48
  | 3 => 3 * 2 ^ 48 + word 0 % 256 * 256 + word 0 / 256 % 256
  | 6 => 4 * 2 ^ 48
  | _ => 5 * 2 ^ 48 + word 0 % 0x10000

/-- A record that enters the write queue at an instant takes its place behind those of earlier cycles; records that enter at one PTP ns
count as of one cycle (assumption 99). The queue is numbered without a gap, up to the SEQ given (R394). -/
def queueRecord (q : List SedRec) (r : Rec) (now seq : Nat) : List SedRec :=
  let old := q.filter fun e => e.made != now
  let new := q.filter fun e => e.made == now
  let all := old ++ new.filter (fun e => decide (e.r.place ≤ r.place)) ++ [SedRec.mk seq r now] ++
    new.filter fun e => !decide (e.r.place ≤ r.place)
  all.zipIdx.map fun e => { e.1 with seq := seq + 1 + e.2 - all.length }

/-- A record enters the MRAM write queue with its SEQ, or is dropped; while SED_CTRL.EN is 0 it is discarded
and never numbered (R394, R395). -/
def State.enqueue (s : State) (r : Rec) : State :=
  if !s.flag .SED_CTRL_EN then s
  else if 8192 ≤ s.staged then s.dropRec
  else { s with sed := { s.sed with newest := s.sed.newest + 1,
                                    queue := queueRecord s.sed.queue r s.now (s.sed.newest + 1) } }.showStaged

/-- CODE, SOURCE and ACTION of a Condition record, by which repeats fold (R400). -/
def Rec.foldKey (r : Rec) : Nat × Nat × Nat :=
  (r.code, (r.body.getD 1 0).toNat, (r.body.headD 0).toNat / 0x10000 % 256)

/-- A record's REPEAT and LAST set; FLAGS[3] shows that REPEAT is not 0 (R388). -/
def Rec.withRepeat (r : Rec) (n last : Nat) : Rec :=
  { r with flags := if n = 0 then r.flags else r.flags ||| 8,
           body := ((r.body.set 3 (w32 n)).set 4 (w32 last)).set 5 (w32 (last / 0x100000000)) }

/-- The flood word of a code class: MODE, N, T (R399); no table gives MODE 0. -/
def State.flood (s : State) (cls : Nat) : Nat × Nat × Nat :=
  let base := s.fld .SED_FLOOD_BASE
  if base = 0 then (0, 1, 1) else
    let w := (s.word (base / 4 + cls)).toNat
    let m := bitsOf w 31 30
    let n := bitsOf w 23 16
    let t := bitsOf w 15 0
    (if m = 3 then 0 else m, if n = 0 then 1 else n, if t = 0 then 1 else t)

/-- The first open fold is released and numbered (R400). -/
def State.releaseFold (s : State) (f : Fold) : State :=
  { s with sed := { s.sed with folds := s.sed.folds.filter fun g => g != f } }.enqueue f.r

/-- Rate limit: the bucket of a CODE holds up to N tokens, gains N / T per second of PTP time and is full when the
image is applied; a record without a token is suppressed (R399). Tokens are counted in 1 / (T · 10⁹). -/
def State.rateLimit (s : State) (r : Rec) (n t : Nat) : State :=
  let one := t * 1000000000
  let b := match Sparse.at none s.sed.buckets r.code with
    | some b => { b with level := min (n * one) (b.level + n * (s.now - b.upd)), upd := s.now }
    | none => { level := n * one, upd := s.now : Bucket }
  if one ≤ b.level then
    { s with sed := { s.sed with buckets := Sparse.put none s.sed.buckets r.code
                                   (some { b with level := b.level - one, supp := 0, last := 0 }) } }.enqueue
      (r.withRepeat b.supp b.last)
  else
    { s.bump .SED_SUPP_SUPP with
      sed := { s.sed with suppressed := s.sed.suppressed + 1,
                          buckets := Sparse.put none s.sed.buckets r.code
                            (some { b with supp := b.supp + 1, last := s.now }) } }

/-- Repeat fold: a record of an open fold's CODE, SOURCE and ACTION adds to it; one of the same CODE and SOURCE and
another ACTION releases that fold first; a 257th fold releases the oldest first (R400). -/
def State.foldRec (s : State) (r : Rec) : State :=
  match s.sed.folds.find? (fun f => f.r.foldKey == r.foldKey) with
  | some f =>
    let k := (f.r.body.getD 3 0).toNat + 1
    let g : Fold := { f with r := { f.r.withRepeat k s.now with
                                      body := ((f.r.withRepeat k s.now).body.set 2 (r.body.getD 2 0)) } }
    { s.bump .SED_SUPP_FOLD with
      sed := { s.sed with folds := s.sed.folds.map fun h => if h = f then g else h } }
  | none =>
    let s1 := match s.sed.folds.find? (fun f => f.r.foldKey.1 == r.foldKey.1 && f.r.foldKey.2.1 == r.foldKey.2.1) with
      | some f => s.releaseFold f
      | none => s
    let s2 := if s1.sed.folds.length < 256 then s1 else match s1.sed.folds with
      | f :: _ => s1.releaseFold f
      | [] => s1
    if 8192 ≤ s2.staged then s2.dropRec
    else { s2 with sed := { s2.sed with folds := s2.sed.folds ++ [Fold.mk s2.now r] } }.showStaged

/-- A Condition record arises: the flood table decides whether it is written, limited or folded (R399, R400). -/
def State.condition (s : State) (code action cls source value : Nat) : State :=
  if !s.flag .SED_CTRL_EN then s else
    let r := s.mkRec 2 s.now 0 (condBody code action cls source value 0 0 s.scn.cycle)
    match s.flood (code / 256 % 256) with
    | (1, n, t) => s.rateLimit r n t
    | (2, _, _) => s.foldRec r
    | _ => s.enqueue r

/-- A Mode change record (R392). -/
def State.modeRecord (s : State) (old new trigger rst : Nat) : State :=
  s.enqueue (s.mkRec 5 s.now 0
    [w32 (old + new * 0x100 + trigger * 0x10000 + rst * 0x1000000), w32 s.voters, s.reg 0x5078, s.reg 0x60,
     w32 s.scn.cycle, 0, 0, 0, 0, 0, 0])

end Sys2Proof.Machine
end

