-- ==== Sys2Proof/Machine/Links.lean ====
section
/-! DEFINITION. Yarnan frames as they are built, checked and sent (R37 to R43), and the commit group operations that
need no more than them: the group hash (R80), outcomes and aborts (R75, R82). -/

namespace Sys2Proof.Machine

/-! ### Frames -/

/-- The bytes a frame's CRC covers: the header with FLAGS[3] taken as 0, and the payload (R38). -/
def crcBytes (kind flags len seq ref : Nat) (payload : List Byte) : List Byte :=
  leBytes 1 kind ++ leBytes 1 (if bitOf flags 3 then flags - 8 else flags) ++ leBytes 2 len ++ leBytes 4 seq ++
    leBytes 8 ref ++ payload

/-- A frame of this member for sibling k, with the next SEQ of its kind (R38). -/
def State.mkFrame (s : State) (dest kind ref : Nat) (last : Bool) (payload : List Byte) : YFrame :=
  let seq := Sparse.at 0 s.sib.seqs kind
  let flags := s.pos * 64 + dest * 16 + (if last then 4 else 0)
  { kind := kind, flags := BitVec.ofNat 8 flags, seq := w32 seq, ref := BitVec.ofNat 64 ref, payload := payload,
    crc := crc32 (crcBytes kind flags payload.length (seq % 4294967296) ref payload) }

/-- The state of link k: 0 Down, 1 Training, 2 Up, 3 Refused, 4 Fault (R42). -/
def State.link (s : State) (k : Nat) : Nat := s.fld (.SIB_LINK_STAT_STATE k)

/-- A frame for sibling k goes over its own link while that is Up, else over the other link while that is Up (R43). A link in
Training or Refused carries Health frames alone (R39, R42). -/
def State.sendSib (s : State) (k kind ref : Nat) (last : Bool) (payload : List Byte) : State :=
  if s.pos = 0 then s else
    let f := s.mkFrame (sibPos s.pos k) kind ref last payload
    let t := { s with sib := { s.sib with seqs := Sparse.mod 0 s.sib.seqs kind (· + 1) } }
    let own : State := if s.link k = 2 ∨ (kind = 5 ∧ (s.link k = 1 ∨ s.link k = 3)) then t.send (.yarnan k f) else t
    if s.link k ≠ 2 ∧ s.link (1 - k) = 2 then own.send (.yarnan (1 - k) f) else own

/-- The idle sequences between frames, for the base tick that begins: on a link in Training or Up, at position S on both (R37, R42;
assumption 83). -/
def State.sendIdle (s : State) : State :=
  [0, 1].foldl (fun t k => if s.pos = 0 ∨ s.link k = 1 ∨ s.link k = 2 then t.send (.idle k) else t) s

/-- A frame for both siblings. -/
def State.sendBoth (s : State) (kind ref : Nat) (last : Bool) (payload : List Byte) : State :=
  (s.sendSib 0 kind ref last payload).sendSib 1 kind ref last payload

/-- The triplet logic's data changed. -/
def State.setSib (s : State) (f : SibState → SibState) : State := { s with sib := f s.sib }

/-- Both siblings' data. -/
def State.peer (s : State) (k : Nat) : Peer := Sparse.at {} s.sib.peers k

/-- A sibling's data changed. -/
def State.setPeer (s : State) (k : Nat) (f : Peer → Peer) : State :=
  { s with sib := { s.sib with peers := Sparse.mod {} s.sib.peers k f } }

/-! ### Commit groups: what everything needs -/

/-- A group. -/
def State.group (s : State) (g : Nat) : Group := Sparse.at {} s.txn g

/-- A group changed. -/
def State.setGroup (s : State) (g : Nat) (f : Group → Group) : State := { s with txn := Sparse.mod {} s.txn g f }

/-- The target address of an entry as the canonical encoding gives it: bit 31 is 1 for a Basin word (R80). Below it stands the word
address of a Basin word, and the byte offset in the window of a register: the unit is the model's choice (assumption 84). -/
def Target.enc (t : Target) : Nat := t.adr + if t.basin then 0x80000000 else 0

/-- An entry put into a list sorted by target; an entry of the same target is replaced (R74, R80). -/
def putEntry (t : Target) (v : Word) : List (Target × Word) → List (Target × Word)
  | [] => [(t, v)]
  | (u, w) :: r => if u = t then (t, v) :: r else if t.enc < u.enc then (t, v) :: (u, w) :: r
      else (u, w) :: putEntry t v r

/-- The value a list of entries holds for a target. -/
def entryOf (t : Target) (es : List (Target × Word)) : Option Word := (es.find? fun e => e.1 = t).map Prod.snd

/-- KIND of a group (R87). -/
def State.kindOf (s : State) (g : Nat) : Nat := s.fld (.TXN_GRP_CFG_KIND g)

/-- The group hash: the first 128 bits of the SHA-256 of the canonical encoding (R80). -/
def State.groupHash (s : State) (g : Nat) : BitVec 128 :=
  let kind := s.kindOf g
  let time := if kind = 5 then s.get64 (0x8100 + 8 * g) (0x8104 + 8 * g) else 0
  shaFirst 128 (leBytes 4 (g + 16 * kind + 256 * s.fld (.TXN_GRP_CFG_SLOT g)) ++ leBytes 8 time ++
    leBytes 4 0 ++ (s.group g).entries.flatMap fun e => leBytes 4 e.1.enc ++ wordBytes e.2)

/-- REF of a Group hash frame (R80). -/
def groupRef (g role time : Nat) : Nat := g * 2 ^ 60 + role * 2 ^ 58 + time % 2 ^ 58

/-- The configuration fingerprint a member announces, SYS_FP0 highest (R32): 0 while no image is applied (R33), whatever a verified
seal has left in SYS_FP0 to SYS_FP3. -/
def State.fp (s : State) : BitVec 128 :=
  if s.fld .SYS_BOOT_STAT_RESULT = 0 ∨ 4 < s.fld .SYS_BOOT_STAT_RESULT then 0
  else BitVec.ofNat 128 (((s.reg 0x60).toNat * 2 ^ 96) + ((s.reg 0x64).toNat * 2 ^ 64) + ((s.reg 0x68).toNat * 2 ^ 32) + (s.reg 0x6C).toNat)

/-- The payload of a Group hash frame: hash and fingerprint (R39), low byte first. -/
def State.hashPayload (s : State) (h : BitVec 128) : List Byte := leBytes 16 h.toNat ++ leBytes 16 s.fp.toNat

/-- The boundary time a Group hash frame carries: the one proposed, 0 for kinds 1 and 2 (R80). -/
def State.boundTime (s : State) (g : Nat) : Nat := if s.kindOf g ≤ 2 then 0 else (s.group g).proposed

/-- Outcome frames start: the hash applied, or zero after an abort (R82). Where no hashes are exchanged, none are. -/
def State.startOutcome (s : State) (g : Nat) (h : BitVec 128) : State :=
  if s.noHashes then s else
    (s.setGroup g fun x => { x with outcome := some h, reps := 16, compared := false }).sendBoth 3
      (groupRef g 2 (s.boundTime g)) true (s.hashPayload h)

/-- TXN_LAST shows the last group to commit or abort, and TXN's interrupt source 8 occurs (R87, R434). -/
def State.lastGroup (s : State) (g result : Nat) : State :=
  ((s.put .TXN_LAST_GROUP g).put .TXN_LAST_RESULT result).irq 8 8

/-- A group becomes Free with a result, its entries discarded (R75). -/
def State.freeGroup (s : State) (g result : Nat) : State :=
  (s.setGroup g fun x => { x with state := 0, entries := [], result := result, weir := false, hash := 0,
                                  sibHash := [], sibVote := [] }).lastGroup g result

/-- A group aborts; after the abort of an Armed or Agreed group outcome frames of zero follow (R82). Free and
Applying groups stay as they are. -/
def State.abortGroup (s : State) (g result : Nat) : State :=
  match (s.group g).state with
  | 1 => s.freeGroup g result
  | 2 => (s.startOutcome g 0).freeGroup g result
  | 3 => (s.startOutcome g 0).freeGroup g result
  | _ => s

/-- Every group not in Applying aborts (R76, R100). -/
def State.abortAll (s : State) (result : Nat) : State := forN 16 (fun g t => t.abortGroup g result) s

/-- The target of SYS_MODE_REQ. -/
def modeTarget : Target := ⟨false, 0x44⟩

/-- Is a group a mode group, Armed or Agreed, whose PTP-time boundary falls into the present microsecond or lies before it? -/
def State.modeDue (s : State) (g : Nat) : Bool :=
  let x := s.group g
  (x.state == 2 || x.state == 3) && (entryOf modeTarget x.entries).isSome && decide (3 ≤ s.kindOf g) &&
    decide (x.bound / 1000 ≤ s.now / 1000)

/-- A mode group of the present Weir cycle loses to an earlier trigger and aborts with RESULT MODE (R19; assumption 73). -/
def State.loseMode (s : State) : State := forN 16 (fun g t => if t.modeDue g then t.abortGroup g 6 else t) s

/-- This member takes a role other than Voting: its own groups abort (R76). -/
def State.takeRole (s : State) (r : Nat) : State := (s.setRole s.pos r).abortAll 9

end Sys2Proof.Machine
end

