-- ==== Sys2Proof/Machine/LoopBase.lean ====
section
/-! DEFINITION. Loop slot records as they are read (R189), and how test generators (R201) and capture units (R203, R204)
end. -/

namespace Sys2Proof.Machine

/-- The configuration record word of a loop slot (R189). -/
def State.slotCfg (s : State) (n off : Nat) : Word := s.word ((s.fld .LOP_CFG_BASE + 256 * n + off) / 4)

/-- PERIOD and PHASE of a slot, in base ticks. -/
def State.slotPeriod (s : State) (n : Nat) : Nat := bitsOf (s.slotCfg n 4).toNat 21 0
def State.slotPhase (s : State) (n : Nat) : Nat := bitsOf (s.slotCfg n 8).toNat 21 0

/-- A test generator. -/
def State.gen (s : State) (g : Nat) : Gen := Sparse.at {} s.lop.gens g
def State.setGen (s : State) (g : Nat) (x : Gen) : State :=
  { s with lop := { s.lop with gens := Sparse.put {} s.lop.gens g x } }

/-- A generator ends: DONE sets and RUN reads 0 (R201). -/
def State.endGen (s : State) (g : Nat) : State :=
  if (s.gen g).on then
    ((s.setGen g { s.gen g with on := false }).putB (.LOP_TEST_STAT_DONE g) true).putB (.LOP_TEST_RUN g) false
  else s

/-- A capture unit. -/
def State.capture (s : State) (c : Nat) : Cap := Sparse.at {} s.lop.caps c
def State.setCapture (s : State) (c : Nat) (x : Cap) : State :=
  ({ s with lop := { s.lop with caps := Sparse.put {} s.lop.caps c x } }.put (.LOP_CAP_STAT_STATE c) x.state).put
    (.LOP_CAP_STAT_COUNT c) x.count

/-- The Basin address of a capture area (R204). -/
def State.capBase (s : State) (c : Nat) : Nat := s.fld .LOP_CAP_BASE + c * 0xC1000

/-- TOTAL and PRE of a unit: PRE is at most TOTAL − 1, and 0 with TRIG 0 (R203, LOP_CAP). -/
def State.capTotal (s : State) (c : Nat) : Nat := max 1 (s.fld (.LOP_CAP_TOTAL c))
def State.capPre (s : State) (c : Nat) : Nat :=
  if s.fld (.LOP_CAP_CTRL_TRIG c) = 0 ∨ 3 < s.fld (.LOP_CAP_CTRL_TRIG c) then 0 else min (s.fld (.LOP_CAP_PRE c)) (s.capTotal c - 1)

/-- The ring index of the oldest entry of a unit. -/
def State.capFirst (s : State) (c : Nat) : Nat :=
  let x := s.capture c
  if x.count < s.capTotal c then 0 else x.next % s.capTotal c

/-- The capture header of R204; until the unit is done or stopped it shows STATE only. -/
def State.capHeader (s : State) (c : Nat) : State :=
  let x := s.capture c
  let full := decide (4 ≤ x.state)
  let slot := s.fld (.LOP_CAP_CTRL_SLOT c)
  let first := s.capFirst c
  let total := s.capTotal c
  let sig := s.fld (.LOP_CAP_SIG_SIG0 c) + 256 * s.fld (.LOP_CAP_SIG_SIG1 c) + 65536 * s.fld (.LOP_CAP_SIG_SIG2 c)
  let trig := match x.trig with
    | some t => (t + total - first) % total
    | none => 0xFFFFFFFF
  let bs := if full then
      leBytes 2 slot ++ leBytes 1 x.state ++ leBytes 3 sig ++ leBytes 2 0 ++ leBytes 8 (Sparse.at 0 x.times first) ++
        leBytes 4 (s.slotPeriod slot) ++ leBytes 4 x.count ++ leBytes 4 first ++ leBytes 4 trig
    else leBytes 2 0 ++ leBytes 1 x.state ++ List.replicate 29 0
  s.blockWords 4 (s.capBase c / 4) (bytesWords bs)

/-- A unit is done or stopped: ARM reads 0 and the header is written (R203, R204). -/
def State.endCapture (s : State) (c st : Nat) : State :=
  ((s.setCapture c { s.capture c with state := st }).putB (.LOP_CAP_CTRL_ARM c) false).capHeader c

/-- A unit stops if it runs (R203). -/
def State.stopCapture (s : State) (c : Nat) : State :=
  let st := (s.capture c).state
  if st = 1 ∨ st = 2 ∨ st = 3 then s.endCapture c 5 else s

/-- On entry to Safe every generator and every capture unit stops (R201, R203). -/
def State.stopTests (s : State) : State :=
  forN 4 (fun c t => t.stopCapture c) (forN 8 (fun g t => t.endGen g) s)

end Sys2Proof.Machine
end

