-- ==== Sys2Proof/Machine/Outputs.lean ====
section
/-! DEFINITION. What the field lands do at a change of mode (R16, R21, R26, R98, R425): trip elements, digital
outputs, current-output legs. -/

namespace Sys2Proof.Machine

/-- A leg's current in mA, binary32. -/
def State.legCurrent (s : State) (n : Nat) : Word := Sparse.at 0 s.field.legs n
def State.setLeg (s : State) (n : Nat) (w : Word) : State :=
  { s with field := { s.field with legs := Sparse.put 0 s.field.legs n w } }

/-- A digital channel's own state. -/
def State.dch (s : State) (n : Nat) : Dio := Sparse.at {} s.field.dio n
def State.setDch (s : State) (n : Nat) (f : Dio → Dio) : State :=
  { s with field := { s.field with dio := Sparse.mod {} s.field.dio n f } }

/-- The CLOSED bit of a trip element, numbered channel × 2 + element. -/
def elementFd (e : Nat) : Fd := if e % 2 = 0 then .TRP_STAT_CLOSED_A (e / 2) else .TRP_STAT_CLOSED_B (e / 2)

/-- A trip element closed or opened; openings are counted (R413 item 4). -/
def State.setElement (s : State) (e : Nat) (closed : Bool) : State :=
  let t := s.putB (elementFd e) closed
  if s.flag (elementFd e) && !closed then
    { t with wear := { t.wear with tripCycles := Sparse.mod 0 t.wear.tripCycles e (· + 1) } } else t

/-- Every trip element open (R16). -/
def State.openTrips (s : State) : State :=
  let t := forN 16 (fun e u => u.setElement e false) s
  { t with field := { t.field with test := none, ptCmd := none } }

/-- An output switch set to a level; the instant of a change is kept for the readback test (R331), and switch-offs are
counted (R413 item 2). -/
def State.switchOut (s : State) (n : Nat) (on : Bool) : State :=
  let t := s.setDch n fun d => if d.on = on then d else { d with on := on, since := s.now, mism := 0, openCnt := 0 }
  if (s.dch n).on && !on then { t with wear := { t.wear with outCycles := Sparse.mod 0 t.wear.outCycles n (· + 1) } } else t

/-- Is a channel an output in use (R328, R341)? -/
def State.isOutput (s : State) (n : Nat) : Bool :=
  s.flag .DIO_CTRL_EN && s.flag (.DIO_CFG_EN n) && s.flag (.DIO_CFG_DIR n)

/-- May an output switch be on: not overloaded, not too hot, its lane not latched at its safe value (R93, R330)? -/
def State.outHeld (s : State) (n : Nat) : Bool := s.flag (.DIO_STAT_OVL n) || s.flag (.DIO_STAT_THERM n)

/-- Every digital output at its configured safe value (R16, R21). -/
def State.safeOutputs (s : State) : State :=
  forN 32 (fun n t => t.switchOut n (t.isOutput n && t.flag (.DIO_CFG_SAFE n) && !t.outHeld n)) s

/-- The alarm level of output n in mA, binary32: 3.6 or 21.0, by AOU_CFG.ALM or the strap (R315). -/
def State.alarmLevel (s : State) (n : Nat) : Word :=
  let high := match s.fld (.AOU_CFG_CTRL_ALM n) with
    | 1 => false
    | 2 => true
    | _ => s.aoAlm
  if high then 0x41A80000 else 0x40666666

/-- The legs of output n in service, as far as this member knows: its own unless its switch is open, and those of
voting siblings that it does not itself ask to isolate (R64, R67; assumption 20). -/
def State.legsInService (s : State) (n : Nat) : Nat :=
  if s.pos = 0 then 1 else
    let own := b2n (!bitOf (s.fld .WIR_ISO_STAT_SW_OPEN) n)
    let up := b2n (s.role (sibPos s.pos 0) == 3 && !bitOf (s.fld .WIR_ISO_OUT_OUT_UP) n)
    let dn := b2n (s.role (sibPos s.pos 1) == 3 && !bitOf (s.fld .WIR_ISO_OUT_OUT_DN) n)
    max 1 (own + up + dn)

/-- The share of a loop current a leg sources: the current divided by the legs in service (R64). -/
def State.shareOf (s : State) (n : Nat) (mA : Word) : Word := fdiv mA (fofInt (s.legsInService n))

/-- A leg set to a share, unless its output is not in use or it is too hot (R314, R317). -/
def State.driveLeg (s : State) (n : Nat) (w : Word) (st : Nat) : State :=
  let v := if !s.flag (.AOU_CFG_CTRL_EN n) ∨ s.flag (.AOU_STAT_THERM n) then 0 else w
  ((s.setLeg n v).put (.AOU_STAT_STATE n) st).put (.AOU_STAT_LEGS n) (s.legsInService n)

/-- Every current output at its alarm level, shared by the legs in service (R16, R21, R98, R315). -/
def State.alarmLegs (s : State) : State := forN 8 (fun n t => t.driveLeg n (t.shareOf n (t.alarmLevel n)) 2) s

/-- The mask an isolation line asserts towards this member: all bits while the line fails (R66); in start-up a failed line does not
assert (R26; assumption 42). -/
def State.lineMask (s : State) (k : Nat) : Nat :=
  let fail := if k = 0 then s.flag .WIR_ISO_STAT_UP_LINE_FAIL else s.flag .WIR_ISO_STAT_DN_LINE_FAIL
  if fail then (if s.mode = .startUp then 0 else 0xFF)
  else if k = 0 then s.fld .WIR_ISO_STAT_IN_UP else s.fld .WIR_ISO_STAT_IN_DN

/-- The series switches (R66): open where both lines assert, or without power; position S has no siblings, and the simplex survivor
drives its loops alone (R64; assumption 42). -/
def State.isoSwitches (s : State) : State :=
  s.put .WIR_ISO_STAT_SW_OPEN (if !s.field.lpOn then 0xFF else if s.pos = 0 || s.flag .WIR_VOTE_STAT_SIMPLEX then 0
    else s.lineMask 0 &&& s.lineMask 1)

/-- The power-up state of the field die: outputs off, elements open, each leg at the strap's alarm level, whole at
position S and a third elsewhere (R26). With LP absent nothing is driven (R425). -/
def State.powerUpField (s : State) : State :=
  if !s.field.lpOn then s else
    let level : Word := if s.aoAlm then 0x41A80000 else 0x40666666
    let w := if s.pos = 0 then level else fdiv level (fofInt 3)
    (forN 8 (fun n t => ((t.setLeg n w).put (.AOU_STAT_STATE n) 0).put (.AOU_STAT_LEGS n) 0)
      (forN 32 (fun n t => t.switchOut n false) s.openTrips)).isoSwitches

/-- Test commands end on leaving Commission (R318, R328, R339). -/
def State.endTests (s : State) : State := forN 8 (fun n t => t.putB (.AOU_TEST_EN n) false) (s.put .DIO_TEST_EN_MASK 0)

/-- Safe values everywhere (R16, R21, R98). -/
def State.safeField (s : State) : State :=
  let t := { s.endTests with field := { s.field with outPend := [], outImage := none } }
  if !s.field.lpOn then t else t.openTrips.safeOutputs.alarmLegs

/-- The field die unpowered: outputs off, trip elements open, legs at 0 mA with open switches (R425, R16). -/
def State.darkField (s : State) : State :=
  let t := forN 8 (fun n u => u.setLeg n 0) (forN 32 (fun n u => u.switchOut n false) s.openTrips)
  t.put .WIR_ISO_STAT_SW_OPEN 0xFF

/-- Loop slots stop, their integrator and filter states kept (R100). -/
def State.stopLoops (s : State) : State := forN 16 (fun n t => t.put (.LOP_RUNNING_RUN n) 0) s

/-- A context. -/
def State.ctx (s : State) (n : Nat) : Ctx := Sparse.at {} s.slv.ctx n
def State.setCtx (s : State) (n : Nat) (f : Ctx → Ctx) : State :=
  { s with slv := { s.slv with ctx := Sparse.mod {} s.slv.ctx n f } }

/-- The state of a context: 0 empty, 1 idle, 2 pending, 3 running, 4 checkpointed, 5 scattering (R156). -/
def State.ctxState (s : State) (n : Nat) : Nat := s.fld (.SLV_CTX_STAT_STATE n)

/-- The run clock counts while the context runs or scatters (R157). -/
def State.runClock (s : State) (n : Nat) : State :=
  if s.ctxState n = 3 ∨ s.ctxState n = 5 then
    s.setCtx n fun c => { c with clock := c.clock + (s.now - c.lastMark) / 1000,
                                 lastMark := c.lastMark + (s.now - c.lastMark) / 1000 * 1000 }
  else s

/-- A group of a context that is still Armed or Agreed aborts. -/
def State.dropGroup (s : State) (g : Nat) : State :=
  if (s.group g).state = 2 ∨ (s.group g).state = 3 then s.abortGroup g 2 else s

/-- A run ends with a status: the run clock brought to now, shown in SLC_RUN, SLC_TIME and SLV_CTX_STAT.LAST, the context idle, its
interrupt source; a barrier it holds ends with it (R157, R174, R180, R434). -/
def State.endRun (s0 : State) (n status : Nat) : State :=
  let sc := s0.runClock n
  let s := if (sc.ctx n).barrier.isSome then sc.dropGroup (sc.fld (.SLC_GRP_SYNC n)) else sc
  let c := s.ctx n
  let s1 := ((((s.put (.SLV_CTX_STAT_STATE n) 1).put (.SLV_CTX_STAT_LAST n) status).put (.SLC_RUN_STATUS n) status).put
    (.SLC_RUN_FLAGS n) c.flags).put (.SLC_TIME_US n) c.clock
  let s2 := { s1 with slv := { s1.slv with ready := s1.slv.ready.filter (· != n),
                                           running := if s1.slv.running = some n then none else s1.slv.running } }
  (((s2.setCtx n fun c => { c with status := status, barrier := none, abortDue := false }).irq 0x0A (8 + n)).sample 0x0B 3 n
    c.pivCnt).sample 0x0A 1 n c.clock

/-- A run ends without publication. -/
def State.failRun (s : State) (n status : Nat) : State := (s.put (.SLC_RUN_PUBLISHED n) 0).endRun n status

/-- The run of context n is to end with ABORTED, if it has one: a pending or checkpointed one at once, a running one after the step in
progress unless that waits at a barrier (R164); a scattering one with its publication group (R100, R180). -/
def State.abortRun (s : State) (n : Nat) : State :=
  match s.ctxState n with
  | 2 => s.failRun n 6
  | 3 => if (s.ctx n).barrier.isSome then s.failRun n 6 else s.setCtx n fun c => { c with abortDue := true }
  | 4 => s.failRun n 6
  | 5 => (s.dropGroup (s.fld (.SLC_GRP_PUB n))).failRun n 6
  | _ => s

/-- The run of every context ends with ABORTED (R100). -/
def State.abortRuns (s : State) : State := forN 4 (fun n t => t.abortRun n) s

end Sys2Proof.Machine
end

