-- ==== Sys2Proof/Machine/NetBase.lean ====
section
/-! DEFINITION. Frames on their way out: Ethernet with tag (R363), the redundancy trailer of PRP (R368), IPv4 and UDP
(R234, R364), the launch queues of the MACs (R355, R366). -/

namespace Sys2Proof.Machine

/-! ### Bytes -/

/-- The k low bytes of a number, highest first. -/
def beBytes (k n : Nat) : List Byte := (leBytes k n).reverse
/-- The number big-endian bytes spell. -/
def beNat (bs : List Byte) : Nat := leNat bs.reverse
/-- A big-endian field of a list of bytes. -/
def beAt (bs : List Byte) (off len : Nat) : Nat := beNat ((bs.drop off).take len)

/-- The Internet checksum of RFC 1071. -/
def inetSum : List Byte → Nat
  | a :: b :: r => let t := 256 * a.toNat + b.toNat + inetSum r; t % 65536 + t / 65536
  | [a] => 256 * a.toNat
  | [] => 0
def inetChecksum (bs : List Byte) : Nat := let t := inetSum bs; 0xFFFF - (t % 65536 + t / 65536)

/-! ### Addresses and tags -/

/-- The address of MAC m: bytes 0 to 3 in ETH_ADDR_LO, bytes 4 and 5 in ETH_ADDR_HI, the lower byte lower (R384). -/
def State.macAddr (s : State) (m : Nat) : List Byte :=
  leBytes 4 (s.fld (.ETH_ADDR_LO_ADDR m)) ++ leBytes 2 (s.fld (.ETH_ADDR_HI_ADDR m))

/-- Is PRP on for pair p (R368)? -/
def State.prpOn (s : State) (p : Nat) : Bool := bitOf (s.fld .PRP_CTRL_EN) p

/-- The source address of the device's own frames on MAC m: with PRP both MACs of the pair use that of LAN A (assumption 36). -/
def State.srcAddr (s : State) (m : Nat) : List Byte := s.macAddr (if s.prpOn (m / 2) then m / 2 * 2 else m)

/-- An 802.1Q tag with the MAC's VID (R363). -/
def State.vlanTag (s : State) (m pcp : Nat) : List Byte := [0x81, 0x00] ++ beBytes 2 (pcp * 0x2000 + s.fld (.ETH_CTRL_VID m))

/-- A tagged frame of the device's own protocols on MAC m. -/
def State.taggedFrame (s : State) (dst : List Byte) (pcp ethertype : Nat) (payload : List Byte) (m : Nat) : List Byte :=
  dst ++ s.srcAddr m ++ s.vlanTag m pcp ++ beBytes 2 ethertype ++ payload

/-- An untagged frame. -/
def State.plainFrame (s : State) (dst : List Byte) (ethertype : Nat) (payload : List Byte) (m : Nat) : List Byte :=
  dst ++ s.srcAddr m ++ beBytes 2 ethertype ++ payload

/-- Is a frame's first type a VLAN tag? -/
def isTagged (f : List Byte) : Bool := beAt f 12 2 == 0x8100

/-- Padding to the smallest frame, before a trailer. -/
def padFrame (f : List Byte) : List Byte := f ++ List.replicate (60 - f.length) 0

/-- The redundancy control trailer (R368, IEC 62439-3): sequence number, LAN ID and LSDU size, suffix. -/
def withTrailer (seq lan : Nat) (f : List Byte) : List Byte :=
  let g := padFrame f
  let size := g.length + 6 - 14 - (if isTagged g then 4 else 0)
  g ++ beBytes 2 seq ++ beBytes 2 (lan * 0x1000 + size % 0x1000) ++ [0x88, 0xFB]

/-! ### IPv4 and UDP -/

/-- The Ethernet address of an IPv4 multicast group (RFC 1112). -/
def mcastAddr (ip : Nat) : List Byte := [0x01, 0x00, 0x5E] ++ beBytes 3 (ip % 0x800000)

/-- An IPv4 packet. -/
def State.ipPacket (s : State) (src dst proto ttl : Nat) (options body : List Byte) : List Byte :=
  let h := fun sum => [BitVec.ofNat 8 (0x45 + options.length / 4), Config.ipTos] ++
    beBytes 2 (20 + options.length + body.length) ++ beBytes 2 (Config.ipIdent s.fresh).toNat ++ [0x00, 0x00] ++
    beBytes 1 ttl ++ beBytes 1 proto ++ beBytes 2 sum ++ beBytes 4 src ++ beBytes 4 dst ++ options
  h (inetChecksum (h 0)) ++ body

/-- A UDP datagram in an IPv4 packet. -/
def State.udpPacket (s : State) (src dst port : Nat) (payload : List Byte) : List Byte :=
  let u := fun sum => beBytes 2 Config.udpSource.toNat ++ beBytes 2 port ++ beBytes 2 (8 + payload.length) ++ beBytes 2 sum ++ payload
  let pseudo := beBytes 4 src ++ beBytes 4 dst ++ [0x00, 0x11] ++ beBytes 2 (8 + payload.length)
  let sum := inetChecksum (pseudo ++ u 0)
  s.ipPacket src dst 17 Config.ipTtl.toNat [] (u (if Config.udpSummed then (if sum = 0 then 0xFFFF else sum) else 0))

/-! ### Launch queues -/

def State.mac (s : State) (m : Nat) : Mac := Sparse.at {} s.net.macs m
def State.setMac (s : State) (m : Nat) (f : Mac → Mac) : State :=
  { s with net := { s.net with macs := Sparse.mod {} s.net.macs m f } }
def Mac.queue (x : Mac) (q : Nat) : List TxFrame := Sparse.at [] x.queues q
def Mac.setQueue (x : Mac) (q : Nat) (l : List TxFrame) : Mac := { x with queues := Sparse.put [] x.queues q l }

/-- The frame now at the head of a queue: late if its launch time has passed (R355). -/
def headSeen (now : Nat) : List TxFrame → List TxFrame
  | [] => []
  | f :: r => { f with late := f.late || decide (f.launch < now) } :: r

/-- The lowest queue whose head is due (R355). -/
def State.dueQueue (s : State) (m : Nat) : Option Nat :=
  [0, 1, 2, 3].find? fun q => match (s.mac m).queue q with
    | f :: _ => decide (f.launch ≤ s.now)
    | [] => false

/-- A frame starts to leave: the wire, its late count, its timestamp (R354, R355, R366). -/
def State.startFrame (s : State) (m q : Nat) (f : TxFrame) : State :=
  let t0 := (s.setMac m fun x => { x with sending := some f }).send (.eth m f.bytes)
  let t := if q = 0 then t0.sample 0x18 3 0 (if f.late then s.now - f.launch else 0) else t0
  let u := if f.late then t.bump (.ETH_LATE m) else t
  if f.ts then ((u.put64 (0x1A080 + 0x1000 * m) (0x1A084 + 0x1000 * m) s.now).putB (.ETH_STAT_TXTS m) true).irq (0x1A + m) 8
  else u

/-- The next due frame of an idle MAC starts. -/
def State.nextFrame (s : State) (m : Nat) : State :=
  if (s.mac m).sending.isSome then s else
    match s.dueQueue m with
    | none => s
    | some q => match (s.mac m).queue q with
      | f :: r => (s.setMac m fun x => x.setQueue q (headSeen s.now r)).startFrame m q f
      | [] => s

/-- A frame enters queue q of MAC m, 32 deep; it leaves at once if it is due and the MAC idle (R355). -/
def State.enqueueFrame (s : State) (m q : Nat) (f : TxFrame) : State :=
  let l := (s.mac m).queue q
  if !s.flag (.ETH_CTRL_EN m) ∨ 32 ≤ l.length then s
  else (s.setMac m fun x => x.setQueue q (if l.isEmpty then headSeen s.now [f] else l ++ [f])).nextFrame m

/-- The next redundancy sequence number of a pair. -/
def State.bumpPrp (s : State) (p : Nat) : State :=
  { s with net := { s.net with prpSeq := Sparse.mod 0 s.net.prpSeq p (fun n => (n + 1) % 65536) } }

/-- A frame of the device's own for pair p: on both MACs, with the trailer where PRP is on (R368). -/
def State.sendPair (s : State) (p q launch : Nat) (f : Nat → List Byte) : State :=
  let seq := Sparse.at 0 s.net.prpSeq p
  let one := fun (t : State) (lan : Nat) =>
    let m := 2 * p + lan
    t.enqueueFrame m q { launch := launch, bytes := if s.prpOn p then withTrailer seq (0xA + lan) (f m) else padFrame (f m) }
  let t := one (one s 0) 1
  if s.prpOn p then t.bumpPrp p else t

/-- An IGMPv2 membership report for STN_MCAST_UP on a pair (R364, RFC 2236): router alert, time to live 1. -/
def State.igmpReport (s : State) (p : Nat) : State :=
  let g := s.fld .STN_MCAST_UP_ADDR
  let body := fun sum => [(0x16 : Byte), 0] ++ beBytes 2 sum ++ beBytes 4 g
  let pkt := s.ipPacket (s.fld (.NET_IP_ADDR p)) g 2 1 [0x94, 0x04, 0x00, 0x00] (body (inetChecksum (body 0)))
  (s.sendPair p 1 s.now (s.taggedFrame (mcastAddr g) 0 0x0800 pkt)).usedFree

/-- Reports on pairs 1 and 2, with NET_CTRL.IGMP set. -/
def State.igmpReports (s : State) : State :=
  if s.flag .NET_CTRL_IGMP then (s.igmpReport 1).igmpReport 2 else s

/-! ### CAN -/

def State.canBus (s : State) (b : Nat) : Can := Sparse.at {} s.net.can b
def State.setCan (s : State) (b : Nat) (f : Can → Can) : State :=
  { s with net := { s.net with can := Sparse.mod {} s.net.can b f } }

/-- The order of arbitration: the lower base identifier, a standard frame before an extended one, the lower extension; then map
frames before the host's (R373). -/
def CanTx.key (x : CanTx) : Nat :=
  ((if x.f.xtd then 2 * x.f.id + 1 else x.f.id % 2048 * 524288) * 2) + b2n (!x.map)

/-- May a bus send: in use, not listening, not off (R371, R384)? -/
def State.canSends (s : State) (b : Nat) : Bool :=
  s.flag (.CAN_CTRL_EN b) && !s.flag (.CAN_CTRL_LISTEN b) && decide (s.fld (.CAN_STAT_STATE b) ≤ 1)

/-- The frame of an idle bus that goes to arbitration: the first of the lowest key. -/
def State.canNext (s : State) (b : Nat) : State :=
  let c := s.canBus b
  if c.sending.isSome ∨ !s.canSends b then s
  else match c.pend.find? fun x => c.pend.all fun y => decide (x.key ≤ y.key) with
    | some x => s.setCan b fun c => { c with pend := c.pend.erase x, sending := some x }
    | none => s

/-- A frame becomes pending. -/
def State.canQueue (s : State) (b : Nat) (x : CanTx) : State :=
  (s.setCan b fun c => { c with pend := c.pend ++ [x] }).canNext b

/-- A commit writes EN of a bus (R371): 0 stops it, 1 after 0 starts it. -/
def State.canEnable (s : State) (b : Nat) (was : Bool) : State :=
  let en := s.flag (.CAN_CTRL_EN b)
  if en = was then s
  else if en then (((s.put (.CAN_STAT_STATE b) 0).put (.CAN_STAT_TEC b) 0).put (.CAN_STAT_REC b) 0).canNext b
  else (s.put (.CAN_STAT_STATE b) 3).setCan b fun c =>
    { c with pend := c.sending.toList ++ c.pend, sending := none }

/-! ### Board management (R382) -/

def State.setBmi (s : State) (f : Bmi → Bmi) : State := { s with net := { s.net with bmi := f s.net.bmi } }

/-- The bytes a host write sends: N + 1, the first in [7:0]. -/
def State.xferBytes (s : State) : List Byte := leBytes (s.fld .BMI_XFER_N + 1) (s.fld .BMI_XDATA_DATA)

/-- The next transfer of an idle port: the host's before the next poll, polls in ascending order, a VOUT_MODE read before its entry's
polls (R382). -/
def State.bmiNext (s : State) : State :=
  let b := s.net.bmi
  if !s.flag .BMI_CTRL_EN ∨ b.running.isSome then s
  else if b.waiting then
    (s.setBmi fun x => { x with waiting := false, running := some 32 }).send
      (.i2c (s.fld .BMI_XFER_ADDR) (s.flag .BMI_XFER_RD) (s.fld .BMI_XFER_CMD) (if s.flag .BMI_XFER_RD then [] else s.xferBytes))
  else match (List.range 16).flatMap (fun n => [16 + n, n]) |>.find? fun k => b.due.contains k with
    | some k =>
      let n := k % 16
      (s.setBmi fun x => { x with due := x.due.filter (· != k), running := some k }).send
        (.i2c (s.fld (.BMI_POLL_ADDR n)) true (if k < 16 then s.fld (.BMI_POLL_CMD n) else 0x20) [])
    | none => s

/-- An entry of LINEAR16 is enabled: its exponent is read from VOUT_MODE (R382). -/
def State.askExponent (s : State) (n : Nat) : State :=
  (s.setBmi fun x => { x with due := addOnce x.due (16 + n), expo := Sparse.put none x.expo n none }).bmiNext

end Sys2Proof.Machine
end

