-- ==== Sys2Proof/Machine/SafeCmd.lean ====
section
/-! DEFINITION. Station frames as the device builds and numbers them (R234, R235, R239, R248), the station table (R241), and
the safe commands (R249). -/

namespace Sys2Proof.Machine

/-- A station cycle in ns (STN_CYCLE: cycles start at the multiples of it in PTP time). -/
def State.cycleNs (s : State) : Nat := s.fld .STN_CYCLE_MS * 1000000
/-- The start of the present station cycle. -/
def State.cycleStart (s : State) : Nat := s.now / max 1 s.cycleNs * s.cycleNs
/-- The instant of the snapshot within a cycle. -/
def State.snapOffset (s : State) : Nat := clampNat 1000 (s.fld .STN_CYCLE_MS * 1000 - 1000) (s.fld .STN_SNAP_US) * 1000

def State.station (s : State) (id : Nat) : Station := Sparse.at {} s.stn.stations id
def State.setStation (s : State) (id : Nat) (f : Station → Station) : State :=
  { s with stn := { s.stn with stations := Sparse.mod {} s.stn.stations id f } }

/-! ### The station table (R241) -/

/-- A 32-bit word of station entry id. -/
def State.stnWord (s : State) (id off : Nat) : Nat := (s.word ((s.fld .STN_TABLE_BASE + 32 * id + off) / 4)).toNat
/-- Is a station enabled in the table? -/
def State.stnEnabled (s : State) (id : Nat) : Bool :=
  s.fld .STN_TABLE_BASE != 0 && decide (id < 1024) && bitOf (s.stnWord id 0) 0
def State.stnTag (s : State) (id : Nat) : Bool := bitOf (s.stnWord id 0) 1
def State.stnKey (s : State) (id : Nat) : BitVec 128 := Sparse.at 0 s.stn.keys (bitsOf (s.stnWord id 0) 9 2)
def State.stnUid (s : State) (id : Nat) : Nat := s.stnWord id 4 + 4294967296 * s.stnWord id 8
def State.stnMeas (s : State) (id : Nat) : Nat := s.stnWord id 0x10 % 65536
def State.stnCmd (s : State) (id : Nat) : Nat := s.stnWord id 0x10 / 65536
/-- Word k of the measurement or command point record n of a station. -/
def State.measRec (s : State) (id n k : Nat) : Word := s.word (s.stnWord id 0x14 / 4 + 4 * n + k)
def State.cmdRec (s : State) (id n k : Nat) : Word := s.word (s.stnWord id 0x18 / 4 + 2 * n + k)

/-! ### Frames -/

/-- The first number of a cycle's frames in a sequence: 64 numbers each cycle (R248). -/
def State.cycleSeq (s : State) (cycle : Nat) : Nat := cycle / max 1 s.cycleNs % 2 ^ 26 * 64

/-- A station frame with header, payload and tag (R235). -/
def State.stnFrame (s : State) (id kind flags seq cycle : Nat) (tag : Bool) (payload : List Byte) : List Byte :=
  let h := [0x57, 0x53, 0x01] ++ leBytes 1 s.pos ++ leBytes 2 s.stn.tripletId ++ leBytes 2 id ++ leBytes 4 seq ++
    leBytes 8 cycle ++ leBytes 1 kind ++ leBytes 1 (flags + if tag then 8 else 0) ++ leBytes 2 payload.length ++ leBytes 4 0
  let body := h ++ wordBytes (crc32 (h ++ payload)) ++ payload
  body ++ if tag then stationTag (s.stnKey id) body else []

/-- A station frame to the address its station's last accepted Join came from, for launch from a queue (R234). -/
def State.sendStation (s : State) (id q launch : Nat) (frame : List Byte) : State :=
  let x := s.station id
  let p := x.rxMac / 2
  let pkt := s.udpPacket (s.fld (.NET_IP_ADDR p)) x.ip.toNat (s.fld .STN_PORT_PORT) frame
  (s.sendPair p q launch (s.taggedFrame (beBytes 6 x.mac) (s.fld .STN_PORT_PCP) 0x0800 pkt)).usedFree

/-- A point entry (R239). -/
def pointEntry (pt flags type : Nat) (v : Word) : List Byte := leBytes 2 pt ++ leBytes 1 flags ++ leBytes 1 type ++ wordBytes v

/-- Entries in frames of at most 178 (R239), with the number of frames. -/
def chunksOf (n : Nat) : Nat → List α → List (List α)
  | 0, _ => []
  | k + 1, l => if l.isEmpty then [] else l.take n :: chunksOf n k (l.drop n)

/-- The frames of a Command: index, count, entries (R239). The flags of a frame are the OR of those of its points (R235). -/
def State.commandFrames (s : State) (id seq cycle : Nat) (safety : Bool) (es : List (Nat × Nat × Word)) : List (List Byte) :=
  let cs := chunksOf 178 16 es
  cs.zipIdx.map fun c =>
    let fl := c.1.foldl (fun acc e => acc ||| (e.2.1 % 4)) 0
    s.stnFrame id 0x10 (b2n safety + 2 * fl) (seq + c.2) cycle (s.stnTag id)
      ([BitVec.ofNat 8 c.2, BitVec.ofNat 8 cs.length, 0, 0] ++
        c.1.flatMap fun e => pointEntry e.1 e.2.1 (Config.cmdType id e.1 % 3) e.2.2)

/-! ### Safe commands -/

/-- The safety points of a station at their SAFE values. -/
def State.safePoints (s : State) (id : Nat) : List (Nat × Nat × Word) :=
  ((List.range (s.stnCmd id)).filter fun n => bitOf (s.cmdRec id n 0).toNat 24).map fun n => (n, 0, s.cmdRec id n 1)

/-- The safe command of a station made ready in its network-domain buffer, with the number it would be given now, from 32 on within the
cycle; one without a safety point is a frame of no entries (R248, R249). -/
def State.prepareSafe (s : State) (id : Nat) : State :=
  let c := s.cycleStart
  let seq := s.cycleSeq c + 32 + (s.station id).extra
  let fs := s.commandFrames id seq c true (s.safePoints id)
  let none := s.stnFrame id 0x10 1 seq c (s.stnTag id) [0, 1, 0, 0]
  s.setStation id fun x => { x with safe := if fs.isEmpty then [none] else fs }

/-- The prepared safe command sent from launch queue 0, without a read of the Basin, and the next one made ready (R118, R249). -/
def State.safeCommand (s : State) (id launch : Nat) : State :=
  let fs := (s.station id).safe
  ((fs.foldl (fun t f => t.sendStation id 0 launch f) s).setStation id fun x =>
    { x with extra := x.extra + fs.length }).prepareSafe id

/-- Is a station Live or Absent, with the station manager running (R246)? -/
def State.commanded (s : State) (id : Nat) : Bool :=
  s.flag .STN_CTRL_EN && s.stnEnabled id && ((s.station id).state == 3 || (s.station id).state == 4)

/-- The safety-flagged safe commands sent at once on entry to Safe (R249). -/
def State.safeCommands (s : State) : State :=
  (s.stn.stations.map Prod.fst).foldl (fun t id => if t.commanded id then t.safeCommand id t.now else t) s

end Sys2Proof.Machine
end

