-- ==== Sys2Proof/Machine/Errors.lean ====
section
/-! DEFINITION. The error manager (R91 to R97, R104 to R106) and what its class actions do: entry into Safe (R98 to
R100), sidelining (R46, R57), the simplex survivor and the triplet faults (R56). -/

namespace Sys2Proof.Machine

/-! ### Class, source, log -/

/-- Causes that name a block and not a lane: the common causes of R106. -/
def commonCause (cause : Nat) : Bool := decide (0xE0 ≤ cause) && decide (cause ≤ 0xEF)

/-- The pages whose blocks have lanes (CAP.LANES, R433): SLC, LOP, ADC, AIN, AOU, DIO, TRP. -/
def lanePages : List Nat := [0x0B, 0x0C, 0x13, 0x14, 0x15, 0x16, 0x17]

/-- Is an event's source a lane (R93; assumption 14)? -/
def Event.lane (e : Event) : Bool := lanePages.contains e.page && !commonCause e.cause

/-- The 24-bit source: page in [23:16], index in [15:0] (R91). -/
def Event.src (e : Event) : Nat := e.page * 0x10000 + e.idx % 0x10000

/-- Do two events come from one source? -/
def Event.sameSrc (e f : Event) : Bool := e.page == f.page && e.idx % 0x10000 == f.idx % 0x10000

/-- The running or suspended handler of a class. -/
def State.slot (s : State) (c : Nat) : Option Event := Sparse.at none s.err.slots c
/-- The queue of a class. -/
def State.queue (s : State) (c : Nat) : List Event := Sparse.at [] s.err.queues c
def State.setSlot (s : State) (c : Nat) (e : Option Event) : State :=
  { s with err := { s.err with slots := Sparse.put none s.err.slots c e } }
def State.setQueue (s : State) (c : Nat) (q : List Event) : State :=
  { s with err := { s.err with queues := Sparse.put [] s.err.queues c q } }

/-- Is an event of a class pending: active, suspended or queued (R104)? -/
def State.pends (s : State) (c : Nat) : Bool := (s.slot c).isSome || !(s.queue c).isEmpty

/-- The highest pending class; 0 also when none (R104). -/
def State.pendMax (s : State) : Nat :=
  if s.pends 4 then 4 else if s.pends 3 then 3 else if s.pends 2 then 2 else if s.pends 1 then 1 else 0

/-- Is any event pending? -/
def State.pendAny (s : State) : Bool := s.pends 0 || s.pends 1 || s.pends 2 || s.pends 3 || s.pends 4

/-- ERR_HEALTH (R102, R104): margin as held, failed self-tests, highest pending class, any pending. -/
def State.errHealth (s : State) : Nat :=
  s.fld .ERR_HEALTH_MARGIN * 0x1000000 + popCount 8 (s.reg 0x5074).toNat * 0x10000 + s.pendMax * 0x100 +
    b2n s.pendAny

/-- A Sediment Health record (R393); the counts since the last one start again. -/
def State.healthRecord (s : State) : State :=
  let t := s.enqueue (s.mkRec 6 s.now 0
    [w32 (modeCode s.mode + s.pendMax * 0x100 + (s.role 1 + 8 * s.role 2 + 64 * s.role 3) * 0x10000),
     w32 s.errHealth, s.reg 0x5074, w32 s.sed.eccCe,
     w32 (s.sed.eccUe % 0x10000 + (twos 8 (signed 16 (s.fld .PWR_TEMP_CORE) / 10)) * 0x10000 +
       (twos 8 (signed 16 (s.fld .PWR_TEMP_FIELD) / 10)) * 0x1000000),
     w32 s.sed.cycMax, w32 s.sed.dropped, w32 s.sed.suppressed, 0, 0, 0])
  { t with sed := { t.sed with eccCe := 0, eccUe := 0, cycMax := 0, dropped := t.sed.dropped - s.sed.dropped,
                               suppressed := 0 } }

/-- A change of the highest pending class writes a Health record (R102). -/
def State.healthIf (s t : State) : State := if s.pendMax = t.pendMax then t else t.healthRecord

/-- An event is logged (R91, R104): the log of 64 entries, the count of its class, its Condition record (of class
E0 only while SED_CTRL.E0 is 1; the saturation alarm of a loop has its own, R389), interrupt source EVT of its page (R434). -/
def State.logEvent (s : State) (e : Event) : State :=
  let full := decide (64 ≤ s.err.log.length)
  let s1 := if full then s.bump .ERR_LOG_CNT_LOST else s
  let s2 := { s1 with err := { s1.err with log := (if full then s1.err.log.drop 1 else s1.err.log) ++ [(e, s.now)] } }
  let s3 := (s2.bump (.ERR_COUNT_CNT e.cls)).irq e.page 1
  if (e.cls = 0 && !s3.flag .SED_CTRL_E0) || (e.page = 0x0C && e.cause = 5) then s3
  else s3.condition (0x8000 + 0x100 * e.page + e.cause) 2 e.cls e.src e.detail

/-- Is an event assigned to the error task (R95, R104)? With no error task declared none is. -/
def State.assigned (s : State) (e : Event) : Bool :=
  s.flag .SCN_STAT_ETASK && (e.cls == 1 || e.cls == 2) &&
    bitOf (s.fld (.ERR_ASSIGN_PAGES ((e.cls - 1) * 2 + e.page / 32))) (e.page % 32)

/-! ### Entry into Safe -/

/-- The code of WIR_SAFE_CAUSE for the event that causes an entry into Safe (R105). R105 names none for an
injected E3: the value is free (assumption 15). -/
def Event.safeCause (e : Event) : Nat :=
  if e.cls = 4 then 9 else if e.esc then 12 else if e.cause = 0xFF then (Config.injectedCause e.src).toNat
  else if e.page = 0x05 then
    (if e.cause = 1 then 1 else if e.cause = 2 then 2 else if e.cause = 3 then 3 else if e.cause = 4 then 5
     else if e.cause = 5 then 6 else 0)
  else if e.page = 0x0D ∧ e.cause = 7 then 4
  else if e.page = 0x01 then 7
  else if e.page = 0x02 then 10
  else if e.page = 0x0A then 11
  else 0

/-- WIR_SAFE_CAUSE written. -/
def State.setSafeCause (s : State) (cls cause src : Nat) : State :=
  ((s.put .WIR_SAFE_CAUSE_CLASS cls).put .WIR_SAFE_CAUSE_CAUSE cause).put .WIR_SAFE_CAUSE_SRC src

/-- The force key lapses on leaving Run or Degraded (R230). -/
def State.dropKey (s : State) : State := s.putB .SCN_STAT_KEY_OK false

/-- The scan engine is to stop: it finishes the cycle in progress without voting (R100). -/
def State.stopScan (s : State) : State :=
  let t := s.putB .SCN_STAT_RUN false
  if t.fld .SCN_STAT_PHASE = 6 then t.put .SCN_STAT_PHASE 0 else t

/-- Entry into Safe by a trigger of R392, with WIR_SAFE_CAUSE (R98, R100, R24); a mode group of the same Weir cycle has lost to the
trigger (R19). In Safe already only the cause changes, for an E3 or E4 (R105). -/
def State.enterSafe (s : State) (trigger cls cause src : Nat) : State :=
  if s.mode = .sleep ∨ s.mode = .frozen then s
  else if s.mode = .safe then s.setSafeCause cls cause src
  else
    let old := modeCode s.mode
    let s0 := ((if cls = 0 then s else s.loseMode).abortAll 2).abortRuns.stopLoops.stopTests.stopScan
    let s1 := if s.live then s0.dropKey else s0
    let s2 := ({ s1 with mode := .safe }.put .SYS_MODE_STARTUP 0).setSafeCause cls cause src
    (s2.safeField.safeCommands).modeRecord old 4 trigger 0

/-! ### Raising -/

/-- A source's events removed from every slot and queue. -/
def State.dropSource (s : State) (e : Event) : State :=
  forN 4 (fun c t =>
    let t1 := match t.slot c with
      | some f => if f.sameSrc e then t.setSlot c none else t
      | none => t
    t1.setQueue c ((t1.queue c).filter fun f => !f.sameSrc e)) s

/-- The highest class at which an event of the same source is active, suspended or queued. -/
def State.sameClass (s : State) (e : Event) : Option Nat :=
  [4, 3, 2, 1, 0].find? fun c =>
    (match s.slot c with | some f => f.sameSrc e | none => false) || (s.queue c).any fun f => f.sameSrc e

/-- The class action of an E3 on this member (R91, R18, R57): start-up, position S and the simplex survivor enter
Safe; a member of a triplet is sidelined, cause device fault. Its groups abort with RESULT ROLE, since it takes the role Sidelined before
it enters Safe: R76 and R100 both name a RESULT for them (assumption 86). -/
def State.actE3 (s : State) (e : Event) : State :=
  if s.mode = .startUp ∨ s.pos = 0 ∨ s.flag .WIR_VOTE_STAT_SIMPLEX then s.enterSafe 2 3 e.safeCause e.src
  else
    let s1 := ((s.loseMode.takeRole 4).put .WIR_SIDELINE_CAUSE 6).put .WIR_SIDELINE_POS s.pos
    s1.enterSafe 3 3 e.safeCause e.src

/-- Does an E2 restart its block at the next edge: a common cause of a block that keeps state in the Basin, or RX_MINORITY? The scan
engine's own causes have restarted it already (R93, R210). -/
def Event.restarts (e : Event) : Bool := e.cls == 2 && (commonCause e.cause || e.page == 0x0E)

/-- Is a lane latched at its safe value by an E2 (R93)? -/
def State.laneLatched (s : State) (page idx : Nat) : Bool := s.err.latched.contains (page, idx)

/-- The class action at an event's activation: E2 of a lane latches it, that of a block restarts it (R91, R93); E3 and E4 as R91. -/
def State.actEvent (s : State) (e : Event) : State :=
  if e.cls = 2 then
    (if e.lane then { s with err := { s.err with latched := addOnce s.err.latched (e.page, e.idx) } }
     else if e.restarts then { s with err := { s.err with restarts := addOnce s.err.restarts (e.page, e.idx) } }
     else s)
  else if e.cls = 3 then s.actE3 e
  else if e.cls = 4 then s.enterSafe 4 4 9 e.src
  else s

/-- Does an event's handling end with its class action (R95)? E0; an unassigned E1; an unassigned E2 of a lane. -/
def State.endsAtOnce (s : State) (e : Event) : Bool :=
  e.cls == 0 || (!s.assigned e && (e.cls == 1 || (e.cls == 2 && e.lane)))

/-- No handler of a class or above is active or suspended. -/
def State.freeFrom (s : State) (c : Nat) : Bool := [0, 1, 2, 3, 4].all fun k => decide (k < c) || (s.slot k).isNone

/-- An event starts: its class action, and its handler unless handling ends at once. -/
def State.startEvent (s : State) (e : Event) : State :=
  let t := s.actEvent e
  if s.endsAtOnce e then t else t.setSlot e.cls (some e)

/-- Queued events start while their class and every higher one have no handler, highest class first (R94
rule 3). -/
def State.drain : Nat → State → State
  | 0, s => s
  | n + 1, s =>
    match [3, 2, 1, 0].find? fun c => !(s.queue c).isEmpty && s.freeFrom c with
    | none => s
    | some c => match s.queue c with
      | e :: r => State.drain n ((s.setQueue c r).startEvent e)
      | [] => s

/-- The drain with as many turns as events can be queued. -/
def State.settle (s : State) : State := State.drain 32 s

/-- The class at which an event is raised, with ESC, by the depth of the queues (R94 rule 4). -/
def State.overflow (s : State) : Nat → Event → State × Event
  | 0, e => (s, e)
  | n + 1, e =>
    if e.cls < 4 && !(s.freeFrom e.cls && (s.queue e.cls).isEmpty) && decide (8 ≤ (s.queue e.cls).length) then
      State.overflow (s.bump .ERR_ESC_OVF) n { e with cls := e.cls + 1, esc := true }
    else (s, e)

/-- Is any member of the triplet sidelined or lost (R94 rule 6)? -/
def State.memberOut (s : State) : Bool :=
  [1, 2, 3].any (fun p => s.role p == 4) || [0, 1].any fun k => (s.peer k).lost

/-- An E3 raised in a triplet while any member is sidelined or lost is an E4 (R94 rule 6), unless the image sets SIMPLEX_SURVIVE: then
the rule yields to R56 (R103). ESC stays as rules 4 and 5 left it (assumption 86). -/
def State.secondE3 (s : State) (e : Event) : Event :=
  if e.cls = 3 ∧ s.pos ≠ 0 ∧ !s.flag .SYS_BOOT_STAT_SIMPLEX_SURVIVE ∧ s.memberOut then { e with cls := 4 } else e

/-- An event reaches the error manager (R94): escalation, log, activation or queue; an E3 or E4 in Safe replaces WIR_SAFE_CAUSE, even
where it is queued (R105). With the class it was raised at in the end. -/
def State.raiseAs (s : State) (e : Event) : State × Nat :=
  let (s1, e1) : State × Event := match s.sameClass e with
    | some c => ((s.dropSource e).bump .ERR_ESC_SAME, { e with cls := min 4 (max c e.cls + 1), esc := true, time := s.now })
    | none => (s, { e with time := s.now })
  let (s2, e2) := s1.overflow 4 e1
  let e3 := s2.secondE3 e2
  let logged := s2.logEvent e3
  let s3 := if logged.mode = .safe ∧ 3 ≤ e3.cls then logged.setSafeCause e3.cls e3.safeCause e3.src else logged
  let s4 := if e3.cls = 4 then s3.startEvent e3
    else if s3.freeFrom e3.cls && (s3.queue e3.cls).isEmpty then s3.startEvent e3
    else s3.setQueue e3.cls (s3.queue e3.cls ++ [e3])
  (s.healthIf s4.settle, e3.cls)

/-- As raiseAs, the state alone. -/
def State.raise0 (s : State) (e : Event) : State := (s.raiseAs e).1

/-- A rejoin in progress fails with a FAIL code (R61): the Failed phase, an E1 REJOIN_FAIL of the joiner's position,
the joiner back to Joining or Sidelined, its groups aborted (R76) and its slots out of their shadow (R186). -/
def State.rejoinFail (s : State) (fail : Nat) : State :=
  let ph := s.fld .SIB_REJOIN_STAT_PHASE
  if ph = 0 ∨ 5 ≤ ph then s
  else
    let p := if s.role s.pos = 3 then s.fld .SIB_REJOIN_ADMIT_POS else s.pos
    let s1 := (s.put .SIB_REJOIN_STAT_FAIL fail).put .SIB_REJOIN_STAT_PHASE 6
    let s2 := if s1.role p ≠ 2 then s1
      else if p = s1.pos then (s1.takeRole (if s1.mode = .startUp then 1 else 4)).stopLoops
      else s1.setRole p 1
    let s3 := if p = s2.pos ∧ s2.mode = .startUp then s2.put .SYS_MODE_STARTUP 6 else s2
    s3.raise0 { cls := 1, page := 0x06, idx := p, cause := 3, detail := fail }

/-- Source page and index of a requester (R106, R111). -/
def reqSource (r : Nat) : Nat × Nat :=
  if r ≤ 3 then (0x0A, r) else if r = 4 then (0x0C, 0) else if r = 5 then (0x0D, 0) else if r = 6 then (0x0A, 0)
  else if r = 7 then (0x19, 0) else if r = 8 then (0x2B, 0) else if r = 9 then (0x2E, 0) else if r = 10 then (0x06, 0)
  else (0x13, 0)

/-- What a discarded write records, and its E1: RO_DISCARD with BSN_DISCARD (R109), or TXN_DISCARD with code 0x1B for a transactional
region (R72). -/
def State.discardOf (s : State) (r w : Nat) : State × Event :=
  let e := fun (cause : Nat) => ({ cls := 1, page := (reqSource r).1, idx := (reqSource r).2, cause := cause, detail := w } : Event)
  match s.attrs w with
  | some (true, false) => (s.refuse 0x08 0x1B w, e 0xE2)
  | _ => ((s.put .BSN_DISCARD_REQ r).put .BSN_DISCARD_WADDR w, e 0xE3)

/-- The discarded writes of an operation that raised no event itself raise theirs. -/
def State.discardEvents (s : State) : State :=
  s.bsn.discards.foldl (fun t d => let x := t.discardOf d.1 d.2; x.1.raise0 x.2) { s with bsn := { s.bsn with discards := [] } }

/-- An event of a block: class, page, index, cause, DETAIL of 24 bits. An event of a joiner that is an E2 or higher, by itself or
escalated, ends its rejoin (R61), and the E1 DROP that the event's own record may cause follows it (R395). -/
def State.raise (s : State) (cls page idx cause detail : Nat) : State :=
  let (t, raised) := s.raiseAs { cls := cls, page := page, idx := idx, cause := cause, detail := detail % 0x1000000 }
  let u := (if 2 ≤ raised ∧ s.pos ≠ 0 ∧ s.role s.pos ≠ 3 then t.rejoinFail 4 else t).discardEvents
  if u.sed.dropDue then
    { u with sed := { u.sed with dropDue := false } }.raise0
      { cls := 1, page := 0x2E, idx := 0, cause := 1, detail := u.sed.dropCnt }
  else u

/-- After a record has been produced outside the error manager, the E1 DROP it may have caused (R395). -/
def State.dropCheck (s : State) : State :=
  if s.sed.dropDue then { s with sed := { s.sed with dropDue := false } }.raise 1 0x2E 0 1 s.sed.dropCnt else s

/-- The running handler: that of the highest class (R94 rule 3). -/
def State.runningClass (s : State) : Option Nat := [4, 3, 2, 1, 0].find? fun c => (s.slot c).isSome

/-- The handler of a class completes; suspended and queued events follow (R94 rule 3, R95). E3 and E4 stay
pending. -/
def State.completeClass (s : State) (c : Nat) : State :=
  if c = 3 ∨ c = 4 then s else s.healthIf (s.setSlot c none).settle

/-! ### Roles and sidelining -/

/-- The mode between voters: three voting members make Run, two or a survivor Degraded (R18). -/
def State.runMode (s : State) : Mode :=
  if s.pos = 0 then .run else if s.voters = 3 then .run else .degraded

/-- A sidelining recorded on this member (R57, R389): WIR_SIDELINE and the Condition record SIDELINE; one by R46, R48,
R52, R55, R56 or R82 also has a log entry of class E3, logged only (R46). -/
def State.recordSideline (s : State) (p cause : Nat) : State :=
  let e : Event := { cls := 3, page := 0x06, idx := p, cause := 2, detail := cause * 16 }
  let s1 := (s.put .WIR_SIDELINE_CAUSE cause).put .WIR_SIDELINE_POS p
  let s2 := if cause = 6 ∨ cause = 7 then s1 else s1.logEvent e
  s2.condition 0x8580 2 0xFF (0x050000 + p) cause

/-- A member is sidelined (R57): its role; this member into Safe if it is the one, else from Run into Degraded with a
Mode change record; a rejoin fails with it (R61). The isolation bits follow at the next base tick. -/
def State.sideline (s : State) (p cause : Nat) : State :=
  if s.pos = 0 ∨ p = 0 ∨ s.role p = 4 then s
  else
    let wasVoting := s.role p == 3
    let s1 := (s.setRole p 4).recordSideline p cause
    let s2 := if wasVoting then s1.rejoinFail 5 else s1
    if p = s.pos then ((s2.loseMode.abortAll 9).enterSafe 3 3 8 (0x060000 + p)).discardEvents
    else if s2.mode = .run ∧ wasVoting then
      ({ s2 with mode := .degraded }).modeRecord 2 3 5 0
    else s2

/-- A voting member in Run or Degraded has lost its only sibling, which had announced its exit (R56): with SIMPLEX_SURVIVE it goes on
alone, else that is an E4. A retirement and an E3 count as an announced exit (R40; assumption 86). -/
def State.soleVoter (s : State) (p : Nat) : State :=
  if s.pos = 0 ∨ p = s.pos ∨ s.role s.pos ≠ 3 ∨ !s.votingSibs.isEmpty ∨ s.flag .WIR_VOTE_STAT_SIMPLEX ∨ !s.live then s
  else if s.flag .SYS_BOOT_STAT_SIMPLEX_SURVIVE then (s.putB .WIR_VOTE_STAT_SIMPLEX true).isoSwitches
  else s.raise 4 0x05 0 0x0A p

/-! ### Commands -/

/-- A command that needs the core domains running: while they do not run it does nothing (R16, R27, R416). -/
def coreAct (s : State) (f : State → State) : Host.Outcome State Fault Refusal :=
  effect s (if s.awake then f s else s)

end Sys2Proof.Machine
end

