-- ==== Sys2Proof/Machine/Access.lean ====
section
/-! DEFINITION. Basin accesses of a requester that is not the transaction unit (R72, R109, R111). -/

namespace Sys2Proof.Machine

/-- Has an image been applied (SYS_BOOT_STAT.RESULT 1 to 4)? -/
def State.applied (s : State) : Bool :=
  decide (1 ≤ s.fld .SYS_BOOT_STAT_RESULT) && decide (s.fld .SYS_BOOT_STAT_RESULT ≤ 4)

/-- A write discarded because of RO or because no region holds the address (R109). -/
def State.roDiscard (s : State) (r w : Nat) : State :=
  ((s.put .BSN_DISCARD_REQ r).put .BSN_DISCARD_WADDR w).raise 1 (reqSource r).1 (reqSource r).2 0xE3 w

/-- A write discarded because its region is transactional (R72). -/
def State.txnDiscard (s : State) (r w : Nat) : State :=
  (s.refuse 0x08 0x1B w).raise 1 (reqSource r).1 (reqSource r).2 0xE2 w

/-- May the host stage a boot image at a word address: banks 8 to 15 until an image is applied (R30, R109)? -/
def State.staging (s : State) (w : Nat) : Bool := !s.applied && decide (0x800000 ≤ w) && decide (w < 0x1000000)

/-- A requester writes a Basin word (R72, R109). -/
def State.reqWrite (s : State) (r w : Nat) (v : Word) : State :=
  if s.staging w then s.setWord w v
  else match s.attrs w with
    | none => s.roDiscard r w
    | some (_, true) => s.roDiscard r w
    | some (true, false) => s.txnDiscard r w
    | some (false, false) => s.setWord w v

/-- An ECC find of a read (R110): an uncorrectable word, or a corrected one, at a word address, against the source given. What an
uncorrectable word holds then the spec does not say: a free value (assumption 89). -/
def State.eccFind (s : State) (page idx : Nat) (ue : Bool) (w : Nat) : State :=
  if ue then
    ((({ s with sed := { s.sed with eccUe := s.sed.eccUe + 1 } }.bump .BSN_ECC_UE).put .BSN_ECC_ADDR_WADDR w).setWord w
      (s.freeVal.setWidth 32)).usedFree.raise 2 page idx 0xE1 w
  else ({ s with sed := { s.sed with eccCe := s.sed.eccCe + 1 } }.bump .BSN_ECC_CE).raise 0 page idx 0xE4 w

/-- A requester's read with the error it finds, if any: an uncorrectable word reaches it with the error marked (R110). -/
def State.readFinds (s : State) (r : Nat) (ecc : Option (Bool × Nat)) : State :=
  let mark := fun (t : State) (m : Option Nat) => { t with bsn := { t.bsn with marked := Sparse.put none t.bsn.marked r m } }
  match ecc with
  | some (ue, w) => (mark s (if ue then some w else none)).eccFind (reqSource r).1 (reqSource r).2 ue w
  | none => mark s none

/-- The mask domains of a requester (R111). -/
def maskDomains (r : Nat) : List Nat :=
  if r ≤ 3 then [5] else match r with
    | 4 => [4]
    | 5 => [3]
    | 6 => [5]
    | 7 => [7]
    | 8 => [9]
    | 9 => [10]
    | 10 => [2]
    | _ => [11, 12]

/-- Does a requester of a domain hold a locked sequence (R114)? -/
def State.holdsLock (s : State) (d : Nat) : Bool :=
  (List.range 16).any fun b => match Sparse.at none s.bsn.locks b with
    | some l => (maskDomains l.owner).contains d
    | none => false

/-- A requester writes Basin words from a word address up. -/
def State.reqWords (s : State) (r w : Nat) (vs : List Word) : State :=
  (vs.foldl (fun (t : State × Nat) v => (t.1.reqWrite r t.2 v, t.2 + 1)) (s, w)).1

/-- A requester writes whole words given as bytes, from a byte address up. -/
def State.reqBytes (s : State) (r a : Nat) (bs : List Byte) : State := s.reqWords r (a / 4) (bytesWords bs)

/-- What a requester reads from a Basin word: a word of a solver's result window from its published half (R162), 0 outside every
region (R109). -/
def State.reqRead (s : State) (w : Nat) : Word :=
  if s.staging w || (s.attrs w).isSome then s.image w else 0

/-- A requester writes bytes from a byte address up: each word touched once, its other bytes kept. -/
def State.reqSpan (s : State) (r a : Nat) (bs : List Byte) : State :=
  forN ((a % 4 + bs.length + 3) / 4) (fun k t =>
    let w := a / 4 + k
    t.reqWrite r w (BitVec.ofNat 32 (leNat ((List.range 4).map fun j =>
      if a ≤ 4 * w + j ∧ 4 * w + j < a + bs.length then bs.getD (4 * w + j - a) 0 else s.byte (4 * w + j))))) s

/-- What a requester reads from bytes up: the words that hold them. -/
def State.reqReadSpan (s : State) (a n : Nat) : List Word :=
  (List.range ((a % 4 + n + 3) / 4)).map fun k => s.reqRead (a / 4 + k)

/-- The bytes themselves. -/
def State.reqReadBytes (s : State) (a n : Nat) : List Byte := ((wordsBytes (s.reqReadSpan a n)).drop (a % 4)).take n

end Sys2Proof.Machine
end

