-- ==== Sys2Proof/Machine/Groups.lean ====
section
/-! DEFINITION. Commit groups up to their boundary: staging and its refusals (R71 to R74, R20, R22, R201, R229), opening,
arming and agreement (R75 to R80), abort votes (R83), superseding (R84). -/

namespace Sys2Proof.Machine

/-! ### Checks of what is staged -/

/-- Does the transition table of R18 allow a mode group's target from a mode? -/
def modeAllowed (m : Mode) (target : Nat) : Bool :=
  match target, m with
  | 0, .commission => true
  | 0, .safe => true
  | 1, .run => true
  | 1, .degraded => true
  | 1, .safe => true
  | 2, .commission => true
  | 4, .commission => true
  | 4, .run => true
  | 4, .degraded => true
  | _, _ => false

/-- The words of a force table entry as they will stand when a group commits: staged value, else committed
(R229). -/
def State.forceWord (s : State) (es : List (Target × Word)) (k j : Nat) : Word :=
  match entryOf ⟨true, 0x80000 + 4 * k + j⟩ es with
  | some v => v
  | none => s.word (0x80000 + 4 * k + j)

/-- The committed force table entry k, if it is valid (R226). -/
def State.forceEntry (s : State) (k : Nat) : Option Force :=
  let w := (s.word (0x80000 + 4 * k)).toNat
  if bitOf w 31 then
    some { ix := k, adr := bitsOf w 23 0, mask := s.word (0x80000 + 4 * k + 1), value := s.word (0x80000 + 4 * k + 2) }
  else none

/-- The valid entries of the force table, in ascending number. -/
def State.validForces (s : State) : List Force := (List.range 256).filterMap s.forceEntry

/-- Does a word and mask cover a bit that the TRP page maps to a trip channel (R229)? -/
def State.coversTrip (s : State) (adr mask : Nat) : Bool :=
  (List.range 8).any fun n => s.flag (.TRP_CFG_EN n) && s.fld (.TRP_CFG_WADDR n) == adr &&
    bitOf mask (s.fld (.TRP_CFG_BIT n))

/-- Does a group hold a mode request with target Run, and is it Armed or Agreed (R229, code 0x62)? -/
def State.runGroupArmed (s : State) : Bool :=
  (List.range 16).any fun g => ((s.group g).state == 2 || (s.group g).state == 3) &&
    (match entryOf modeTarget (s.group g).entries with | some v => v.toNat % 16 == 2 | none => false)

/-- Is a target a word of the force table? -/
def Target.isForce (t : Target) : Bool := t.basin && decide (0x80000 ≤ t.adr) && decide (t.adr < 0x80400)

/-- Does a group that is Open, Armed or Agreed hold force-table entries (R229, code 0x64)? -/
def State.forceStaged (s : State) : Bool :=
  (List.range 16).any fun g => (s.group g).state != 0 && (s.group g).state != 4 &&
    (s.group g).entries.any fun e => e.1.isForce

/-- Members that agree on configuration and version, this one among them (R22). -/
def State.agreeing (s : State) : Nat :=
  1 + b2n (s.flag (.SIB_PEER_CFG_AGREE 0) && s.flag (.SIB_PEER_VER_AGREE 0)) +
    b2n (s.flag (.SIB_PEER_CFG_AGREE 1) && s.flag (.SIB_PEER_VER_AGREE 1))

/-- Why a mode request is refused: the code for the SYS page's ERR_CODE (R20, R22, R229). -/
def State.modeRefusal (s : State) (target : Nat) : Option Nat :=
  if !modeAllowed s.mode target ∨ (target = 0 ∧ s.pends 3) then some 0x01
  else if target = 2 then
    if s.validForces.any fun f => s.coversTrip f.adr f.mask.toNat then some 0x03
    else if !s.validForces.isEmpty && !s.flag .SCN_STAT_KEY_OK then some 0x04
    else if s.flag .SYS_BOOT_STAT_TRIPLET && decide (s.agreeing < 2) then some 0x05
    else if s.forceStaged then some 0x64
    else none
  else none

/-- Why a staged write into the force table is refused (R229). -/
def State.forceRefusal (s : State) (g : Nat) (t : Target) (v : Word) : Option Nat :=
  if s.runGroupArmed then some 0x62
  else
    let es := putEntry t v (s.group g).entries
    let k := (t.adr - 0x80000) / 4
    let w0 := (s.forceWord es k 0).toNat
    if 0x80000 ≤ bitsOf w0 23 0 then some 0x63
    else if !bitOf w0 31 then none
    else if s.live && !s.flag .SCN_STAT_KEY_OK then some 0x60
    else if s.live && s.coversTrip (bitsOf w0 23 0) (s.forceWord es k 1).toNat then some 0x61
    else none

/-- Is a loop slot running (R186)? -/
def State.slotRuns (s : State) (n : Nat) : Bool := bitOf (s.fld (.LOP_RUNNING_RUN (n / 32))) (n % 32)

/-- A 32-bit word of generator record g (R202). -/
def State.genWord (s : State) (g off : Nat) : Nat := (s.word ((s.fld .LOP_TEST_BASE + 256 * g + off) / 4)).toNat

/-- Why a write of LOP_TEST with RUN = 1, or of LOP_CAP with ARM = 1, is refused (R201, LOP_CAP). -/
def State.loopRefusal (s : State) (adr : Nat) (v : Nat) : Option Nat :=
  if 0xC200 ≤ adr ∧ adr < 0xC220 ∧ bitOf v 31 then
    let g := (adr - 0xC200) / 4
    let kind := bitsOf v 29 27
    let order := bitsOf v 26 23
    if s.live && !s.flag .SCN_STAT_KEY_OK then some 0x50
    else if !s.slotRuns (bitsOf v 8 0) then some 0x51
    else if kind = 0 ∨ 4 < kind ∨ (kind = 2 ∧ (order < 7 ∨ 15 < order)) ∨ s.genWord g 8 = 0 ∨
        (kind = 3 ∧ s.genWord g 4 < 2) ∨ (kind = 4 ∧ (s.genWord g 0x18 = 0 ∨ 16 < s.genWord g 0x18)) then some 0x52
    else none
  else none

/-- Why a staged write to a register is refused by that register's own rule (R20, R22, R104, R201). The flag says
whether the refusal sets the group's REFUSED: those of a mode request do not (R73); that those with 0x31 and 0x50 to 0x52 do is the
model's choice (assumption 84). -/
def State.regRefusal (s : State) (adr : Nat) (v : Nat) : Option (Nat × Bool) :=
  if adr = 0x44 then (s.modeRefusal (v % 16)).map fun c => (c, false)
  else if adr = 0x708C then (if v % 8 = 4 then none else some (0x31, true))
  else (s.loopRefusal adr v).map fun c => (c, true)

/-- Is a target held by a group other than g and other than one that g supersedes (R73 code 0x12, R84)? -/
def State.heldElsewhere (s : State) (g : Nat) (t : Target) : Bool :=
  (List.range 16).any fun h => h != g && (s.group h).state != 0 && (entryOf t (s.group h).entries).isSome &&
    !(s.flag (.TXN_GRP_CFG_SUP_EN g) && s.fld (.TXN_GRP_CFG_SUP g) == h)

/-- The bank of a Basin target (R107). -/
def Target.bank (t : Target) : Nat := t.adr / 0x100000

/-- The general refusals of R73 for a write into an Open group. A Basin word outside every transactional region is staged like any
other: R73 names no code for it, and that is the model's choice (assumption 84). -/
def State.stageRefusal (s : State) (g : Nat) (t : Target) : Option Nat :=
  let es := (s.group g).entries
  if (s.group g).state ≠ 1 then some 0x11
  else if s.heldElsewhere g t then some 0x12
  else if (entryOf t es).isSome then none
  else if 4096 ≤ es.length then some 0x13
  else if t.basin && decide (64 ≤ (es.filter fun e => e.1.basin && e.1.bank == t.bank).length) then some 0x14
  else none

/-- Every reason against a staged write: code, and whether REFUSED sets (R73). -/
def State.stageWhyNot (s : State) (g : Nat) (t : Target) (v : Word) : Option (Nat × Bool) :=
  match if t.basin then none else s.regRefusal t.adr v.toNat with
  | some r => some r
  | none => match s.stageRefusal g t with
    | some c => some (c, true)
    | none => match if t.isForce then s.forceRefusal g t v else none with
      | some c => some (c, c != 0x64)
      | none => none

/-- A write staged into a group: the entry is put in place (R74). -/
def State.stageEntry (s : State) (g : Nat) (t : Target) (v : Word) (host : Bool) : State :=
  s.setGroup g fun x => { x with entries := putEntry t v x.entries, host := x.host || host }

/-- A register that the device alone stages (R184: SLC_PUB, SLC_SYNC_MARK). -/
def Target.deviceOnly (t : Target) : Bool :=
  !t.basin && ((decide (0xB160 ≤ t.adr) && decide (t.adr < 0xB170)) || (decide (0xB320 ≤ t.adr) && decide (t.adr < 0xB330)))

/-- A staged write, or its refusal: a write to a register that the device alone stages does nothing (R184; assumption 84). The code goes
to the ERR_CODE of the page given (for a mode request to the SYS page, R20), and the group's REFUSED sets where R73 says so. -/
def State.stage (s : State) (g : Nat) (t : Target) (v : Word) (host : Bool) (page : Nat) : State × Bool :=
  if t.deviceOnly then (s, false) else
  match s.stageWhyNot g t v with
  | none => (s.stageEntry g t v host, true)
  | some (c, flag) =>
    let s1 := s.refuse (if t = modeTarget ∧ !flag then 0 else page) c t.adr
    (if flag then s1.setGroup g fun x => { x with refused := true } else s1, false)

/-! ### Opening and arming -/

/-- The siblings' outcomes have counted for one use and count no more (R80): they are kept with their TIME, so that their repetition
is known. -/
def Group.retire (x : Group) : Group :=
  { x with lastOutcome := x.sibOutcome, sibOutcome := [],
           lastTime := x.sibLast.filterMap fun e => e.2.bind fun l => if l.2 = 0 then none else some (e.1, l.2) }

/-- The siblings' outcomes at an opening: those of a use not yet compared count no more; one that came since the comparison belongs to
the arming that follows. -/
def Group.newUse (x : Group) : Group := if x.outcome.isSome && !x.compared then x.retire else x

/-- The full PTP time nearest to a reference that a TIME of 58 bits stands for (R78, R80). -/
def widenTime (ref t : Nat) : Nat :=
  let b := ref / 2 ^ 58 * 2 ^ 58 + t
  if ref + 2 ^ 57 < b ∧ 2 ^ 58 ≤ b then b - 2 ^ 58 else if b + 2 ^ 57 < ref then b + 2 ^ 58 else b

/-- A group opened: Open, its entries and outcome of before cleared (R75). -/
def State.openNow (s : State) (g : Nat) (weir : Bool) : State :=
  s.setGroup g fun x => { x.newUse with state := 1, entries := [], refused := false, host := false, weir := weir, result := 0,
                                        hash := 0, bound := 0, sibVote := [] }

/-- May this member open groups by its role: not while Sidelined, Joining or Shadow (R76)? -/
def State.mayOpen (s : State) : Bool := s.pos == 0 || s.role s.pos == 3 || s.role s.pos == 0

/-- An open command; false where it is refused with code 0x1C in the page given (R76). -/
def State.openGroup (s : State) (g page : Nat) : State × Bool :=
  if (s.group g).state ≠ 0 ∨ !s.mayOpen then (s.refuse page 0x1C g, false) else (s.openNow g false, true)

/-- A group that the device opens for itself, under the conditions of an open command (R76). -/
def State.openOwn (s : State) (g : Nat) : State × Bool := s.openGroup g 0x08

/-- The first tick at or after t that lies on PHASE modulo PERIOD (R185). -/
def nextOn (period phase t : Nat) : Nat :=
  if period = 0 then t else t + (phase + period - t % period) % period

/-- The first multiple of a step at or after a time. -/
def nextMultiple (step t : Nat) : Nat := if step = 0 then t else (t + step - 1) / step * step

/-- The boundary proposed at arming (R77); kinds 1 and 2 take phase 5 of the scan cycle, or at position S the arm
command itself for kind 1. -/
def State.proposal (s : State) (g : Nat) : Nat :=
  let lead := s.now + s.fld .TXN_LEAD * 1000
  let slot := s.fld (.TXN_GRP_CFG_SLOT g)
  match s.kindOf g with
  | 3 => nextOn (s.slotPeriod slot) (s.slotPhase slot) ((lead + 249999) / 250000) * 250000
  | 4 => nextMultiple s.cycleNs lead
  | 5 => s.get64 (0x8100 + 8 * g) (0x8104 + 8 * g)
  | _ => s.now

/-- Why an arm command is refused (R76). -/
def State.armRefusal (s : State) (g : Nat) : Option Nat :=
  let x := s.group g
  let kind := s.kindOf g
  let at5 := s.get64 (0x8100 + 8 * g) (0x8104 + 8 * g)
  if x.state ≠ 1 then some 0x11
  else if x.refused then some 0x15
  else if x.host ∧ s.pos ≠ 0 ∧ kind ≠ 5 then some 0x16
  else if kind = 5 ∧ (at5 < s.now + s.fld .TXN_LEAD * 1000 ∨ s.now + 86400000000000 < at5) then some 0x17
  else if kind = 3 ∧ !s.slotRuns (s.fld (.TXN_GRP_CFG_SLOT g)) then some 0x18
  else if kind = 0 ∨ 5 < kind then some 0x1A
  else none

/-- The proposals of the siblings whose hash equals the member's own. -/
def State.agreedBounds (s : State) (g : Nat) : List Nat :=
  [0, 1].filterMap fun k => match Sparse.at none (s.group g).sibHash k with
    | some (h, b) => if h = (s.group g).hash ∧ s.role (sibPos s.pos k) = 3 ∨ (h = (s.group g).hash ∧ (s.group g).weir)
        then some b else none
    | none => none

/-- A group is Agreed: the boundary is the latest of the agreeing proposals (R78), TXN_GRP_TIME shows it for kinds 3
and 4 (R87), and the group it supersedes aborts (R84). -/
def State.agreed (s : State) (g : Nat) (bounds : List Nat) : State :=
  let b := bounds.foldl max (s.group g).bound
  let s1 := s.setGroup g fun x => { x with state := 3, bound := b }
  let s2 := if s1.kindOf g = 3 ∨ s1.kindOf g = 4 then s1.put64 (0x8100 + 8 * g) (0x8104 + 8 * g) b else s1
  let h := s2.fld (.TXN_GRP_CFG_SUP g)
  if s2.flag (.TXN_GRP_CFG_SUP_EN g) ∧ h ≠ g ∧ ((s2.group h).state = 2 ∨ (s2.group h).state = 3) then s2.abortGroup h 3
  else s2

/-- An Armed group whose hash a sibling's equals becomes Agreed (R80). -/
def State.tryAgree (s : State) (g : Nat) : State :=
  if (s.group g).state = 2 then
    let bs := s.agreedBounds g
    if bs.isEmpty then s else s.agreed g bs
  else if (s.group g).state = 3 ∧ !s.noHashes then
    let b := (s.agreedBounds g).foldl max (s.group g).bound
    let t := s.setGroup g fun x => { x with bound := b }
    if b ≠ (s.group g).bound ∧ (t.kindOf g = 3 ∨ t.kindOf g = 4) then t.put64 (0x8100 + 8 * g) (0x8104 + 8 * g) b else t
  else s

/-- A group armed: hash and proposal, Agreed at once where no hashes are exchanged (R82), else the proposal is sent and
the siblings' hashes already held are compared (R80); with two siblings' abort votes held it aborts (R83). -/
def State.armNow (s : State) (g : Nat) : State :=
  let s1 := s.setGroup g fun x => { x with state := 2, hash := s.groupHash g, bound := s.proposal g, proposed := s.proposal g }
  if s1.noHashes then s1.agreed g []
  else
    let t := s1.sendBoth 3 (groupRef g 0 (s1.boundTime g)) true (s1.hashPayload (s1.group g).hash)
    if Sparse.at false (t.group g).sibVote 0 && Sparse.at false (t.group g).sibVote 1 then t.abortGroup g 7 else t.tryAgree g

/-- An abort command (R83): an Open group on this member alone; an Armed or Agreed one with an abort vote, its result
ABORT_VOTE where a sibling's vote is held. Free and Applying groups stay (R76). -/
def State.abortCmd (s : State) (g : Nat) : State :=
  let x := s.group g
  if x.state = 1 then s.abortGroup g 2
  else if x.state = 2 ∨ x.state = 3 then
    if s.noHashes then s.abortGroup g 2
    else
      let voted := Sparse.at false x.sibVote 0 || Sparse.at false x.sibVote 1
      (s.sendBoth 3 (groupRef g 1 (s.boundTime g)) true (s.hashPayload x.hash)).abortGroup g (if voted then 7 else 2)
  else s

/-- The boundary a sibling's TIME stands for; none is proposed for kinds 1 and 2 (R80). -/
def State.sibBound (s : State) (g time : Nat) : Nat := if s.kindOf g ≤ 2 then 0 else widenTime s.now time

/-- Does an outcome frame of sibling k only repeat the outcome of the use before? It carries the same hash and TIME, and follows the
frame before it by no more than two base ticks (R82; assumption 85). -/
def Group.repeated (x : Group) (k : Nat) (h : BitVec 128) (time now : Nat) : Bool :=
  Sparse.at none x.lastOutcome k == some h && Sparse.at 0 x.lastTime k == time &&
    decide (now ≤ Sparse.at 0 x.sibHeard k + 500000)

/-- What a Group hash frame tells of a group: a proposal, an abort vote or an outcome of sibling k (R80, R82, R83). -/
def State.groupMessage (s : State) (k g role time : Nat) (h : BitVec 128) : State :=
  match role with
  | 0 => (s.setGroup g fun x => { x with sibHash := Sparse.put none x.sibHash k (some (h, s.sibBound g time)) }).tryAgree g
  | 1 =>
    let s1 := if (s.group g).state = 0 ∨ (s.group g).state = 4 then s
      else s.setGroup g fun x => { x with sibVote := Sparse.put false x.sibVote k true }
    let x := s1.group g
    if (x.state = 2 ∨ x.state = 3) ∧ Sparse.at false x.sibVote 0 ∧ Sparse.at false x.sibVote 1 then s1.abortGroup g 7
    else s1
  | 2 =>
    let t := s.setGroup g fun x => { x with sibLast := Sparse.put none x.sibLast k (some (h, time)),
                                            sibHeard := Sparse.put 0 x.sibHeard k s.now }
    if Sparse.at none (s.group g).sibOutcome k = some h ∨ (s.group g).repeated k h time s.now then t else
    (t.setGroup g fun x => { x with sibOutcome := Sparse.put none x.sibOutcome k (some h),
                                    sibHash := Sparse.put none x.sibHash k (some (h, s.sibBound g time)) }).tryAgree g
  | _ => s

/-- Which positions' hashes equal this member's own: bit 0 A, bit 1 B, bit 2 C (TXN_GRP_STAT.AGREE). A group that is not Armed or
Agreed reads 0, a choice of the model (assumption 84). -/
def State.agreeBits (s : State) (g : Nat) : Nat :=
  let x := s.group g
  let own := decide (x.state = 2 ∨ x.state = 3)
  if s.pos = 0 ∨ !own then 0 else
    [0, 1].foldl (fun acc k => match Sparse.at none x.sibHash k with
      | some (h, _) => if h = x.hash then acc + 2 ^ (sibPos s.pos k - 1) else acc
      | none => acc) (2 ^ (s.pos - 1))

/-- TXN_GRP_STAT of a group (R87). -/
def State.groupStat (s : State) (g : Nat) : Nat :=
  let x := s.group g
  x.state + 128 * x.result + 2048 * s.agreeBits g + 16384 * b2n x.host + 32768 * b2n x.refused +
    65536 * x.entries.length

end Sys2Proof.Machine
end

