-- ==== Sys2Proof/Machine/Loops.lean ====
section
/-! DEFINITION. The loop engine (R185 to R207): when a slot samples, the checks of its record, the four slot types,
limits, start and bank swap, test generators, capture units, saturation supervision. -/

namespace Sys2Proof.Machine

/-! ### Reading the process image -/

/-- The substitute flag of an input word: bit w modulo 32 of map word ⌊w / 32⌋ at 0x0030_0000 (R108, R246). -/
def State.subFlag (s : State) (w : Nat) : Bool := bitOf (s.word (0xC0000 + w / 32)).toNat (w % 32)

/-- The substitute flag of an input word set or cleared by the transaction unit. -/
def State.setSub (s : State) (w : Nat) (b : Bool) : State :=
  let a := 0xC0000 + w / 32
  let m := 1#32 <<< (w % 32)
  s.setWord a (if b then s.word a ||| m else s.word a &&& ~~~m)

/-- The forced flag of a word: bit w modulo 32 of map word ⌊w / 32⌋ at 0x0021_0000 (R226). -/
def State.forceFlag (s : State) (w : Nat) : Bool := bitOf (s.word (0x84000 + w / 32)).toNat (w % 32)

/-! ### Slots -/

def State.slotOf (s : State) (n : Nat) : Slot := Sparse.at {} s.lop.slots n
def State.setSlotSt (s : State) (n : Nat) (x : Slot) : State :=
  { s with lop := { s.lop with slots := Sparse.put {} s.lop.slots n x } }

/-- A bit of a word array of 512 slots set or cleared. -/
def State.slotBit (s : State) (f : Nat → Fd) (n : Nat) (b : Bool) : State :=
  let w := s.fld (f (n / 32))
  s.put (f (n / 32)) (if b then w ||| 2 ^ (n % 32) else w - (if bitOf w (n % 32) then 2 ^ (n % 32) else 0))

/-- Does an address lie in the input or output region (R108)? -/
def inImage (w : Nat) : Bool := decide (w < 0x80000)

/-- CTRL of a slot's record, and its fields (R189). -/
def State.slotCtrl (s : State) (n : Nat) : Nat := (s.slotCfg n 0).toNat

/-- The offset of the first field of a slot's record that fails a check of R190; none when all pass. -/
def State.cfgFault (s : State) (n : Nat) : Option Nat :=
  let c := s.slotCtrl n
  let ty := bitsOf c 2 0
  let sp := (s.slotCfg n 0x10).toNat
  if ty = 0 ∨ 4 < ty then some 0
  else if s.slotPeriod n = 0 ∨ 2400000 < s.slotPeriod n then some 4
  else if s.slotPeriod n ≤ s.slotPhase n then some 8
  else if !inImage (bitsOf (s.slotCfg n 0x0C).toNat 23 0) then some 0x0C
  else if bitsOf sp 31 30 = 2 ∧ bitsOf sp 8 0 = n then some 0x10
  else if !inImage (bitsOf (s.slotCfg n 0x14).toNat 23 0) then some 0x14
  else if bitsOf (s.slotCfg n 0x18).toNat 23 0 < 0x40000 ∨ 0x80000 ≤ bitsOf (s.slotCfg n 0x18).toNat 23 0 then some 0x18
  else if !inImage (bitsOf (s.slotCfg n 0x1C).toNat 23 0) then some 0x1C
  else if !fisFin (s.slotCfg n 0x20) then some 0x20
  else if !fisFin (s.slotCfg n 0x24) ∨ flt (s.slotCfg n 0x24) (s.slotCfg n 0x20) then some 0x24
  else none

/-- Do the conditions of R186 that are not the slot's own hold: Commission, Run, Degraded, or a joiner's shadow? -/
def State.loopsMayRun (s : State) : Bool :=
  s.mode == .commission || s.live || (s.mode == .startUp && s.fld .SYS_MODE_STARTUP == 7)

/-- Is a slot enabled by LOP_EN? -/
def State.slotEn (s : State) (n : Nat) : Bool := bitOf (s.fld (.LOP_EN (n / 32))) (n % 32)

/-- The slots with their LOP_EN bit set. -/
def State.enabledSlots (s : State) : List Nat := (List.range 512).filter s.slotEn

/-- A slot's record checked at a base tick edge (R190): it runs if it is enabled, the device may run slots and the
record passes; an enabled slot's failing record raises an E1 CFG, in any mode. A slot that begins to run takes START at its first
sample (R198). -/
def State.checkSlot (s : State) (n : Nat) : State :=
  let ok := s.slotEn n && s.loopsMayRun
  match if s.slotEn n then s.cfgFault n else none with
  | some off => ((s.slotBit .LOP_RUNNING_RUN n false)).raise 1 0x0C n 3 off
  | none =>
    let was := s.slotRuns n
    let s1 := s.slotBit .LOP_RUNNING_RUN n ok
    if ok && !was then s1.setSlotSt n { s1.slotOf n with started := false } else s1

/-- The checks due at this edge (R190). -/
def State.checkSlots (s : State) : State :=
  s.lop.check.foldl (fun t n => t.checkSlot n) { s with lop := { s.lop with check := [] } }

/-- Every enabled slot is to be checked at the next edge: the conditions of R186 begin to hold. -/
def State.loopsBegin (s : State) : State := { s with lop := { s.lop with check := s.enabledSlots } }

/-! ### Arithmetic of a sample -/

/-- h_f: PERIOD × 2.5 × 10⁻⁴ rounded to binary32 (R196). -/
def hf (period : Nat) : Word :=
  BitVec.ofNat 32 (fmt32.pack false (2 * ((period <<< 64) / 4000) + (if (period <<< 64) % 4000 = 0 then 0 else 1)) (-65))

/-- limit(v) of R196. -/
def limitU (umin umax rate u1 : Word) (period : Nat) (v : Word) : Word :=
  let delta := fmul rate (hf period)
  let a := fmin (fmax v umin) umax
  let b := if flt 0 rate then fmin (fmax a (fsub u1 delta)) (fadd u1 delta) else a
  fmin (fmax b umin) umax

/-- A coefficient word of a bank of a slot (R195). -/
def State.coef (s : State) (n : Nat) (bankB : Bool) (k : Nat) : Word :=
  s.slotCfg n ((if bankB then 0xA0 else 0x40) + 4 * k)

/-- What a sample of a slot gives: new states, output, and the values the capture units may record. -/
structure Sampled where
  slot : Slot
  u : Word
  v : Word
  e : Word
  i : Word
  d : Word
  deriving DecidableEq, Repr

/-- The state that signal 6 shows where a sample leaves the states unchanged: i, w or s1 of section 0 (R191, R203). -/
def Slot.shown (x : Slot) (type : Nat) : Word := if type = 3 then x.w1 else if type = 4 then x.s1.getD 0 0 else x.i

/-- The inputs of a sample: setpoint after injection, process variable, feedforward (0 without FF_EN), manual value,
output test signal. -/
structure Inputs where
  r : Word
  y : Word
  ff : Word
  ffEn : Bool
  man : Option Word
  sOut : Word
  q : Word
  deriving DecidableEq, Repr

/-- v with the feedforward term, which enters only with FF_EN (R193). -/
def addFf (en : Bool) (base kff ff : Word) : Word := if en then fadd base (fmul kff ff) else base

/-- u of a sample: limit(v + s_out), or limit(m + s_out) in manual (R196, R197, R201). -/
def State.outU (s : State) (n : Nat) (u1 : Word) (inp : Inputs) (v : Word) : Word :=
  let base := match inp.man with | some m => m | none => v
  limitU (s.slotCfg n 0x20) (s.slotCfg n 0x24) (s.slotCfg n 0x28) u1 (s.slotPeriod n)
    (if inp.sOut = 0 then base else fadd base inp.sOut)

/-- A PID or PI sample with given states, bank and first-sample rule (R193, R198, R200). A start that sets the states (START 1, 2) goes
before a bumpless swap at the same sample (assumption 93). -/
def State.samplePid (s : State) (n : Nat) (x : Slot) (b first : Bool) (inp : Inputs) : Sampled :=
  let c := s.slotCtrl n
  let pid := bitsOf c 2 0 == 1
  let start := bitsOf c 9 8
  let p := fun bk => if pid then fmul (s.coef n bk 0) (fsub (fmul (s.coef n bk 1) inp.r) inp.y)
    else fmul (s.coef n bk 0) (fsub inp.r inp.y)
  let dd := fun bk => fsub (fmul (s.coef n bk 2) inp.r) inp.y
  let e := fsub inp.r inp.y
  let kff := s.coef n b 23
  let dOf := fun bk (d1 dd1 : Word) => if pid then fadd (fmul (s.coef n bk 4) d1) (fmul (s.coef n bk 5) (fsub (dd bk) dd1))
    else (0 : Word)
  let vOf := fun bk (i d : Word) =>
    addFf inp.ffEn (if pid then fadd (fadd (p bk) i) d else fadd (p bk) i) (s.coef n bk 23) inp.ff
  let x0 : Slot := if first && start == 2 then
      { x with i := 0, d1 := 0, dd1 := dd b, u1 := inp.q }
    else if first && start == 1 then { x with dd1 := dd b, u1 := inp.q } else x
  let d := if first && start == 1 then (0 : Word) else dOf b x0.d1 x0.dd1
  let back := fun (v : Word) =>
    let t := fsub (fsub v (p b)) d
    if inp.ffEn then fsub t (fmul kff inp.ff) else t
  let i0 := if first && start == 1 then back inp.q
    else if x.sampled && bitOf c 10 && b != x.bankB && !(first && start == 2) then back (vOf x.bankB x.i (dOf x.bankB x.d1 x.dd1))
    else x0.i
  let v := vOf b i0 d
  let u := s.outU n x0.u1 inp v
  let i1 := fadd (fadd i0 (fmul (s.coef n b 3) e)) (fmul (s.coef n b 6) (fsub u v))
  { slot := { x0 with i := i1, d1 := d, dd1 := if pid then dd b else x0.dd1, u1 := u }, u := u, v := v, e := e,
    i := i0, d := if pid then d else 0 }

/-- A lead-lag sample (R194). -/
def State.sampleLead (s : State) (n : Nat) (x : Slot) (b first : Bool) (inp : Inputs) : Sampled :=
  let c := s.slotCtrl n
  let zero := first && (bitsOf c 9 8 == 1 || bitsOf c 9 8 == 2)
  let x0 : Slot := if zero then { x with x1 := 0, w1 := 0, u1 := inp.q } else x
  let e := fsub inp.r inp.y
  let xin := if bitOf c 6 then inp.y else e
  let w := fsub (fadd (fmul (s.coef n b 0) xin) (fmul (s.coef n b 1) x0.x1)) (fmul (s.coef n b 2) x0.w1)
  let v := addFf inp.ffEn w (s.coef n b 23) inp.ff
  let u := s.outU n x0.u1 inp v
  { slot := { x0 with x1 := xin, w1 := w, u1 := u }, u := u, v := v, e := e, i := w, d := 0 }

/-- The sections of a biquad cascade, from section j on (R194): the signal and the states after. -/
def State.biquads (s : State) (n : Nat) (b : Bool) : Nat → Nat → Word → List Word → List Word → Word × List Word × List Word
  | 0, _, sig, s1, s2 => (sig, s1, s2)
  | m + 1, j, sig, s1, s2 =>
    let k := fun i => s.coef n b (5 * j + i)
    let o := fadd (fmul (k 1) sig) (s1.getD j 0)
    let n1 := fadd (fsub (fmul (k 2) sig) (fmul (k 4) o)) (s2.getD j 0)
    let n2 := fsub (fmul (k 3) sig) (fmul (k 5) o)
    State.biquads s n b m (j + 1) o (s1.set j n1) (s2.set j n2)

/-- A biquad cascade sample (R194). -/
def State.sampleBiquad (s : State) (n : Nat) (x : Slot) (b first : Bool) (inp : Inputs) : Sampled :=
  let c := s.slotCtrl n
  let zero := first && (bitsOf c 9 8 == 1 || bitsOf c 9 8 == 2)
  let x0 : Slot := if zero then { x with s1 := [0, 0, 0, 0], s2 := [0, 0, 0, 0], u1 := inp.q } else x
  let e := fsub inp.r inp.y
  let xin := if bitOf c 6 then inp.y else e
  let (o, s1, s2) := s.biquads n b (bitsOf c 5 4 + 1) 0 (fmul (s.coef n b 0) xin) x0.s1 x0.s2
  let v := addFf inp.ffEn o (s.coef n b 23) inp.ff
  let u := s.outU n x0.u1 inp v
  { slot := { x0 with s1 := s1, s2 := s2, u1 := u }, u := u, v := v, e := e, i := s1.getD 0 0, d := 0 }

/-- Are all values and states of a sample finite (R191)? -/
def Sampled.finite (r : Sampled) : Bool :=
  [r.u, r.v, r.e, r.i, r.d, r.slot.i, r.slot.d1, r.slot.dd1, r.slot.u1, r.slot.x1, r.slot.w1].all fisFin &&
    r.slot.s1.all fisFin && r.slot.s2.all fisFin

/-! ### Test generators -/

/-- The tap bits of the PRBS of an order (R202). -/
def prbsTaps : Nat → List Nat
  | 7 => [7, 6]
  | 8 => [8, 6, 5, 4]
  | 9 => [9, 5]
  | 10 => [10, 7]
  | 11 => [11, 9]
  | 12 => [12, 6, 4, 1]
  | 13 => [13, 4, 3, 1]
  | 14 => [14, 5, 3, 1]
  | 15 => [15, 14]
  | _ => []

/-- One shift of the register s_1 to s_n: the XOR of the taps enters at s_1; s_j is bit j − 1 (R202). -/
def prbsShift (order sr : Nat) : Nat :=
  let f := (prbsTaps order).foldl (fun acc t => acc != bitOf sr (t - 1)) false
  (sr * 2) % 2 ^ order + b2n f

/-- π × 2^256, cut. -/
def piScaled : Int := 0x3243F6A8885A308D313198A2E03707344A4093822299F31D0082EFA98EC4E6C89

/-- 2^256 × sin(2πp / 2^64) for 0 ≤ p < 2^64, by its series. -/
def sinScaled (p : Int) : Int :=
  let one : Int := (2 ^ 256 : Nat)
  let x := 2 * piScaled * p / (2 ^ 64 : Nat)
  let xx := x * x / one
  ((List.range 40).foldl (fun (a : Int × Int) j =>
    (a.1 + a.2, -(a.2 * xx / one) / ((2 * j + 2) * (2 * j + 3) : Nat))) (0, x)).1

/-- The sine of p cycles × 2^-64: a number of 24 bits within 2 ULP of it, the choice c among them (R202; assumption 26). The last bit
of the reduced argument is part of the choice. -/
def sineOf (c : Nat) (p : Int) : Word :=
  let v := sinScaled ((p + (c % 2 : Nat)) % (2 ^ 64 : Nat))
  let m := v.natAbs
  let sh := Nat.log2 m - 23
  let n : Int := m / 2 ^ sh - 1 + (c / 2 % 4 : Nat)
  if m = 0 then 0 else w32 (fmt32.ofInt (if v < 0 then -n else n) ((sh : Int) - 256))

/-- The sine of a linear chirp's sample k, by F0, F1, LEN and h_f (R202); where its argument is no number the word is free. -/
def chirpSine (f0 f1 h : Word) (len k : Nat) : Word :=
  let c := Config.sine [f0, f1, h, w32 len] k
  match fmt32.toInt 149 f0.toNat, fmt32.toInt 149 f1.toNat, fmt32.toInt 149 h.toNat with
  | some a, some b, some d =>
    if len = 0 then c
    else sineOf c.toNat ((2 * len * a * d * k + (b - a) * d * k * k) * (2 ^ 64 : Nat) / (2 * len * 2 ^ 298 : Nat))
  | _, _, _ => c

/-- The sine of a multisine line's sample k, by M, P and PHI (R202). -/
def lineSine (m p k : Nat) (phi : Word) : Word :=
  let c := Config.sine [w32 m, w32 p, phi] k
  match fmt32.toInt 149 phi.toNat with
  | some a =>
    if p = 0 then c
    else
      let den : Int := (2 ^ 150 : Nat) * piScaled
      sineOf c.toNat ((m * k * (2 ^ 64 : Nat) * den + p * a * (2 ^ 320 : Nat)) / (p * den))
  | none => c

/-- The signal a generator gives for its present sample (R202). -/
def State.genSignal (s : State) (g : Nat) : Word :=
  let x := s.gen g
  let a := w32 (s.genWord g 0)
  match s.fld (.LOP_TEST_KIND g) with
  | 1 => a
  | 2 => if bitOf x.sr (s.fld (.LOP_TEST_ORDER g) - 1) then a else fneg a
  | 3 => fmul a (chirpSine (w32 (s.genWord g 0x0C)) (w32 (s.genWord g 0x10)) (hf (s.slotPeriod (s.fld (.LOP_TEST_SLOT g))))
      (s.genWord g 4) x.k)
  | 4 => (List.range (s.genWord g 0x18)).foldl (fun acc l =>
      fadd acc (fmul (w32 (s.genWord g (0x24 + 12 * l)))
        (lineSine (s.genWord g (0x20 + 12 * l)) (s.genWord g 0x14) x.k (w32 (s.genWord g (0x28 + 12 * l)))))) 0
  | _ => 0

/-- The generators running on a slot, by injection point. -/
def State.gensOn (s : State) (n point : Nat) : List Nat :=
  (List.range 8).filter fun g => (s.gen g).on && s.fld (.LOP_TEST_SLOT g) == n && s.fld (.LOP_TEST_POINT g) == point

/-- The sum of the signals of some generators (R201). -/
def State.genSum (s : State) (gs : List Nat) : Word :=
  match gs with
  | [] => 0
  | g :: r => r.foldl (fun acc h => fadd acc (s.genSignal h)) (s.genSignal g)

/-- A generator starts with the next sample of its slot as k = 0, its register seeded with all ones (R201, R202). -/
def State.startGen (s : State) (g : Nat) : State :=
  (s.setGen g { on := true, k := 0, sr := 2 ^ s.fld (.LOP_TEST_ORDER g) - 1, held := 0 }).put (.LOP_TEST_STAT_K g) 0

/-- A generator advances by a sample, and ends after LEN samples (R201, R202). -/
def State.stepGen (s : State) (g : Nat) : State :=
  let x := s.gen g
  let hold := s.genWord g 8
  let turn := decide (hold ≤ x.held + 1)
  let y : Gen := { x with k := x.k + 1, held := if turn then 0 else x.held + 1,
                          sr := if turn then prbsShift (s.fld (.LOP_TEST_ORDER g)) x.sr else x.sr }
  let t := (s.setGen g y).put (.LOP_TEST_STAT_K g) (min 0xFFFFFF y.k)
  if 0 < s.genWord g 4 ∧ s.genWord g 4 ≤ y.k then t.endGen g else t

/-! ### Capture units -/

/-- A unit starts: filling its PRE samples (R203). -/
def State.startCapture (s : State) (c : Nat) : State := ((s.setCapture c { state := 1 }).capHeader c).discardEvents

/-- The signal of a code at a sample (R203). -/
def State.capSignal (s : State) (code : Nat) (r : Sampled) (inp : Inputs) (test : Word) (adr : Nat) : Word :=
  match code with
  | 0 => inp.r
  | 1 => inp.y
  | 2 => r.u
  | 3 => r.v
  | 4 => r.e
  | 5 => inp.ff
  | 6 => r.i
  | 7 => test
  | 8 => r.d
  | 9 => s.image adr
  | _ => inp.r

/-- One sample of the captured slot in a unit (R203). genStart: generator TGEN gave its sample k = 0. -/
def State.capSample (s : State) (c : Nat) (r : Sampled) (inp : Inputs) (test : Word) (genStart : Bool) : State :=
  let x := s.capture c
  if x.state = 0 ∨ 4 ≤ x.state then s else
    let adr := s.fld (.LOP_CAP_ADDR c)
    let sg := fun code => s.capSignal code r inp test adr
    let v0 := sg (s.fld (.LOP_CAP_SIG_SIG0 c))
    let total := s.capTotal c
    let pre := s.capPre c
    let level := w32 (s.fld (.LOP_CAP_LEVEL c))
    let armed := x.state = 2 ∨ (x.state = 1 ∧ pre ≤ x.count)
    let hit := decide armed && match s.fld (.LOP_CAP_CTRL_TRIG c) with
      | 1 => genStart
      | 2 => (match x.last with | some l => flt l level && fle level v0 | none => false)
      | 3 => (match x.last with | some l => flt level l && fle v0 level | none => false)
      | _ => true
    let idx := x.next % total
    let a := s.capBase c + 0x20 + 12 * idx
    let s1 := s.reqBytes 4 a (wordBytes v0 ++ wordBytes (sg (s.fld (.LOP_CAP_SIG_SIG1 c))) ++
      wordBytes (sg (s.fld (.LOP_CAP_SIG_SIG2 c))))
    let count := min total (x.count + 1)
    let post := if hit then 1 else if x.state = 3 then x.post + 1 else 0
    let st := if hit then 3 else if x.state = 3 then 3 else if pre ≤ count then 2 else 1
    let y : Cap := { x with state := st, count := count, next := idx + 1, post := post,
                            trig := if hit then some idx else x.trig, last := some v0,
                            times := Sparse.put 0 x.times idx s.now }
    let s2 := s1.setCapture c y
    (if 0 < post ∧ total - pre ≤ post then s2.endCapture c 4
    else if st = x.state then s2 else s2.capHeader c).discardEvents

/-! ### Supervision -/

/-- The end of a supervision window: the alarm raises or clears (R205). -/
def State.satWindowEnd (s : State) (n cnt size : Nat) : State :=
  let thr := bitsOf (s.slotCfg n 0x2C).toNat 7 0
  let was := bitOf (s.fld (.LOP_SATALM_ALM (n / 32))) (n % 32)
  let s0 := (s.setSlotSt n { s.slotOf n with satN := 0, satCnt := 0 }).sample 0x0C 3 n (256 * cnt / size)
  if thr * size < 256 * cnt then
    if was then s0 else
      ((s0.slotBit .LOP_SATALM_ALM n true).raise 0 0x0C n 5 cnt).condition 0x8C05 0 0xFF (0x0C0000 + n) cnt
  else if was then (s0.slotBit .LOP_SATALM_ALM n false).condition 0x8C05 1 0xFF (0x0C0000 + n) cnt
  else s0

/-- A sample counted in the supervision window (R205); a changed SUP restarts it. -/
def State.supervise (s : State) (n : Nat) (atLimit : Bool) : State :=
  let w := s.slotCfg n 0x2C
  let x := s.slotOf n
  let x0 : Slot := if w = x.sup then x else { x with sup := w, satN := 0, satCnt := 0 }
  if bitsOf w.toNat 7 0 = 0 then s.setSlotSt n { x0 with satN := 0, satCnt := 0 }
  else
    let size := max 15 (bitsOf w.toNat 31 16) + 1
    let k := x0.satN + 1
    let cnt := x0.satCnt + b2n atLimit
    let s1 := s.setSlotSt n { x0 with satN := k, satCnt := cnt }
    if size ≤ k then s1.satWindowEnd n cnt size else s1

/-! ### State records -/

/-- A state record: 16 words of the model's own layout (R192, R207; assumption 43): u, i, d, dd, x, w, s1 and s2 of the four sections,
the flags started, bank B, episode, sampled, and the supervision counts. -/
def Slot.words (x : Slot) : List Word :=
  [x.u1, x.i, x.d1, x.dd1, x.x1, x.w1] ++ (x.s1.take 4) ++ (x.s2.take 4) ++
    [w32 (b2n x.started + 2 * b2n x.bankB + 4 * b2n x.episode + 8 * b2n x.sampled), w32 (x.satN % 65536 * 65536 + x.satCnt % 65536)]

/-- A slot as its record spells it; sup is the supervision word its counts belong to. -/
def Slot.ofWords (l : List Word) (sup : Word) : Slot :=
  let w := fun k => l.getD k 0
  let f := (w 14).toNat
  { u1 := w 0, i := w 1, d1 := w 2, dd1 := w 3, x1 := w 4, w1 := w 5, s1 := [w 6, w 7, w 8, w 9], s2 := [w 10, w 11, w 12, w 13],
    started := bitOf f 0, bankB := bitOf f 1, episode := bitOf f 2, sampled := bitOf f 3,
    satN := (w 15).toNat / 65536, satCnt := (w 15).toNat % 65536, sup := sup }

/-- The Basin word of a slot's state record; none while no area is configured. -/
def State.slotRecord (s : State) (n : Nat) : Option Nat :=
  if s.fld .LOP_STATE_BASE = 0 then none else some (s.fld .LOP_STATE_BASE / 4 + 16 * n)

/-- A slot's state written to its record (R192). -/
def State.keepSlot (s : State) (n : Nat) : State :=
  match s.slotRecord n with
  | some a => (s.blockWords 4 a (s.slotOf n).words).discardEvents
  | none => s

/-- A slot's state taken from its record (R60, R192); without an area it starts anew. -/
def State.recallSlot (s : State) (n : Nat) : State :=
  s.setSlotSt n (match s.slotRecord n with
    | some a => Slot.ofWords ((List.range 16).map fun k => s.word (a + k)) (s.slotCfg n 0x2C)
    | none => {})

/-! ### A sample -/

/-- The first input of a sample that is NaN or infinite, by its word address (R191). -/
def badInput (l : List (Nat × Word)) : Option Nat := (l.find? fun e => !fisFin e.2).map Prod.fst

/-- A sample of slot n (R187 to R205): inputs as they stood at the edge (state e), but a setpoint from a lower-numbered
slot sampled on this tick, which is this tick's output. -/
def State.sampleSlot (e : State) (done : List Nat) (n : Nat) (s : State) : State :=
  let c := s.slotCtrl n
  let x := s.slotOf n
  let pv := bitsOf (s.slotCfg n 0x0C).toNat 23 0
  let spw := (s.slotCfg n 0x10).toNat
  let spA := bitsOf spw 23 0
  let y := e.image pv
  let r0 : Word := match bitsOf spw 31 30 with
    | 0 => e.word (s.fld .LOP_SP_BASE / 4 + n)
    | 1 => e.image spA
    | 2 => let m := bitsOf spw 8 0
           if m < n ∧ done.contains m then (s.slotOf m).u1 else (e.slotOf m).u1
    | _ => 0
  let ffEn := bitOf c 12
  let ffA := bitsOf (s.slotCfg n 0x14).toNat 23 0
  let ff := if ffEn then e.image ffA else 0
  let man := bitOf c 7
  let manA := bitsOf (s.slotCfg n 0x1C).toNat 23 0
  let manV := e.image manA
  let gR := s.gensOn n 0
  let gV := s.gensOn n 1
  let r := if gR.isEmpty then r0 else fadd r0 (s.genSum gR)
  let sOut := if gV.isEmpty then 0 else s.genSum gV
  let outA := bitsOf (s.slotCfg n 0x18).toNat 23 0
  let umin := s.slotCfg n 0x20
  let umax := s.slotCfg n 0x24
  let q := fmin (fmax (e.word outA) umin) umax
  let inp : Inputs := { r := r, y := y, ff := ff, ffEn := ffEn, man := if man then some manV else none,
                        sOut := sOut, q := q }
  let b := bitOf (s.fld (.LOP_BANK_SEL (n / 32))) (n % 32)
  let spAt := match bitsOf spw 31 30 with
    | 0 => s.fld .LOP_SP_BASE / 4 + n
    | 2 => bitsOf (s.slotCfg (bitsOf spw 8 0) 0x18).toNat 23 0
    | _ => spA
  let bad := badInput ([(pv, y), (spAt, r0)] ++ (if ffEn then [(ffA, ff)] else []) ++
    (if man then [(manA, manV)] else []))
  let latched := s.laneLatched 0x0C n
  let bare := bad.isSome || (bitOf c 11 && e.subFlag pv)
  let held := bare || latched
  let first := !x.started
  let res : Sampled := match bitsOf c 2 0 with
    | 3 => s.sampleLead n x b first inp
    | 4 => s.sampleBiquad n x b first inp
    | _ => s.samplePid n x b first inp
  let fine := !bare && res.finite
  let good := fine && !latched
  let rr : Sampled := if good then
      { res with slot := { res.slot with started := true, sampled := true, bankB := b, episode := false, y := y, r := r, e := res.e } }
    else { res with slot := { x with episode := bad.isSome, y := y, r := r }, u := x.u1,
                    i := x.shown (bitsOf c 2 0), d := if bitsOf c 2 0 = 1 then x.d1 else 0 }
  let s0 := if held then s else s.slotBit .LOP_BANK_ACT n b
  let s1 := ((s0.setSlotSt n rr.slot).slotBit .LOP_INVALID_INV n !fine).reqWrite 4 outA rr.u
  let s2 := match bad with
    | some a => if x.episode then s1 else s1.raise 1 0x0C n 1 a
    | none => if held || fine then s1 else s1.raise 1 0x0C n 2 0
  let s3 := s2.supervise n (good && !man && (feq rr.u umin || feq rr.u umax))
  let test := s.genSum (gR ++ gV)
  let s4 := (List.range 4).foldl (fun t k =>
    if t.fld (.LOP_CAP_CTRL_SLOT k) = n then
      let tg := t.fld (.LOP_CAP_CTRL_TGEN k)
      t.capSample k rr inp test ((s.gen tg).on && (s.gen tg).k == 0 && s.fld (.LOP_TEST_SLOT tg) == n)
    else t) s3
  ((gR ++ gV).foldl (fun t g => t.stepGen g) s4).keepSlot n

/-- The slots due on a tick, in ascending number (R185, R187). -/
def State.slotsDue (s : State) (t : Nat) : List Nat :=
  (List.range 512).filter fun n => s.slotRuns n && decide (t % max 1 (s.slotPeriod n) = s.slotPhase n)

/-- The loop samples of a base tick edge (R187): due slots in ascending number, then LOP_TICK.DUE and the updates of
the second. -/
def State.loopTick (s : State) (t : Nat) : State :=
  let due := s.slotsDue t
  let r := (due.foldl (fun (a : State × List Nat) n => (State.sampleSlot s a.2 n a.1, n :: a.2)) (s, [])).1
  let sec := t / 4000
  let r1 := (r.put .LOP_TICK_DUE due.length).sample 0x0C 2 0 due.length
  if sec = r1.lop.updSec then { r1 with lop := { r1.lop with upd := r1.lop.upd + due.length } }
  else { r1.put .LOP_UPD (min 0x1FFFFF r1.lop.upd) with lop := { r1.lop with updSec := sec, upd := due.length } }

end Sys2Proof.Machine
end

