-- ==== Sys2Proof/Machine/ScanBase.lean ====
section
/-! DEFINITION. The scan engine up to its vote (R208 to R216, R226 to R228, R441): forces, the latch and its agreement,
the output image and its frames, the start of a cycle, calls of the error task, the cycle that a fault ends (R210). -/

namespace Sys2Proof.Machine

def State.setScn (s : State) (f : ScanState → ScanState) : State := { s with scn := f s.scn }

/-- Both siblings' data changed. -/
def State.bothPeers (s : State) (f : Peer → Peer) : State := (s.setPeer 0 f).setPeer 1 f

/-! ### Forces -/

/-- A word with the bits that forces cover replaced; of two entries the later prevails (R226, R227). -/
def applyForces (fs : List Force) (w : Nat) (v : Word) : Word :=
  fs.foldl (fun acc f => if f.adr = w then (acc &&& ~~~f.mask) ||| (f.value &&& f.mask) else acc) v

/-- Is a word covered by an acting force? -/
def forced (fs : List Force) (w : Nat) : Bool := fs.any fun f => f.adr == w

/-- The forced-flag map follows the table (R226): bits of the old entries clear, bits of the new ones set. -/
def State.forceMap (s : State) (old new : List Force) : State :=
  let bit := fun (b : Bool) (t : State) (f : Force) =>
    let a := 0x84000 + f.adr / 32
    let m := 1#32 <<< (f.adr % 32)
    t.setWord a (if b then t.word a ||| m else t.word a &&& ~~~m)
  new.foldl (bit true) (old.foldl (bit false) s)

/-- The entries that act from now on (R228, R231): FORCED and ACTIVE show them. -/
def State.actForces (s : State) (fs : List Force) : State :=
  ((s.setScn fun x => { x with forces := fs }).putB .SCN_STAT_FORCED (!fs.isEmpty)).put .SCN_FORCE_CNT_ACTIVE fs.length

/-- Acting entries with entry k changed; they stand in ascending number. -/
def setForce (fs : List Force) (k : Nat) (f : Option Force) : List Force :=
  (fs.filter fun g => decide (g.ix < k)) ++ f.toList ++ fs.filter fun g => decide (k < g.ix)

/-- Changes of the force table that wait, without those of an entry of which a later commit's change has acted. -/
def stillDue (due : Option Nat → Bool) (l : List (Option Nat × List (Nat × Option Force))) : List (Option Nat × List (Nat × Option Force)) :=
  (l.zipIdx.filter fun e => !due e.1.1).map fun e =>
    (e.1.1, e.1.2.filter fun c => !l.zipIdx.any fun d => due d.1.1 && decide (e.2 < d.2) && d.1.2.any fun x => x.1 == c.1)

/-- The changes of the force table whose time has come at the agreed cycle time t act, in order of their commits (R228). -/
def State.dueForces (s : State) (t : Nat) : State :=
  let due := fun (e : Option Nat) => match e with | none => true | some n => decide (n ≤ t)
  match (s.scn.forcePend.filter fun e => due e.1).flatMap Prod.snd with
  | [] => s
  | cs => (s.setScn fun x => { x with forcePend := stillDue due x.forcePend }).actForces
      (cs.foldl (fun fs c => setForce fs c.1 c.2) s.scn.forces)

/-! ### The output region -/

/-- The Basin words from one word address up to another that are not 0, in ascending address. -/
def State.wordsIn (s : State) (lo hi : Nat) : Sparse Word :=
  (s.basin.foldl (fun (acc : List (Nat × Word)) c =>
    let w := c.1 / 4
    if w < lo ∨ hi ≤ w then acc
    else match acc with
      | (v, x) :: r => if v = w then acc else (w, s.word w) :: (v, x) :: r
      | [] => [(w, s.word w)]) []).reverse

/-- The output region's words that are not 0, in ascending address. -/
def State.outWords (s : State) : Sparse Word := s.wordsIn 0x40000 0x80000

/-- The output image as it is sent: the output region with the output forces (R215). -/
def State.composed (s : State) : Sparse Word :=
  s.scn.forces.foldl (fun m f => if 0x40000 ≤ f.adr ∧ f.adr < 0x80000 then
    Sparse.put 0 m f.adr (applyForces s.scn.forces f.adr (s.word f.adr)) else m) s.outWords

/-- The image hash of a Vote frame (R40). -/
def imageHash (m : Sparse Word) : DWord := shaFirst 64 (m.flatMap fun e => leBytes 4 e.1 ++ wordBytes e.2)

/-! ### The latch -/

/-- An item of a loop slot (R219, RDL). -/
def State.loopItem (s : State) (n item : Nat) : Word :=
  let x := s.slotOf n
  let c := s.slotCtrl n
  match item with
  | 0 => x.u1
  | 1 => x.y
  | 2 => x.r
  | 3 => x.e
  | 4 => (match bitsOf c 2 0 with | 3 => x.w1 | 4 => x.s1.getD 0 0 | _ => x.i)
  | _ => w32 (b2n (s.slotRuns n) + 2 * b2n (bitOf (s.fld (.LOP_INVALID_INV (n / 32))) (n % 32)) +
      4 * b2n (bitOf (s.fld (.LOP_SATALM_ALM (n / 32))) (n % 32)) +
      8 * b2n (bitOf (s.fld (.LOP_BANK_ACT (n / 32))) (n % 32)) + 16 * b2n (bitOf c 7))

/-- A word of a context's run record, in the published half of its window (R181, R162). -/
def State.runWord (s : State) (c k : Nat) : Word :=
  Sparse.at 0 (Sparse.at [] s.slv.halves (2 * c + s.fld (.SLC_PUB_HALF c))) k

/-- The word address of the run of the shed level (R270). -/
def levelWord : Nat := 0xFFFF7F

/-- The present value of a latch list entry, with its substitute flag (R211, R212); the entry of the shed level's run takes the own
level (R270). -/
def State.readLatch (s : State) (e : LatchEntry) : Latched :=
  match e.src with
  | 0 => if e.adr = levelWord then { lo := w32 (s.fld .PMS_LEVEL_OWN) } else { lo := s.image e.adr, sub := s.subFlag e.adr }
  | 1 => { lo := s.loopItem (e.adr / 8) (e.adr % 8) }
  | 2 => { lo := s.runWord (e.adr / 32) (e.adr % 32) }
  | _ => let v := Sparse.at 0 s.nrg.acc e.adr; { lo := v.setWidth 32, hi := (v >>> 32).setWidth 32 }

/-- The latch taken now: values and stamp (R212). -/
def State.takeLatch (s : State) : State :=
  s.setScn fun x => { x with own := x.latchList.map s.readLatch, ownStamp := tickOf s.now, ownRun := s.stn.run,
                             ownLevel := s.fld .PMS_LEVEL_OWN }

/-- The words that carry a latch: entry i at 2i and 2i + 1, flag i at bit i modulo 32 of word 0x8000 + ⌊i / 32⌋, the stamp,
the station run and the shed level (R212, R243, R270; assumption 32). -/
def State.latchWords (s : State) : List (Nat × Word) :=
  let n := s.scn.own.length
  let vals := (List.range n).flatMap fun i =>
    let v := s.scn.own.getD i {}
    if (s.scn.latchList.getD i ⟨0, 0, 0, 0⟩).mode = 0 then [] else
      if (s.scn.latchList.getD i ⟨0, 0, 0, 0⟩).src = 3 then [(2 * i, v.lo), (2 * i + 1, v.hi)] else [(2 * i, v.lo)]
  let flags := (List.range ((n + 31) / 32)).map fun k => (0x8000 + k,
    w32 ((List.range 32).foldl (fun acc j => acc + b2n (s.scn.own.getD (32 * k + j) {}).sub * 2 ^ j) 0))
  vals ++ flags ++ [(levelWord, w32 s.scn.ownLevel)] ++
    ((List.range 64).map fun k => (0xFFFF80 + k, Sparse.at 0 s.scn.ownRun k)) ++
    [(0xFFFFFE, w32 s.scn.ownStamp), (0xFFFFFF, w32 (s.scn.ownStamp / 4294967296))]

/-! ### Cycle image frames -/

/-- Words as runs of consecutive addresses, at most 255 words each (R39). -/
def runsOf : List (Nat × Word) → List (Nat × List Word)
  | [] => []
  | (a, v) :: r => match runsOf r with
    | (b, ws) :: q => if b = a + 1 ∧ ws.length < 255 then (a, v :: ws) :: q else (a, [v]) :: (b, ws) :: q
    | [] => [(a, [v])]

/-- The bytes of a run: 24-bit word address, 8-bit count, words. -/
def runBytes (r : Nat × List Word) : List Byte := leBytes 3 r.1 ++ leBytes 1 r.2.length ++ wordsBytes r.2

/-- Runs packed into payloads of at most 2,048 bytes. -/
def packRuns : List (Nat × List Word) → List (List Byte)
  | [] => []
  | r :: rs => match packRuns rs with
    | p :: ps => if (runBytes r).length + p.length ≤ 2048 then (runBytes r ++ p) :: ps else runBytes r :: p :: ps
    | [] => [runBytes r]

/-- The words of a payload of runs. -/
def unpackRuns : Nat → List Byte → List (Nat × Word)
  | 0, _ => []
  | n + 1, bs =>
    if bs.length < 4 then [] else
      let a := fieldAt bs 0 3
      let c := byteAt bs 3
      let ws := bytesWords ((bs.drop 4).take (4 * c))
      (ws.zipIdx.map fun e => (a + e.2, e.1)) ++ unpackRuns n (bs.drop (4 + 4 * c))

/-- Payloads as frames for both siblings, LAST on the final one (R38). -/
def State.sendPayloads (s : State) (kind ref : Nat) : List (List Byte) → State
  | [] => s
  | [p] => s.sendBoth kind ref true p
  | p :: ps => (s.sendBoth kind ref false p).sendPayloads kind ref ps

/-- The runs of the latch: the shed level is a run of one word, apart from the station run that follows it (R243, R270). -/
def State.latchRuns (s : State) : List (Nat × List Word) :=
  let ws := s.latchWords
  runsOf (ws.filter fun e => decide (e.1 ≤ levelWord)) ++ runsOf (ws.filter fun e => decide (levelWord < e.1))

/-- The Cycle image frames of a cycle: output runs, then latch runs (R212, R39). -/
def State.sendImage (s : State) (ref : Nat) (out : Sparse Word) : State :=
  s.sendPayloads 1 ref (packRuns (runsOf out ++ s.latchRuns))

/-- REF of the latch frames for cycle 0 (R441). -/
def zeroRef : Nat := 0xFFFFFFFFFFFFFFFF

/-! ### Agreement of the latch -/

/-- The place of a binary32 value in the order that puts NaN above +∞ and -0 below +0. -/
def floatKey (w : Nat) : Int :=
  if fmt32.isNan w then 0x200000000 + (w : Int)
  else 2 * fmt32.key w + (if fmt32.signBit ≤ w then 0 else 1)

/-- The middle or the lower of values by an order: of three the median, of two the lower or the higher. -/
def pick (key : Nat → Int) (high : Bool) : List Nat → Nat
  | [a] => a
  | [a, b] => if (decide (key a ≤ key b)) != high then a else b
  | [a, b, c] =>
    let m := median3 (key a) (key b) (key c)
    if key a = m then a else if key b = m then b else c
  | l => l.headD 0

/-- The agreed value of an entry, own value first (R213). Values are 64 bits wide for SRC 3, else 32. -/
def agree (src mode two : Nat) (vs : List Nat) : Nat :=
  let wd := if src = 3 then 64 else 32
  match mode, vs with
  | 0, l => l.headD 0
  | 1, [a, b] => if two = 1 then a ||| b else a &&& b
  | 1, [a, b, c] => (a &&& b) ||| (a &&& c) ||| (b &&& c)
  | 2, [a, b] => if two = 2 then twos wd ((signed wd a + signed wd b) / 2) else pick (signed wd) (two == 1) [a, b]
  | 2, l => pick (signed wd) false l
  | 3, [a, b] => if two = 2 then (fmul (fadd (w32 a) (w32 b)) 0x3F000000).toNat else pick floatKey (two == 1) [a, b]
  | 3, l => pick floatKey false l
  | _, l => l.headD 0

/-- The siblings whose latch takes part: voting, with a complete image (R213). -/
def State.latchSibs (s : State) : List Nat := s.votingSibs.filter fun k => (s.peer k).complete

/-- A word of a sibling's latch. -/
def State.peerLatch (s : State) (k a : Nat) : Word := (Sparse.at none (s.peer k).latch a).getD 0

/-- The values of entry i: own, then each sibling's. -/
def State.latchVals (s : State) (useOwn : Bool) (i : Nat) (e : LatchEntry) : List Nat :=
  let own := s.scn.own.getD i {}
  (if useOwn ∨ e.mode = 0 then [own.lo.toNat + (if e.src = 3 then 4294967296 * own.hi.toNat else 0)] else []) ++
    s.latchSibs.map fun k => (s.peerLatch k (2 * i)).toNat +
      (if e.src = 3 then 4294967296 * (s.peerLatch k (2 * i + 1)).toNat else 0)

/-- The agreed substitute flag: majority, OR of two (R213). -/
def agreeFlag : List Bool → Bool
  | [a, b, c] => (a && b) || (a && c) || (b && c)
  | l => l.any id

/-- The agreed value of entry i. -/
def State.agreeEntry (s : State) (useOwn : Bool) (i : Nat) (e : LatchEntry) : Latched :=
  let v := agree e.src e.mode e.two (s.latchVals useOwn i e)
  let own := (s.scn.own.getD i {}).sub
  let fl := (if useOwn then [own] else []) ++
    s.latchSibs.map fun k => bitOf (s.peerLatch k (0x8000 + i / 32)).toNat (i % 32)
  { lo := w32 v, hi := w32 (v / 4294967296), sub := if e.mode = 0 then own else agreeFlag fl }

/-- The agreed cycle time: median of three stamps, the lower of two (R214). -/
def State.agreeTime (s : State) (useOwn : Bool) : Nat :=
  pick (fun n => (n : Int)) false ((if useOwn then [s.scn.ownStamp] else []) ++ s.latchSibs.map fun k =>
    (s.peerLatch k 0xFFFFFE).toNat + 4294967296 * (s.peerLatch k 0xFFFFFF).toNat)

/-- The latch agreed, with the entries that differed counted (R213), the station runs of the voting members, where the latch is of the
present station cycle (R243), and the shed level (R270). -/
def State.agreeLatch (s : State) (useOwn : Bool) : State :=
  let ag := s.scn.latchList.zipIdx.map fun e => s.agreeEntry useOwn e.2 e.1
  let diff := ((s.scn.own.zip ag).filter fun p => p.1.lo != p.2.lo || p.1.hi != p.2.hi).length
  let t := s.agreeTime useOwn
  let levels := (if useOwn then [s.scn.ownLevel] else []) ++ s.latchSibs.map fun k => (s.peerLatch k levelWord).toNat
  let run := fun k => (List.range 64).foldl (fun m j => Sparse.put (0 : Word) m j (s.peerLatch k (0xFFFF80 + j))) []
  let own := if useOwn && s.voting then [s.scn.ownRun] else []
  let fresh := decide (tickOf s.cycleStart ≤ t)
  let s1 := { s with scn := { s.scn with agreed := ag },
                     stn := { s.stn with runs := if fresh then own ++ s.latchSibs.map run else s.stn.runs } }
  let s2 := (((s1.put .SCN_AGREE_DIFF (min 65535 diff)).put .SCN_TIME_LO_TICK t).put .SCN_TIME_HI_TICK (t / 4294967296)).put
    .PMS_LEVEL_AGREED (pick (fun n => (n : Int)) true levels)
  if diff = 0 then s2 else s2.bump .SCN_AGREE_CYCLES

/-- The agreed cycle time in force. -/
def State.cycleTime (s : State) : Nat := s.fld .SCN_TIME_LO_TICK + 4294967296 * s.fld .SCN_TIME_HI_TICK

/-! ### The scan state region (R218) -/

/-- One bit more in a word of sparse words. -/
def orBit (m : Sparse Word) (w k : Nat) : Sparse Word := Sparse.mod 0 m w fun v => v ||| (1#32 <<< k)

/-- The scan state as the words of its region, in the model's own layout (assumption 43): local word n at n, four words a timer (start
tick, ET, on, Q and edge bits) from 32,768, the counts from 36,864, the counters' edge memories from 37,888 and the edge bits from
37,920, 32 a word. -/
def ScanMem.words (m : ScanMem) : Sparse Word :=
  let tm := m.timers.foldl (fun acc e =>
    let a := 32768 + 4 * e.1
    let x := e.2
    [(a, w32 x.start), (a + 1, w32 (x.start / 4294967296)), (a + 2, w32 x.et),
     (a + 3, w32 (b2n x.on + 2 * b2n x.q + 4 * b2n x.edge))].foldl (fun c v => Sparse.put 0 c v.1 v.2) acc) m.locals
  let ct := m.counters.foldl (fun acc e => Sparse.put 0 acc (36864 + e.1) e.2.cv) tm
  let ce := m.counters.foldl (fun acc e => if e.2.edge then orBit acc (37888 + e.1 / 32) (e.1 % 32) else acc) ct
  m.edges.foldl (fun acc e => if e.2 then orBit acc (37920 + e.1 / 32) (e.1 % 32) else acc) ce

/-- The scan state that words of its region spell. -/
def ScanMem.ofWords (l : Sparse Word) : ScanMem :=
  l.foldl (fun m e =>
    let k := e.1
    let v := e.2
    if k < 32768 then { m with locals := Sparse.put 0 m.locals k v }
    else if k < 36864 then
      { m with timers := Sparse.mod {} m.timers ((k - 32768) / 4) fun t => match (k - 32768) % 4 with
          | 0 => { t with start := t.start + v.toNat }
          | 1 => { t with start := t.start + 4294967296 * v.toNat }
          | 2 => { t with et := v.toNat }
          | _ => { t with on := v.getLsbD 0, q := v.getLsbD 1, edge := v.getLsbD 2 } }
    else if k < 37888 then { m with counters := Sparse.mod {} m.counters (k - 36864) fun c => { c with cv := v } }
    else if k < 37920 then
      { m with counters := (List.range 32).foldl (fun cs j =>
          if v.getLsbD j then Sparse.mod {} cs (32 * (k - 37888) + j) fun c => { c with edge := true } else cs) m.counters }
    else
      { m with edges := (List.range 32).foldl (fun es j =>
          if v.getLsbD j then Sparse.put false es (32 * (k - 37920) + j) true else es) m.edges }) {}

/-- The Basin word at which the scan state region begins; none while no region is configured. -/
def State.scanRegion (s : State) : Option Nat :=
  if s.fld .SCN_STATE_BASE = 0 then none else some (s.fld .SCN_STATE_BASE / 4)

/-- The scan state written to its region (R209, R218). -/
def State.keepScan (s : State) : State :=
  match s.scanRegion with
  | none => s
  | some b =>
    let new := s.scn.mem.words
    let gone := (s.wordsIn b (b + 37952)).filter fun e => Sparse.at 0 new (e.1 - b) == 0
    (new.foldl (fun t e => t.blockWord 5 (b + e.1) e.2) (gone.foldl (fun t e => t.blockWord 5 e.1 0) s)).discardEvents

/-- The scan state taken from its region (R60, R218); without a region it starts anew. -/
def State.recallScan (s : State) : State :=
  let m := match s.scanRegion with
    | none => {}
    | some b => ScanMem.ofWords ((s.wordsIn b (b + 37952)).map fun e => (e.1 - b, e.2))
  s.setScn fun x => { x with mem := m, saved := m }

/-! ### Calls and phases -/

/-- The program state cleared, with the program counter at an entry (R218). -/
def ScanState.clear (x : ScanState) (pc : Nat) : ScanState :=
  { x with pc := pc, w := [], ba := false, f := false, sf := false, loops := [], calls := [], pfx := none }

/-- The event the error task would serve next: the running handler's, if assigned; none while an E3 is pending, and none
once the engine is to stop (R96, R100). -/
def State.nextCall (s : State) : Option Event :=
  if s.pends 3 ∨ !s.flag .SCN_STAT_RUN then none else
    match s.runningClass with
    | some c => (s.slot c).filter s.assigned
    | none => none

/-- Assigned events waiting (SCN_ERRTASK.LINE). -/
def State.callLine (s : State) : Nat :=
  ((s.queue 1 ++ s.queue 2 ++ (s.slot 1).toList ++ (s.slot 2).toList).filter s.assigned).length

/-- No group is selected for STG and RSTG: the selection ends with the cycle (R224). -/
def State.endSelection (s : State) : State := (s.putB .SCN_GRP_VALID false).put .SCN_GRP_GROUP 0

/-- Phase 2 goes on: the next call of the error task, or phase 3 (R209, R225). -/
def State.phase2 (s : State) : State :=
  match if s.fld .SCN_ERRTASK_CALLS < max 1 (s.fld .ERR_TASK_MAX) then s.nextCall else none with
  | some e => ((s.putB .SCN_STAT_ERRTASK true).put .SCN_STAT_PHASE 2).setScn fun x =>
      { x.clear (s.fld .SCN_ENTRY_ERRTASK) with serving := some e }
  | none => (((s.sample 0x0D 4 0 (s.fld .SCN_ERRTASK_CALLS)).putB .SCN_STAT_ERRTASK false).put .SCN_STAT_PHASE 3).setScn fun x =>
      { x.clear (s.fld .SCN_ENTRY_MAIN) with serving := none, p3At := s.now }

/-- Phase 1 of a cycle, and phase 2 as far as its first call (R209, R213, R214, R215, R441). useOwn is false where the
siblings' values stand alone (R210). -/
def State.startCycle (s : State) (num : Nat) (useOwn : Bool) : State :=
  let s1 := (s.put .SCN_CYC_NUM_CYC num).agreeLatch useOwn
  let view := if num = 0 then s1.outWords else s1.scn.voted
  let s2 := s1.dueForces s1.cycleTime
  let s3 := s2.setScn fun x => { x with cycle := num, voted := view, stores := [], zero := false, unlatchedRaised := false,
                                        waitAlign := false, saved := x.mem, startAt := s.now }
  let stamp := fun (e : Nat × Option Nat × Sparse Word) =>
    if e.1 + 1 = num ∧ e.2.1 = none then (e.1, some s1.cycleTime, e.2.2) else e
  let s4 := { s3 with stn := { s3.stn with voted := s3.stn.voted.map stamp } }.bothPeers fun q => { q with broken := false }
  (s4.endSelection.put .SCN_ERRTASK_CALLS 0).phase2

/-- The latch for cycle 0, taken and sent once with REF all ones (R441). -/
def State.zeroLatch (s : State) : State :=
  if s.scn.zeroTaken then s
  else
    let t := s.takeLatch.setScn fun x => { x with zeroTaken := true, imageAt := s.now }
    t.sendPayloads 1 zeroRef (packRuns t.latchRuns)

/-- The numbering of cycles restarts (R209, R441): no mismatch counts, the latch for cycle 0 still to be taken (assumption 95); forces
committed before act from the first cycle. -/
def State.restartCycles (s : State) : State :=
  let s1 := s.setScn fun x => { x with zero := true, zeroTaken := false, waitAlign := false, serving := none, imageAt := s.now,
                                       forcePend := x.forcePend.map fun e => (none, e.2) }
  let s2 := { s1 with sib := { s1.sib with windows := [] }, stn := { s1.stn with voted := [] } }.bothPeers fun q =>
    { q with complete := q.complete && q.cycle == zeroRef, broken := false }
  ((((s2.putB .SCN_STAT_RUN true).put .SCN_STAT_PHASE 0).setReg 0x5048 0).putB .SCN_STAT_ERRTASK false).endSelection

/-- Does the engine hold its siblings' frames: complete images of every voting sibling for the cycle (R54, R441)? -/
def State.siblingsReady (s : State) (ref : Nat) : Bool :=
  s.votingSibs.all fun k => (s.peer k).complete && (s.peer k).cycle == ref

/-- Does the member hold its voting siblings' Group hash frames for every group armed in this cycle (R81)? -/
def State.hashesReady (s : State) : Bool :=
  s.alone || (List.range 16).all fun g =>
    !((s.kindOf g == 1 || s.kindOf g == 2) && ((s.group g).state == 2 || (s.group g).state == 3)) ||
      s.votingSibs.all fun k => (Sparse.at none (s.group g).sibHash k).isSome

/-- A cycle stops (R93, R210): no frames, the scan state of the last phase 6 restored, the output image kept, then the wait for a
sibling's later cycle. In simplex, or at position S, the next cycle starts from the member's own latch. -/
def State.stopCycle (s : State) : State :=
  let s1 := s.setScn fun x => { x.clear 0 with mem := x.saved, serving := none, stores := [], overrun := x.cycle,
                                               waitAlign := true, imageAt := s.now }
  (s1.putB .SCN_STAT_ERRTASK false).endSelection.put .SCN_STAT_PHASE (if s.flag .SCN_STAT_RUN then 6 else 0)

/-- A cycle ends by a fault of R210 or R222, with an E2 of its cause. -/
def State.endCycle (s : State) (cause detail : Nat) : State := s.stopCycle.raise 2 0x0D 0 cause detail

/-- An instruction is at its place: a program runs (phase 3, or a call in phase 2). -/
def State.inProgram (s : State) : Bool :=
  s.fld .SCN_STAT_PHASE == 3 || (s.fld .SCN_STAT_PHASE == 2 && s.flag .SCN_STAT_ERRTASK)

end Sys2Proof.Machine
end

