-- ==== Sys2Proof/Machine/Fixed.lean ====
section
/-! DEFINITION. The fabric's fixed-point arithmetic (R132 to R137) and the problem image as it lies in the Basin (R122 to
R132): header, directory, object table, Q-class runs, patterns, scaling, the checks of R124. -/

namespace Sys2Proof.Machine

/-! ### Arithmetic -/

/-- rnd(v, s): v shifted right by s places, to nearest with ties away from zero (R135). -/
def rndShift (v : Int) (s : Nat) : Int :=
  if s = 0 then v
  else if 0 ≤ v then (v + (2 ^ (s - 1) : Nat)) / (2 ^ s : Nat) else -((-v + (2 ^ (s - 1) : Nat)) / (2 ^ s : Nat))

/-- A product aligned by d (R134). -/
def alignBy (v d : Int) : Int := if 0 ≤ d then v * (2 ^ d.toNat : Nat) else rndShift v (-d).toNat

/-- The largest 72-bit accumulator value. -/
def acc72Max : Int := (2 ^ 71 : Nat) - 1

/-- A term added to a 72-bit accumulator, with the saturation flag (R134). -/
def accAdd (a : Int × Bool) (t : Int) : Int × Bool :=
  let v := a.1 + t
  if acc72Max < v then (acc72Max, true) else if v < -acc72Max - 1 then (-acc72Max - 1, true) else (v, a.2)

/-- A value held to 32 bits, with the saturation flag (R135). -/
def sat32 (v : Int) : Int × Bool :=
  if 2147483647 < v then (2147483647, true) else if v < -2147483648 then (-2147483648, true) else (v, false)

/-- Write-back of an accumulator (R135). -/
def writeBack (a : Int × Bool) (s : Nat) : Int × Bool :=
  let r := sat32 (rndShift a.1 s)
  (r.1, r.2 || a.2)

/-- num / den rounded once to an integer, ties away from zero; den is not 0. -/
def rndDiv (num den : Int) : Int :=
  let q : Int := (2 * num.natAbs + den.natAbs) / (2 * den.natAbs)
  if (num < 0) = (den < 0) then q else -q

/-- m × 2^e rounded once to an integer, ties away from zero. -/
def rndExp (m e : Int) : Int := if 0 ≤ e then m * (2 ^ e.toNat : Nat) else rndShift m (-e).toNat

/-- A number as m × 2^e, if it is finite. -/
def Num.parts : Num → Option (Int × Int)
  | .fin n m e => some (if n then -(m : Int) else m, e)
  | _ => none

/-- An engineering value stored with scale s and class e: rnd(v × s × 2^-e), saturated (R132). -/
def storeVal (v : Num) (word : Word) (scale : Word) (e : Int) : Int × Bool :=
  match v, (fmt32.read scale.toNat).parts with
  | .fin n m x, some (sm, se) => sat32 (rndExp ((if n then -(m : Int) else m) * sm) (x + se - e))
  | .inf n, _ => (if n then -2147483648 else 2147483647, true)
  | _, _ => (clampInt (-2147483648) 2147483647 (Config.nanStored word e), false)

/-- num / den as a binary32, rounded once. -/
def ratio32 (neg : Bool) (num den : Nat) (e : Int) : Word :=
  if den = 0 then 0 else
    w32 (fmt32.pack neg (2 * ((num <<< 80) / den) + (if (num <<< 80) % den = 0 then 0 else 1)) (e - 81))

/-- The engineering value of a stored one: n × 2^e / s, rounded once to binary32 (R132). -/
def engVal (n : Int) (scale : Word) (e : Int) : Word :=
  match (fmt32.read scale.toNat).parts with
  | some (sm, se) => ratio32 (decide (n < 0)) n.natAbs sm.natAbs (e - se)
  | none => 0

/-! ### The image -/

/-- A little-endian field of the Basin. -/
def State.leAt (s : State) (a k : Nat) : Nat := leNat (s.bytes a k)

/-- The base of a context's active image. -/
def State.imgBase (s : State) (n : Nat) : Nat := s.fld (.SLV_CTX_IMG_BASE n)

/-- Offset and length of section k of the image at a base (R123). -/
def State.section (s : State) (b k : Nat) : Nat × Nat := (b + s.leAt (b + 0x40 + 8 * k) 4, s.leAt (b + 0x44 + 8 * k) 4)

/-- An object table entry (R126). -/
structure Obj where
  id : Nat
  kind : Nat
  flags : Nat
  len : Nat
  qrun : Nat
  qend : Nat
  ix : Nat
  data : Nat
  deriving DecidableEq, Repr

/-- The object table of an image, in table order; qend is where the next object's runs begin. -/
def State.objects (s : State) (b : Nat) : List Obj :=
  let n := s.leAt (b + 0x16) 2
  let t := (s.section b 0).1
  (List.range n).map fun i => {
    id := s.leAt (t + 16 * i) 2, kind := s.leAt (t + 16 * i + 2) 1, flags := s.leAt (t + 16 * i + 3) 1,
    len := s.leAt (t + 16 * i + 4) 4, qrun := s.leAt (t + 16 * i + 8) 4,
    qend := if i + 1 < n then s.leAt (t + 16 * (i + 1) + 8) 4 else (s.section b 1).2 / 4, ix := i,
    data := s.leAt (t + 16 * i + 12) 4 }

/-- An object by its number. -/
def State.object (s : State) (b id : Nat) : Option Obj := (s.objects b).find? fun o => o.id == id

/-- The patterns of an image, as (id, rows, columns, column pointers, row indices) (R128). -/
def State.patterns (s : State) (b : Nat) : Nat → Nat → List (Nat × Nat × Nat × List Nat × List Nat)
  | 0, _ => []
  | f + 1, a =>
    if (s.section b 2).1 + (s.section b 2).2 < a + 16 then [] else
      let cols := s.leAt (a + 8) 4
      let nnz := s.leAt (a + 12) 4
      (s.leAt a 2, s.leAt (a + 4) 4, cols, (List.range (cols + 1)).map (fun j => s.leAt (a + 16 + 4 * j) 4),
        (List.range nnz).map fun j => s.leAt (a + 20 + 4 * cols + 4 * j) 4) ::
      State.patterns s b f (a + 20 + 4 * cols + 4 * nnz)

/-- The non-zeros of a matrix object as (row, column), in stored order. -/
def State.pattern (s : State) (b id : Nat) : List (Nat × Nat) :=
  match (s.patterns b 4096 (s.section b 2).1).find? fun p => p.1 == id with
  | some (_, _, cols, ptr, rows) =>
    (List.range cols).flatMap fun j => (List.range (ptr.getD (j + 1) 0 - ptr.getD j 0)).map fun k =>
      (rows.getD (ptr.getD j 0 + k) 0, j)
  | none => []

/-- Rows and columns of a matrix object. -/
def State.shape (s : State) (b id : Nat) : Nat × Nat :=
  match (s.patterns b 4096 (s.section b 2).1).find? fun p => p.1 == id with
  | some (_, r, c, _, _) => (r, c)
  | none => (0, 0)

/-- What runs are counted by: the element, or the column of a matrix's non-zero (R127). -/
def State.runKey (s : State) (b : Nat) (o : Obj) (elem : Nat) : Nat :=
  if o.kind = 2 then ((s.pattern b o.id).getD elem (0, elem)).2 else elem

/-- The class e of an element (R127). -/
def State.classOf (s : State) (b : Nat) (o : Obj) (elem : Nat) : Int :=
  let key := s.runKey b o elem
  let t := (s.section b 1).1
  (List.range (o.qend - o.qrun)).foldl (fun acc i =>
    let w := s.leAt (t + 4 * (o.qrun + i)) 4
    if bitsOf w 31 8 ≤ key then (bitsOf w 5 0 : Int) - 40 else acc) 0

/-- The scale of an element (R132): the scale record of its object, by the offset of the record. -/
def State.scaleOf (s : State) (b : Nat) (o : Obj) (elem : Nat) : Nat → Nat → Word
  | 0, _ => 0x3F800000
  | f + 1, a =>
    if (s.section b 6).1 + (s.section b 6).2 < a + 8 then 0x3F800000 else
      let cnt := s.leAt (a + 4) 4
      if s.leAt a 2 = o.id then
        let key := s.runKey b o elem
        (List.range cnt).foldl (fun acc i => if s.leAt (a + 8 + 8 * i) 4 ≤ key then w32 (s.leAt (a + 12 + 8 * i) 4) else acc)
          0x3F800000
      else State.scaleOf s b o elem f (a + 8 + 8 * cnt)

/-- The scale of an element of an image. -/
def State.scale (s : State) (b : Nat) (o : Obj) (elem : Nat) : Word := s.scaleOf b o elem 4096 (s.section b 6).1

/-- The row kind codes of R131. -/
def rowKinds : List Nat := [1, 2, 3, 4, 5, 6, 7, 8, 0x10, 0x11, 0x12, 0x13, 0x14, 0x20, 0x21, 0x22, 0x23, 0x24, 0x25, 0x30]

/-- Is every element of a list there once? -/
def distinct (l : List Nat) : Bool := l.length == l.eraseDups.length

/-- The bytes of an image. -/
def State.imageBytes (s : State) (b : Nat) : List Byte := s.bytes b (s.leAt (b + 0x1C) 4)

/-- The limits of R155 that the image's meaning decides: nodes and branches of an estimator, inequality rows, states and inputs of each
stage of an optimiser (assumption 90). -/
def shapeLimits (form nv : Nat) (x : ImageShape) : Bool :=
  match form with
  | 0 => decide (x.temps.length ≤ 16384) && decide (nv - 2 * x.temps.length ≤ 24576)
  | 1 => x.stages.all fun k => decide (k.1 ≤ 512) && decide (k.2.1 ≤ 192) && decide (k.2.2 ≤ 320)
  | _ => true

/-- The limits of R127, R129, R130, R131 and R155. A kernel table of at most 8 pieces of degree 3 has 7 + 32 elements (R137). -/
def State.imageLimits (s : State) (b : Nat) : Bool :=
  let form := s.leAt (b + 9) 1
  let nv := s.leAt (b + 0x0C) 4
  let nr := s.leAt (b + 0x10) 4
  let st := s.leAt (b + 0x14) 2
  let no := s.leAt (b + 0x16) 2
  let ns := s.leAt (b + 0x18) 4
  let runs := s.section b 1
  let tags := (List.range nv).map fun i => s.leAt ((s.section b 4).1 + 4 * i) 4
  decide (form ≤ 2) && decide (nv ≤ (if form = 2 then 16384 else 49152)) &&
  shapeLimits form nv (Config.imageShape (s.imageBytes b)) && decide (form ≠ 2 ∨ nr ≤ 32768) &&
  (if form = 1 then decide (1 ≤ st) && decide (st ≤ 96) else st == 1) &&
  decide (1 ≤ no) && decide (no ≤ 4096) && decide (1 ≤ ns) && decide (ns ≤ 16384) &&
  ((List.range (runs.2 / 4)).all fun i => decide (bitsOf (s.leAt (runs.1 + 4 * i) 4) 5 0 ≤ 48)) && distinct tags &&
  ((List.range (s.section b 5).2).all fun i => rowKinds.contains (s.leAt ((s.section b 5).1 + i) 1)) &&
  (form != 0 || decide (((List.range (s.section b 5).2).filter fun i =>
    decide (s.leAt ((s.section b 5).1 + i) 1 ≤ 8)).length ≤ 131072)) &&
  distinct ((s.objects b).map (·.id)) &&
  (s.objects b).all fun o => decide (o.id < 4096) && decide (1 ≤ o.kind) && decide (o.kind ≤ 5) &&
    decide (o.kind ≠ 5 ∨ o.len ≤ 39) && decide (o.len ≤ (if bitOf o.flags 0 then 0x100000 else 0x1000000))

/-- The hash of an image with its own hash field taken as zero (R123). -/
def State.imageDigest (s : State) (b : Nat) : BitVec 128 :=
  shaFirst 128 (s.bytes b 0x28 ++ List.replicate 16 0 ++ s.bytes (b + 0x38) (s.leAt (b + 0x1C) 4 - 0x38))

/-- The first failing check of R124 for context n, coded as R183; 0 when all pass. -/
def State.imageFault (s : State) (n b : Nat) : Nat :=
  if s.leAt b 4 ≠ 0x49504B57 then 1
  else if w32 (s.leAt (b + 0x3C) 4) ≠ crc32 (s.bytes b 0x3C) then 2
  else if BitVec.ofNat 128 (s.leAt (b + 0x28) 16) ≠ s.imageDigest b then 3
  else if s.leAt (b + 8) 1 ≠ n then 4
  else if !s.imageLimits b then 5
  else 0

/-- The tags of an image. -/
def State.tagsOf (s : State) (b : Nat) : List Word :=
  (List.range (s.leAt (b + 0x0C) 4)).map fun i => w32 (s.leAt ((s.section b 4).1 + 4 * i) 4)

/-- The key of an object's element among the values a context has published. -/
def okey (id elem : Nat) : Nat := id * 16777216 + elem

/-- The initial value of an element (section 7): one 32-bit stored integer an element, in object table order (assumption 31); 0 past the
section's end. -/
def State.initVal (s : State) (b : Nat) (o : Obj) (i : Nat) : Int :=
  let sec := s.section b 7
  let off := 4 * (((s.objects b).takeWhile fun p => p.ix != o.ix).foldl (fun acc p => acc + p.len) 0 + i)
  if sec.2 < off + 4 then 0 else signed 32 (s.leAt (sec.1 + off) 4)

/-! ### Values in the data region (R126, R128) -/

/-- The data region of a context (assumption 31). -/
def State.dataBase (s : State) (n : Nat) : Nat := Sparse.at 0 s.slv.places n

/-- The Basin word of an object's element. -/
def State.valWord (s : State) (n : Nat) (o : Obj) (i : Nat) : Nat := (s.dataBase n + o.data) / 4 + i

/-- The stored value of an element. -/
def State.valAt (s : State) (n : Nat) (o : Obj) (i : Nat) : Int := signed 32 (s.word (s.valWord n o i)).toNat

/-- The values of an object. -/
def State.objVals (s : State) (n : Nat) (o : Obj) : List Int := (List.range o.len).map fun i => s.valAt n o i

/-- Values written into an object through the solver port of the context (R109, R111). -/
def State.setVals (s : State) (n : Nat) (o : Obj) (i : Nat) (vs : List Int) : State :=
  s.reqWords n (s.valWord n o i) ((vs.take (o.len - i)).map fun v => w32 (twos 32 v))

/-- An image at a base made the active one of a context: its fingerprint, window and history shown, the context idle
(R124, R154). -/
def State.activate (s : State) (n b : Nat) : State :=
  let fp := shaFirst 64 (s.bytes (b + 8) 0x14 ++ (List.range 7).flatMap fun k => s.bytes (s.section b k).1 (s.section b k).2)
  let m := (s.section b 9).1
  let hist := ((s.objects b).find? fun o => o.kind == 4).map fun o => o.len / max 1 (Config.imageShape (s.imageBytes b)).temps.length
  let s1 := ((s.put (.SLV_CTX_IMG_BASE n) b).put (.SLV_CTX_FP_LO_FP n) fp.toNat).put (.SLV_CTX_FP_HI_FP n)
    (fp.toNat / 4294967296)
  let s2 := ((s1.put (.SLC_WIN_BASE n) (s.leAt m 4)).put (.SLC_WIN_LEN n) (s.leAt (m + 4) 4)).put (.SLV_CTX_STAT_STATE n) 1
  let s3 := if n = 0 then s2.put .SLV_EST_HIST_DEPTH (hist.getD 0) else s2
  (s.objects b).foldl (fun t o => t.setVals n o 0 ((List.range o.len).map fun i => s.initVal b o i)) s3

/-- The region that holds an address is RO from now on: the loader marks that of an active image (R109, R122). -/
def State.markRo (s : State) (a : Nat) : State :=
  match (List.range 32).find? fun k =>
    let base := s.fld (.BSN_REGION_LO_BASE k) * 4096
    s.flag (.BSN_REGION_HI_VALID k) && decide (base ≤ a) && decide (a < base + (s.fld (.BSN_REGION_HI_PAGES k) + 1) * 4096) with
  | some k => s.putB (.BSN_REGION_HI_RO k) true
  | none => s

/-- The image of a context checked and placed; a failing one leaves the context empty, its SLV_CTX_IMG 0, with an E2 IMAGE (R124, R156).
A context with no image stays empty. -/
def State.placeImage (s : State) (n : Nat) : State :=
  let b := s.imgBase n
  if b = 0 then s.put (.SLV_CTX_STAT_STATE n) 0
  else match s.imageFault n b with
    | 0 => (s.markRo b).activate n b
    | k => ((s.put (.SLV_CTX_STAT_STATE n) 0).put (.SLV_CTX_IMG_BASE n) 0).raise 2 0x0A n 1 k

end Sys2Proof.Machine
end

