-- ==== Sys2Proof/Machine/SolverBase.lean ====
section
/-! DEFINITION. Solver runs around their steps (R138 to R145, R153, R154, R157, R164, R178 to R182): triggers, the run clock,
delta lists, the initial-state map, warm start, ends of runs, the scatter and its publication. -/

namespace Sys2Proof.Machine

/-! ### Objects of a context -/

/-- The RESULT objects of a context's image (R126). -/
def State.results (s : State) (n : Nat) : List Obj := (s.objects (s.imgBase n)).filter fun o => bitOf o.flags 1
/-- The RESULT elements, in object table order; the first N_VAR of them are the variables (assumption 31). -/
def State.resultElems (s : State) (n : Nat) : List (Obj × Nat) :=
  (s.results n).flatMap fun o => (List.range o.len).map fun i => (o, i)
/-- The values of the RESULT objects. -/
def State.resultVals (s : State) (n : Nat) : List Int := (s.results n).flatMap fun o => s.objVals n o
/-- The RESULT objects given values. -/
def State.setResults (s : State) (n : Nat) (vs : List Int) : State :=
  ((s.results n).foldl (fun (a : State × List Int) o => (a.1.setVals n o 0 (a.2.take o.len), a.2.drop o.len)) (s, vs)).1
/-- N_VAR of a context's image. -/
def State.nVar (s : State) (n : Nat) : Nat := s.leAt (s.imgBase n + 0x0C) 4
/-- FORM of a context's image. -/
def State.form (s : State) (n : Nat) : Nat := s.leAt (s.imgBase n + 9) 1
/-- What the active image means (assumption 90). -/
def State.shapeOf (s : State) (n : Nat) : ImageShape := Config.imageShape (s.imageBytes (s.imgBase n))
/-- A stored value with the class and scale of its element. -/
def State.withClass (s : State) (n : Nat) (e : Obj × Nat) (v : Int) : Int × Int × Word :=
  (v, s.classOf (s.imgBase n) e.1 e.2, s.scale (s.imgBase n) e.1 e.2)
/-- The engineering value of an element as it stands (R132). -/
def State.engAt (s : State) (n : Nat) (e : Obj × Nat) : Word :=
  engVal (s.valAt n e.1 e.2) (s.scale (s.imgBase n) e.1 e.2) (s.classOf (s.imgBase n) e.1 e.2)
/-- An engineering value as an element stores it, with the saturation flag (R132). -/
def State.stored (s : State) (n : Nat) (e : Obj × Nat) (w : Word) : Int × Bool :=
  storeVal (fmt32.read w.toNat) w (s.scale (s.imgBase n) e.1 e.2) (s.classOf (s.imgBase n) e.1 e.2)

/-! ### Delta lists -/

/-- A block header of slot j of a context's delta queue: list, block, blocks, count (R142). -/
def State.dqBlock (s : State) (n j : Nat) : Nat × Nat × Nat × Nat :=
  let a := s.fld (.SLV_DQ_BASE n) / 4 + 64 * j
  let w := (s.word a).toNat
  (bitsOf w 31 16, bitsOf w 15 8, bitsOf w 7 0, bitsOf (s.word (a + 1)).toNat 4 0)

/-- How far a list lies ahead of the last one applied (R143). -/
def State.dqAhead (s : State) (n list : Nat) : Nat := (list + 65536 - s.fld (.SLV_DQ_LAST n)) % 65536

/-- An entry of a block applied, or skipped (R144). -/
def State.dqEntry (s : State) (n a : Nat) : State × Option Nat :=
  let h := (s.word a).toNat
  let v := s.word (a + 1)
  let id := bitsOf h 31 20
  let el := bitsOf h 19 0
  let b := s.imgBase n
  match s.object b id with
  | some o =>
    if !bitOf o.flags 0 ∨ o.len ≤ el ∨ fisNan v then (s.bump (.SLV_DQ_STAT_SKIPPED n), some id)
    else
      let r := s.stored n (o, el) v
      let t := s.setVals n o el [r.1]
      (if r.2 then t.putB (.SLV_DQ_STAT_SAT n) true else t, none)
  | none => (s.bump (.SLV_DQ_STAT_SKIPPED n), some id)

/-- A complete list applied: blocks in BLK order, entries in word order. -/
def State.dqApply (s : State) (n list nblk : Nat) : State × Option Nat :=
  (List.range nblk).foldl (fun acc k =>
    match (List.range 64).find? fun j => let h := s.dqBlock n j; h.1 == list && h.2.1 == k with
    | some j => (List.range (s.dqBlock n j).2.2.2).foldl (fun (acc2 : State × Option Nat) e =>
        let r := acc2.1.dqEntry n (s.fld (.SLV_DQ_BASE n) / 4 + 64 * j + 2 + 2 * e)
        (r.1, acc2.2.or r.2)) acc
    | none => acc) (s, none)

/-- LAST set: shown in SLV_DQ_LAST and kept in the context's Basin state (R143; assumption 43). -/
def State.setLast (s : State) (n l : Nat) : State :=
  let p := Sparse.at 0 s.slv.places (4 + n)
  let t := s.put (.SLV_DQ_LAST n) l
  if p = 0 then t else t.reqWords n (p / 4) [w32 l]

/-- Newer lists applied in ascending order until one is not complete (R143); a bad list is discarded (R144). -/
def State.deltaLists (s : State) (n : Nat) : Nat → State
  | 0 => s
  | f + 1 =>
    let lists := ((List.range 64).map fun j => (s.dqBlock n j).1).filter fun l => decide (1 ≤ s.dqAhead n l) &&
      decide (s.dqAhead n l ≤ 32767)
    match lists.foldl (fun (acc : Option Nat) l => match acc with
        | none => some l
        | some m => if s.dqAhead n l < s.dqAhead n m then some l else acc) none with
    | none => s
    | some l =>
      let blocks := ((List.range 64).filter fun j => (s.dqBlock n j).1 == l).map (s.dqBlock n)
      let nblk := (blocks.headD (0, 0, 0, 0)).2.2.1
      let bad := (blocks.any fun h => h.2.2.1 != nblk || h.2.2.2 == 0) || !distinct (blocks.map fun h => h.2.1)
      if bad then
        (((s.setLast n l).putB (.SLV_DQ_STAT_BAD n) true).raise 1 0x0A n 4 l).deltaLists n f
      else if (List.range nblk).all (fun k => blocks.any fun h => h.2.1 == k) then
        let r := s.dqApply n l nblk
        let t := (r.1.setLast n l).bumpBy (.SLV_DQ_STAT_APPLIED n) nblk
        (match r.2 with | some id => t.raise 0 0x0A n 3 id | none => t).deltaLists n f
      else s

/-! ### Start of a run -/

/-- The value a source context last published for an element of a RESULT object, or holds for it where it has published nothing yet
(R153, R14; assumption 31); none where its active image has no such element. -/
def State.published (s : State) (src id el : Nat) : Option Word :=
  if s.ctxState src = 0 then none
  else ((s.object (s.imgBase src) id).filter fun o => decide (el < o.len)).map fun o =>
    match (s.ctx src).published with
    | some m => Sparse.at 0 m (okey id el)
    | none => s.engAt src (o, el)

/-- The initial-state map of a FORM 1 image (R153): each entry through its engineering value to its element of x_0 or u_(−1)
(assumption 31); one whose source object does not exist leaves the image's initial value and is counted. -/
def State.initialMap (s : State) (n : Nat) : State :=
  let b := s.imgBase n
  let m := s.section b 8
  let fp := s.fld (.SLV_CTX_FP_LO_FP n) + 4294967296 * s.fld (.SLV_CTX_FP_HI_FP n)
  (List.range (m.2 / 12)).foldl (fun t i =>
    let a := m.1 + 12 * i
    let key := Config.initDest fp (s.leAt (a + 8) 4)
    let el := key % 16777216
    let dest := s.object b (key / 16777216)
    match s.published (s.leAt a 1 % 4) (s.leAt (a + 2) 2) (s.leAt (a + 4) 4) with
    | some v => match dest with
      | some o => t.setVals n o el [(s.stored n (o, el) v).1]
      | none => t
    | none =>
      let u := match dest with
        | some o => t.setVals n o el [s.initVal b o el]
        | none => t
      u.bump (.SLV_DQ_STAT_SKIPPED n)) s

/-- a of R178: the plan's first stage start in units of SLV_OPT_STAGE, modulo 128 (R151). -/
def State.stageIndex (s : State) (n : Nat) : Nat :=
  let st := max 1 (s.fld .SLV_OPT_STAGE)
  ((s.ctx n).start / (st * 1000000000) + 1) % 128

/-- The effective tags and fingerprint of a run (R178). -/
def State.effTags (s : State) (n : Nat) : List Word :=
  let ts := s.tagsOf (s.imgBase n)
  if s.form n = 1 then ts.map fun t => w32 (t.toNat / 128 * 128 + (t.toNat % 128 + s.stageIndex n) % 128) else ts
def State.effFp (s : State) (n : Nat) : DWord :=
  let fp := s.fld (.SLV_CTX_FP_LO_FP n) + 4294967296 * s.fld (.SLV_CTX_FP_HI_FP n)
  if s.form n = 1 then BitVec.ofNat 64 (fp % 2 ^ 57 + s.stageIndex n * 2 ^ 57) else BitVec.ofNat 64 fp

/-- A kept value in an element of the image that runs now: the integer itself where class and scale are the same, else through its
engineering value (R132; assumption 92). -/
def State.keptVal (s : State) (n : Nat) (e : Obj × Nat) (k : Int × Int × Word) : Int :=
  let x := s.withClass n e k.1
  if x = k then k.1 else (s.stored n e (engVal k.1 k.2.2 k.2.1)).1

/-- PATH, MATCHED and the values of the RESULT objects with which a run starts (R179). -/
def State.startValues (s : State) (n : Nat) : Nat × Nat × List Int :=
  let es := s.resultElems n
  let cold := es.map fun e => s.initVal (s.imgBase n) e.1 e.2
  if bitOf (s.fld .SLC_COLD_CTX) n then (4, 0, cold)
  else match (s.ctx n).warm with
    | none => (0, 0, cold)
    | some w =>
      if w.efp = s.effFp n then (1, s.nVar n, w.vals)
      else
        let kept := (s.effTags n).map fun t => (w.tags.findIdx? fun u => u == t).bind fun j => w.vars[j]?
        let hits := (kept.filter (·.isSome)).length
        if s.fld .SLC_WARM_MIN_PCT * s.nVar n ≤ 100 * hits then
          (2, hits, (es.zip cold).zipIdx.map fun x => match (kept[x.2]?).join with
            | some k => s.keptVal n x.1.1 k
            | none => x.1.2)
        else (3, hits, cold)

/-- The starting point of a run (R179): cold, whole, or by tags, with PATH and MATCHED. -/
def State.warmStart (s : State) (n : Nat) : State :=
  let r := s.startValues n
  let s1 := (s.setResults n r.2.2).setCtx n fun c => { c with tags := s.effTags n, efp := s.effFp n, path := r.1, matched := r.2.1 }
  ((s1.put (.SLC_WARM_PATH n) r.1).put (.SLC_WARM_MATCHED n) (min 65535 r.2.1)).put .SLC_COLD_CTX
    (s.fld .SLC_COLD_CTX - (if bitOf (s.fld .SLC_COLD_CTX) n then 2 ^ n else 0))

/-- A pending swap activated, or refused (R154). -/
def State.swap (s : State) (n : Nat) : State :=
  if !s.flag .SLV_SWAP_EN ∨ s.fld .SLV_SWAP_CTX ≠ n then s
  else
    let b := s.fld (.SLV_CTX_SBY_BASE n)
    let want := (List.range 4).foldl (fun acc k => acc * 4294967296 + s.fld (.SLV_SWAP_HASH k)) 0
    let t := s.putB .SLV_SWAP_EN false
    let bad := match s.imageFault n b with
      | 0 => if (s.imageDigest b).toNat = want then 0 else 6
      | k => k
    if bad = 0 then ((t.put (.SLV_CTX_SBY_BASE n) (s.imgBase n)).activate n b).putB (.SLV_CTX_STAT_SWAPPED n) true
    else t.raise 2 0x0A n 2 bad

/-- The base of the selected gather list (R161). -/
def State.gatherList (s : State) (n : Nat) : Nat := s.fld (.SLC_GLIST_BASE (2 * n + s.fld (.SLC_GATHER_SEL n)))

/-- The gather unit's copy: each entry's word with its substitute and forced flags (R161). sub decides whether a word is
replaced by its substitute value, which then carries the flag (R244). -/
def State.gather (s : State) (n : Nat) (sub : Nat → Option Word) : State :=
  let g := s.gatherList n
  let copy := fun j =>
    let w := s.leAt (g + 16 + 8 * j) 4 % 0x1000000
    match sub w with
    | some v => (v, true, s.forceFlag w)
    | none => (s.image w, s.subFlag w, s.forceFlag w)
  let l := if g = 0 then [] else (List.range (s.leAt (g + 8) 4)).map copy
  s.setCtx n fun c => { c with gathered := l }

/-- The structure fingerprint of the active image. -/
def State.fpNat (s : State) (n : Nat) : Nat := s.fld (.SLV_CTX_FP_LO_FP n) + 4294967296 * s.fld (.SLV_CTX_FP_HI_FP n)

/-- What a context holds when its run starts. -/
def Ctx.started (c : Ctx) (now : Nat) : Ctx :=
  { serial := c.serial + 1, start := c.start, tags := c.tags, efp := c.efp, path := c.path,
    matched := c.matched, warm := c.warm, published := c.published, gathered := c.gathered, lastMark := now }

/-- The registers of a run that starts. -/
def State.runRegs (s : State) (n : Nat) : State :=
  let s1 := (((s.put (.SLC_RUN_SERIAL n) (s.ctx n).serial).put (.SLC_ITER_TOTAL n) 0).put (.SLC_ITER_BEST n) 0).put
    (.SLC_ITER_REMOVED n) 0
  let s2 := (((s1.put (.SLC_PIVOT_CNT n) 0).put (.SLC_PIVOT_FIRST n) 0).putB (.SLC_SYNC_STAT_DROP_DN n) false).putB
    (.SLC_SYNC_STAT_DROP_UP n) false
  forN 4 (fun k t => (t.setReg (0xB280 + 8 * (4 * n + k)) 0).setReg (0xB284 + 8 * (4 * n + k)) 0) s2

/-- A run starts (R141): swap, starting point, delta lists, initial-state map; a gather list of another structure ends it with
STRUCTURE_MISMATCH (R180). The starting point comes before the lists and the map, so that it takes nothing back that they write
(assumption 92). -/
def State.startRun (s : State) (n : Nat) : State :=
  let s1 := (s.swap n).warmStart n
  let s2 := (s1.put (.SLV_DQ_STAT_APPLIED n) 0).deltaLists n 64
  let s3 := s2.sample 0x0A 3 n (s2.fld (.SLV_DQ_STAT_APPLIED n))
  let s4 := if s3.form n = 1 then s3.initialMap n else s3
  let s5 := (s4.setCtx n fun c => c.started s.now).put (.SLV_CTX_STAT_STATE n) 3
  let s6 := { s5 with slv := { s5.slv with ready := s5.slv.ready.filter (· != n), running := some n } }
  let s9 := s6.runRegs n
  let g := s9.gatherList n
  if g != 0 && s9.leAt g 8 != s9.fpNat n then (s9.failRun n 7).raise 2 0x0A n 9 0 else s9

/-! ### The fabric's order (R138, R139, R13, R164) -/

def State.fpri (s : State) (n : Nat) : Nat := s.fld (.SLV_CTX_CFG_FPRI n)

/-- The running context is checkpointed (R139, R164). -/
def State.checkpoint (s0 : State) (n : Nat) : State :=
  let s := s0.runClock n
  { s.put (.SLV_CTX_STAT_STATE n) 4 with slv := { s.slv with running := none } }

/-- A checkpointed context resumes (R13). -/
def State.resume (s : State) (n : Nat) : State :=
  let t := (s.put (.SLV_CTX_STAT_STATE n) 3).setCtx n fun c => { c with lastMark := s.now }
  { t with slv := { t.slv with running := some n } }

/-- The first context of the highest fabric priority in a list. -/
def State.firstOf (s : State) (l : List Nat) : Option Nat :=
  l.foldl (fun acc k => match acc with
    | none => some k
    | some a => if s.fpri k < s.fpri a then some k else acc) none

/-- The ready contexts, in order of readiness. -/
def State.readyCtx (s : State) : List Nat := s.slv.ready.filter fun k => s.ctxState k == 2

/-- The context that takes a free fabric: of those that wait the one of the highest priority; of equal ones a checkpointed context
first, then the order of readiness (R139, R13; assumption 91). -/
def State.nextCtx (s : State) : Option Nat := s.firstOf (((List.range 4).filter fun k => s.ctxState k == 4) ++ s.readyCtx)

/-- At the end of a step, or at a barrier, a ready context of higher priority interrupts the running one (R13, R139). -/
def State.preempt (s : State) : State :=
  match s.slv.running with
  | some r => match s.firstOf s.readyCtx with
    | some k => if s.ctxState r = 3 ∧ s.fpri k < s.fpri r then (s.checkpoint r).startRun k else s
    | none => s
  | none => s

/-- A trigger of a context: an idle one that may run becomes pending, its start instant now; one that is pending, running,
checkpointed or scattering only counts it (R138, R157). An empty context ignores it (R124). A running context that waits at a barrier
gives way at once. A member that may open no group starts no run, whose publication it could not stage (R76; assumption 91). -/
def State.trigger (s : State) (n : Nat) : State :=
  if !s.flag (.SLV_CTX_CFG_EN n) ∨ !s.loopsMayRun ∨ !s.mayOpen ∨ s.ctxState n = 0 then s
  else if s.ctxState n = 1 then
    let t := (s.put (.SLV_CTX_STAT_STATE n) 2).setCtx n fun c => { c with start := s.now }
    let u := { t with slv := { t.slv with ready := t.slv.ready ++ [n] } }
    match u.slv.running with
    | some r => if (u.ctx r).barrier.isSome then u.preempt else u
    | none => u
  else s.bump (.SLV_CTX_STAT_OVR n)

/-! ### The schedule -/

/-- A schedule record (R129). -/
structure Step where
  kind : Nat
  sub : Nat
  flags : Nat
  opa : Nat
  opb : Nat
  dest : Nat
  d : Int
  sh : Nat
  param : Nat
  deriving DecidableEq, Repr

/-- The schedule step k of a context. -/
def State.stepAt (s : State) (n k : Nat) : Step :=
  let a := (s.section (s.imgBase n) 3).1 + 32 * k
  { kind := s.leAt a 1, sub := s.leAt (a + 1) 1, flags := s.leAt (a + 2) 2, opa := s.leAt (a + 8) 4 % 4096,
    opb := s.leAt (a + 12) 4 % 4096, dest := s.leAt (a + 16) 4 % 4096, d := signed 8 (s.leAt (a + 21) 1),
    sh := s.leAt (a + 20) 1, param := s.leAt (a + 24) 4 }

/-- The step a context would run. -/
def State.stepNow (s : State) (n : Nat) : Step := s.stepAt n (s.ctx n).step

/-- Does a context run a step of a kind now: running, no barrier held, its schedule at such a step? -/
def State.atStep (s : State) (n kind : Nat) : Bool :=
  s.ctxState n == 3 && s.slv.running == some n && (s.ctx n).barrier.isNone && (s.stepNow n).kind == kind

/-- Is a context at a test of a SUB code? -/
def State.atTest (s : State) (n sub : Nat) : Bool := s.atStep n 7 && (s.stepNow n).sub == sub

/-- The next step. -/
def State.nextStep (s : State) (n : Nat) : State := s.setCtx n fun c => { c with step := c.step + 1 }

/-- The schedule's first scatter step. -/
def State.scatterStep (s : State) (n : Nat) : Nat :=
  ((List.range (s.leAt (s.imgBase n + 0x18) 4)).find? fun k => (s.stepAt n k).kind == 8).getD 0

/-- The run goes to its scatter with a status. -/
def State.toScatter (s : State) (n status : Nat) : State :=
  let k := s.scatterStep n
  s.setCtx n fun c => { c with status := status, step := k }

/-- A saturation of a step at a component: the first of the run is recorded, and the SAT flag sets (R167). -/
def State.saturated (s : State) (n i : Nat) : State :=
  if (s.ctx n).satStep.isSome then s
  else
    let k := (s.ctx n).step
    (((s.putB (.SLC_SAT_STEP_SET n) true).put (.SLC_SAT_STEP_STEP n) k).put (.SLC_SAT_INDEX n) i).setCtx n
      fun c => { c with satStep := some k, flags := c.flags ||| 1 }

/-- Results of a step, negated or added into D as FLAGS says (R160), written to an object, with saturations recorded; a stopping
saturation ends the run, its DETAIL the run's first saturating step (R167, R183). -/
def State.storeStep (s : State) (n : Nat) (st : Step) (d : Obj) (rs0 : List (Int × Bool)) (stops : Bool) : State :=
  let rs := rs0.zipIdx.map fun r =>
    let v := if bitOf st.flags 1 then -r.1.1 else r.1.1
    let t := sat32 (if bitOf st.flags 0 then s.valAt n d r.2 + v else v)
    (t.1, t.2 || r.1.2)
  let s1 := s.setVals n d 0 (rs.map Prod.fst)
  match rs.findIdx? fun r => r.2 with
  | none => s1.nextStep n
  | some i =>
    let s2 := s1.saturated n i
    if stops ∨ bitOf st.flags 2 then (s2.failRun n 5).raise 1 0x0A n 8 ((s2.ctx n).satStep.getD 0)
    else s2.nextStep n

/-! ### Scatter and publication -/

/-- Does a run return its fallback: a re-solve ended other than CONVERGED (R172)? -/
def State.fellBack (s : State) (n : Nat) : Bool := (s.ctx n).solved != 1 && (s.ctx n).fallback.isSome

/-- The iterate a run returns, with its residual slots, its iteration, its merit and its status: the current one when converged,
the fallback when a re-solve did not converge, else the best copy (R170, R172). -/
def State.returned (s : State) (n : Nat) : List Int × Sparse Word × Nat × Word × Nat :=
  let c := s.ctx n
  let current := fun st => (s.resultVals n, c.resid, s.fld (.SLC_ITER_TOTAL n), c.merit, st)
  if c.status ≤ 1 ∧ c.solved ≠ 2 then current 1
  else match c.fallback.filter fun _ => s.fellBack n with
    | some (v, r, it, m) => (v, r, it, m, 1)
    | none => match c.best with
      | some v => (v, c.bestResid, c.bestIter, c.bestMerit, c.status)
      | none => current c.status

/-- The last suspect of a run that returns its fallback counts as kept: it leaves the removed ones, its SLC_SUSP word and the flags
say so (R172). -/
def State.keepLast (s : State) (n : Nat) : State :=
  if s.fellBack n then
    let k := (s.ctx n).suspects.length - 1
    ((s.setCtx n fun c => { c with flags := c.flags ||| 6, suspects := c.suspects.dropLast, removed := c.removed.dropLast }).putB
      (.SLC_SUSP_ROW_REMOVED (4 * n + k)) false).put (.SLC_ITER_REMOVED n) k
  else s

/-- The run record (R181). -/
def State.runRecord (s : State) (n status flags best : Nat) (resid : Sparse Word) (m : Word) : List Byte :=
  let c := s.ctx n
  leBytes 4 c.serial ++ leBytes 1 status ++ leBytes 1 flags ++ leBytes 1 c.path ++ leBytes 1 c.removed.length ++
  leBytes 8 c.start ++ leBytes 4 c.clock ++ leBytes 2 (s.fld (.SLC_ITER_TOTAL n)) ++ leBytes 2 best ++
  leBytes 4 c.matched ++ leBytes 4 c.pivCnt ++ leBytes 4 c.pivFirst ++ wordBytes c.refRes ++ wordBytes m ++
  ((List.range 8).flatMap fun k => wordBytes (Sparse.at 0 resid k)) ++ leBytes 8 c.efp.toNat ++
  ((List.range 3).flatMap fun k => match c.suspects[k]? with
    | some (row, rn) => leBytes 4 row ++ wordBytes rn
    | none => leBytes 8 0) ++ leBytes 20 0

/-- Which group a plan goes into, with the one it supersedes: GRP_A or GRP_B, whichever is Free (R151). -/
def State.planGroup (s : State) : Option (Nat × Option Nat) :=
  let a := s.fld .SLV_PLAN_GRP_A
  let b := s.fld .SLV_PLAN_GRP_B
  let sup := fun h => if (s.group h).state = 2 ∨ (s.group h).state = 3 then some h else none
  if !s.mayOpen then none else if (s.group a).state = 0 then some (a, sup b) else if (s.group b).state = 0 then some (b, sup a) else none

/-- TXN_GRP_CFG of a group set. -/
def State.setGrpCfg (s : State) (g kind slot : Nat) (sup : Option Nat) : State :=
  let t := (s.put (.TXN_GRP_CFG_KIND g) kind).put (.TXN_GRP_CFG_SLOT g) slot
  match sup with
  | some h => (t.putB (.TXN_GRP_CFG_SUP_EN g) true).put (.TXN_GRP_CFG_SUP g) h
  | none => (t.putB (.TXN_GRP_CFG_SUP_EN g) false).put (.TXN_GRP_CFG_SUP g) 0

/-- The scatter map entries of a context: object, kind, element, destination (R162). -/
def State.scatterMap (s : State) (n : Nat) : List (Nat × Nat × Nat × Nat) :=
  let m := (s.section (s.imgBase n) 9).1
  (List.range (s.leAt (m + 8) 4)).map fun i =>
    let a := m + 16 + 12 * i
    (s.leAt a 2, s.leAt (a + 2) 1, s.leAt (a + 4) 4, s.leAt (a + 8) 4)

/-- An engineering value of a returned iterate: of a RESULT element from the iterate, of any other as it stands. -/
def State.outVal (s : State) (n : Nat) (v : List Int) (id el : Nat) : Word :=
  match (s.resultElems n).zipIdx.find? fun e => e.1.1.id == id && e.1.2 == el with
  | some (e, i) => let x := s.withClass n e (v.getD i 0); engVal x.1 x.2.2 x.2.1
  | none => match s.object (s.imgBase n) id with
    | some o => s.engAt n (o, el)
    | none => 0

/-- A plan that cannot be staged or armed: its group aborts, the PLAN flag clears, an E1 with the refusal code (R182). -/
def State.dropPlan (s : State) (g code : Nat) : State :=
  ((s.abortGroup g 2).setCtx 1 fun x => { x with flags := x.flags - (x.flags &&& 8) }).raise 1 0x0A 1 13 code

/-- The plan staged by the scatter of context 1 (R151, R182): each entry as a staged write of the page written, whose ERR_CODE takes a
refusal (R73); its group armed under the conditions of an arm command (R76). -/
def State.stagePlan (s : State) (v : List Int) : State :=
  match s.planGroup with
  | none => s
  | some (g, sup) =>
    let stage := max 1 (s.fld .SLV_OPT_STAGE) * 1000000000
    let t0 := (((s.openNow g false).setGrpCfg g 5 0 sup).put64 (0x8100 + 8 * g) (0x8104 + 8 * g)
      (((s.ctx 1).start / stage + 1) * stage))
    let r := (s.scatterMap 1).foldl (fun (acc : State × Option Nat) e =>
      if acc.2.isNone && (e.2.1 == 1 || e.2.1 == 2) then
        let page := if e.2.1 = 1 then 0x08 else e.2.2.2 / 0x1000
        let u := acc.1.stage g ⟨e.2.1 == 1, e.2.2.2⟩ (s.outVal 1 v e.1 e.2.2.1) false page
        (u.1, if u.2 then none else some (u.1.fld (.ERR_CODE_CODE page)))
      else acc) (t0, none)
    match r.2 with
    | some c => r.1.dropPlan g c
    | none => match r.1.armRefusal g with
      | some c => (r.1.refuse 0x08 c g).dropPlan g c
      | none => r.1.armNow g

/-- Does a status allow a plan (R180)? -/
def State.planAllowed (s : State) (n status : Nat) : Bool :=
  n == 1 && s.flag .SLV_PLAN_EN && (status == 1 || (status == 2 && s.flag .SLC_PLAN_ON_CAP) ||
    (status == 3 && s.flag .SLC_PLAN_ON_DEADLINE))

/-- The publication staged (R177): the flip of HALF alone; where the group may not be opened nothing is staged (R76). -/
def State.stagePub (s : State) (n : Nat) : State :=
  let g := s.fld (.SLC_GRP_PUB n)
  let o := s.openOwn g
  if o.2 then
    ((o.1.setGrpCfg g (if s.pos = 0 then 1 else 2) 0 none).stageEntry g ⟨false, 0xB160 + 4 * n⟩
      (w32 (1 - s.fld (.SLC_PUB_HALF n))) false).armNow g
  else o.1

/-- The words of a window half: the run record, then what the scatter map puts there (R162, R181). -/
def State.windowWords (s : State) (n : Nat) (v : List Int) (record : List Byte) : Sparse Word :=
  let rec0 := (bytesWords record).zipIdx.foldl (fun acc w => Sparse.put (0 : Word) acc w.2 w.1) []
  (s.scatterMap n).foldl (fun acc e =>
    if e.2.1 = 0 then Sparse.put (0 : Word) acc e.2.2.2 (s.outVal n v e.1 e.2.2.1) else acc) rec0

/-- The scatter (R162, R177): the unpublished half, the plan, the publication group armed; the context scatters until it
commits. -/
def State.scatter (s0 : State) (n : Nat) : State :=
  let r := s0.runClock n
  let (v, resid, best, m, status) := r.returned n
  let s := r.keepLast n
  let flags := (s.ctx n).flags + (if s.planAllowed n status ∧ s.planGroup.isSome then 8 else 0)
  let s1 := ((s.setResults n v).setCtx n fun c => { c with status := status, flags := flags, bestIter := best, resid := resid }).put
    (.SLV_CTX_STAT_STATE n) 5
  let s2 := if s.planAllowed n status then s1.stagePlan v else s1
  let hf := 2 * n + (1 - s.fld (.SLC_PUB_HALF n))
  let win := s2.windowWords n v (s2.runRecord n status (s2.ctx n).flags best resid m)
  { s2 with slv := { s2.slv with halves := Sparse.put [] s2.slv.halves hf win } }.stagePub n

/-- The event of a status (R180, R183). -/
def State.statusEvent (s : State) (n status : Nat) : State :=
  match status with
  | 2 => s.raise 0 0x0A n 5 (s.fld (.SLC_ITER_TOTAL n))
  | 3 => s.raise 0 0x0A n 6 (min 0xFFFFFF ((s.ctx n).clock / 1000))
  | 4 => s.raise 1 0x0A n 7 (s.fld (.SLC_ITER_TOTAL n))
  | _ => s

/-- The estimate history takes the temperatures of a published estimate as its newest second, the oldest ones drop out (R146). -/
def State.pushHistory (s : State) (n : Nat) : State :=
  match (s.objects (s.imgBase n)).find? fun o => o.kind == 4 with
  | none => s
  | some h =>
    let es := s.resultElems n
    let new := (s.shapeOf n).temps.zipIdx.map fun t => match es[t.1]? with
      | some e => (s.stored n (h, t.2) (s.engAt n e)).1
      | none => 0
    s.setVals n h 0 (new ++ (s.objVals n h).take (h.len - new.length))

/-- A publication has committed (R177, R178, R180): the run ends published, the warm-start state is kept where its status says so,
contexts with TRIG 4 on this one are triggered. -/
def State.publishedRun (s : State) (n : Nat) : State :=
  let c := s.ctx n
  if s.ctxState n ≠ 5 then s else
    let keep := c.status = 1 ∨ c.status = 2 ∨ c.status = 3
    let es := s.resultElems n
    let w : Warm := { efp := c.efp, tags := c.tags, vars := (es.take (s.nVar n)).map fun e => s.withClass n e (s.valAt n e.1 e.2),
                      vals := s.resultVals n }
    let pub := es.foldl (fun m e => Sparse.put (0 : Word) m (okey e.1.id e.2) (s.engAt n e)) []
    let s0 := s.setCtx n fun c => { c with published := some pub }
    let s1 := if keep then s0.setCtx n fun c => { c with warm := some w } else s0
    let s2 := forN 8 (fun k t => t.put (.SLC_RESID_RHO (8 * n + k)) (Sparse.at 0 c.resid k).toNat) s1
    let s3 := ((if s.form n = 0 then s2.pushHistory n else s2).putB (.SLC_RUN_PUBLISHED n) true).endRun n c.status
    let s4 := s3.statusEvent n c.status
    forN 4 (fun k t => if t.fld (.SLV_CTX_CFG_TRIG k) = 4 ∧ t.fld (.SLV_CTX_CFG_SRC k) = n then t.trigger k else t) s4

end Sys2Proof.Machine
end

