-- ==== Sys2Proof/Machine/Health.lean ====
section
/-! DEFINITION. The Health frame a member sends (R39, R40, R56, R309). -/

namespace Sys2Proof.Machine

/-- Own values and fault codes of the general inputs as a Health frame carries them (R40): a NaN for an input with AGREE = 0. -/
def State.ownAins (s : State) : List (Word × Nat) :=
  (List.range 16).map fun n =>
    (if s.flag (.AIN_CFG_AGREE n) then (Sparse.at {} s.adc.ain n).own else 0x7FC00000, s.fld (.AIN_STAT_FAULT n))

/-- The Health payload, 132 bytes (R40). -/
def State.healthPayload (s : State) (exit : Bool) : List Byte :=
  let ains := s.ownAins
  let can := (List.range 4).foldl (fun acc n => acc + b2n (s.fld (.CAN_STAT_STATE n) == 0) * 2 ^ n) 0
  leBytes 1 (s.role s.pos) ++ leBytes 1 (modeCode s.mode + 16 * s.fld .SYS_MODE_STARTUP) ++
    leBytes 1 (s.pendMax + 128 * b2n s.pendAny) ++ leBytes 1 (s.link 0 + 8 * s.link 1) ++ leBytes 2 ownClass ++
    leBytes 1 (b2n exit) ++ [0] ++ wordBytes s.sib.imageVer ++ leBytes 16 s.fp.toNat ++
    (List.range 8).flatMap (fun n => leBytes 2 (s.fld (.AOU_STAT_READBACK n))) ++ leBytes 4 0 ++
    ains.flatMap (fun e => wordBytes e.1) ++ ains.flatMap (fun e => leBytes 1 e.2) ++ leBytes 1 can ++ [0, 0, 0]

/-- A Health frame leaves on every link. At position S both links carry it with origin and destination 0 (R37). -/
def State.sendHealth (s : State) (exit : Bool) : State :=
  if s.pos = 0 then
    let f := s.mkFrame 0 5 0 true (s.healthPayload exit)
    ({ s with sib := { s.sib with seqs := Sparse.mod 0 s.sib.seqs 5 (· + 1) } }.send (.yarnan 0 f)).send (.yarnan 1 f)
  else s.sendBoth 5 0 true (s.healthPayload exit)

end Sys2Proof.Machine
end

