-- ==== Sys2Proof/Machine/Store.lean ====
section
/-! DEFINITION. Values stored into registers: the rule a field takes a value outside its range by (assumption 6), the
fields of a word that a write of an access type changes (R6, R8). -/

namespace Sys2Proof.Machine

/-- A binary32 NaN or negative non-zero value. -/
def badPos (w : Nat) : Bool := fmt32.isNan w || (decide (fmt32.signBit < w))

/-- The value a field of element n holds after value v is written to it. -/
def Norm.apply (m : Norm) (n v : Nat) : Nat :=
  match m with
  | .keep => v
  | .clamp lo hi => clampNat lo hi v
  | .zeroAs k => if v = 0 then k else v
  | .aboveAs max w => if max < v then w else v
  | .sclamp8 lo hi => twos 8 (clampInt lo hi (signed 8 v))
  | .fpri => if n = 0 then 0 else max 1 v
  | .trig => if 5 ≤ v then 0 else if v = 1 ∧ n ≠ 0 then 0 else v
  | .f32Min b => if fmt32.isNan v || fmt32.lt v b then b else v
  | .f32Max b => if fmt32.lt b v then b else v
  | .f32Pos b => if fmt32.isNan v || decide (fmt32.signBit ≤ v) || decide (v = 0) then b else v
  | .f32Unit => if badPos v then 0 else if fmt32.lt 0x3F800000 v then 0x3F800000 else v
  | .f32Range24 => if badPos v then 0 else if fmt32.lt 0x41C00000 v then 0x41C00000 else v

/-- The word a register holds after a write of w to its fields of the access types given. -/
def storeFields (r : RegDesc) (n : Nat) (p : Acc → Bool) (old w : Word) : Word :=
  r.fields.foldl (fun acc f => if p f.acc then
    (Fd.mk 0 f.hi f.lo).into acc (f.norm.apply n ((Fd.mk 0 f.hi f.lo).of w)) else acc) old

/-- A write to the fields of some access types of the register at an address; an offset without a register takes
nothing (R431). -/
def State.store (s : State) (p : Acc → Bool) (adr : Nat) (w : Word) : State :=
  match regAt adr with
  | some (r, n) => s.setReg adr (storeFields r n p (s.reg adr) w)
  | none => s

/-- Has the register at an address a field of an access type? -/
def hasAcc (a : Acc) (adr : Nat) : Bool := match regAt adr with
  | some (r, _) => r.fields.any fun f => f.acc == a
  | none => false

/-- The fields that keep what was last written: RO, RW and RWS. -/
def heldAcc : Acc → Bool
  | .ro => true
  | .rw => true
  | .rws => true
  | _ => false

/-- A low word that waits for its high word takes its place: the high word is being written (R432). -/
def State.takeLow (s : State) (lo : Nat) : State := match Sparse.at none s.lowHeld lo with
  | some w => { s.store (· == .rw) lo w with lowHeld := Sparse.put none s.lowHeld lo none }
  | none => s

end Sys2Proof.Machine
end

