-- ==== Sys2Proof/Machine/Energy.lean ====
section
/-! DEFINITION. Energy and quantities (R279 to R298): the quantity table and its checks, accumulators, samples, windows of
the power inputs, intervals, the commit buffer, saves and restore, pulse outputs. -/

namespace Sys2Proof.Machine

def State.setNrg (s : State) (f : NrgState → NrgState) : State := { s with nrg := f s.nrg }

/-! ### The quantity table -/

/-- A word of quantity q's table entry (R279). -/
def State.qtyWord (s : State) (q k : Nat) : Word := s.word (s.fld .NRG_QTY_BASE / 4 + 8 * q + k)
def State.qtyCtrl (s : State) (q : Nat) : Nat := (s.qtyWord q 0).toNat
def State.qtyKind (s : State) (q : Nat) : Nat := bitsOf (s.qtyCtrl q) 3 1
def State.qtyAcc (s : State) (q : Nat) : Nat := bitsOf (s.qtyCtrl q) 11 4
def State.qtyU (s : State) (q : Nat) : Int := signed 8 (bitsOf (s.qtyCtrl q) 31 24)
def State.qtyEn (s : State) (q : Nat) : Bool := s.fld .NRG_QTY_BASE != 0 && bitOf (s.qtyCtrl q) 0
def State.qtyPeriod (s : State) (q : Nat) : Nat := bitsOf (s.qtyWord q 1).toNat 21 0
/-- How many accumulators a quantity has. -/
def qtySpan (kind : Nat) : Nat := if kind = 1 then 8 else 2

/-- The offset of the first field that fails R280. -/
def State.qtyFault (s : State) (q : Nat) : Option Nat :=
  let c := s.qtyCtrl q
  let k := s.qtyKind q
  let a := s.qtyAcc q
  let wordBad := fun j => decide (0x80000 ≤ bitsOf (s.qtyWord q j).toNat 23 0)
  if k = 0 ∨ 4 < k then some 0
  else if 255 < a + qtySpan k - 1 ∨ (List.range 128).any (fun p => p != q && s.qtyEn p &&
      decide (s.qtyAcc p < a + qtySpan k) && decide (a < s.qtyAcc p + qtySpan (s.qtyKind p))) then some 0
  else if k = 1 ∧ bitsOf c 16 13 = 0 then some 0
  else if (k = 2 ∨ k = 4) ∧ (s.qtyPeriod q = 0 ∨ 2400000 < s.qtyPeriod q) then some 4
  else if (k = 2 ∨ k = 4) ∧ wordBad 2 then some 8
  else if k = 2 ∧ wordBad 3 then some 0x0C
  else if k = 2 ∧ wordBad 4 then some 0x10
  else if 2 ≤ k ∧ !fisFin (s.qtyWord q 5) then some 0x14
  else none

/-- The NRG_INVALID bit of a quantity. -/
def State.qtyInvalid (s : State) (q : Nat) (b : Bool) : State := s.slotBit .NRG_INVALID_INV q b

/-- The table checked after a commit that touched it: each failing enabled entry has its NRG_INVALID bit and an E1 CFG
(R280). -/
def State.checkQty (s : State) : State :=
  forN 128 (fun q t => if t.qtyEn q then match t.qtyFault q with
    | some off => (t.qtyInvalid q true).raise 1 0x11 q 7 off
    | none => t.qtyInvalid q false
    else t.qtyInvalid q false) s

/-- Does a quantity integrate? -/
def State.qtyRuns (s : State) (q : Nat) : Bool := s.flag .NRG_CTRL_EN && s.flag .NRG_STAT_RUN && s.qtyEn q && (s.qtyFault q).isNone

/-! ### Accumulators -/

/-- 10^u in binary64. -/
def pow10 (u : Int) : DWord :=
  if 0 ≤ u then dofInt ((10 ^ u.toNat : Nat) : Int) else ddiv (dofInt 1) (dofInt ((10 ^ (-u).toNat : Nat) : Int))

/-- An increment x ≥ 0 in base units added to an accumulator of unit exponent u (R281). -/
def State.addAcc (s : State) (a : Nat) (u : Int) (x : DWord) : State :=
  let r := dadd (Sparse.at 0 s.nrg.res a) (dmul x (pow10 (-u)))
  let w := ((fmt64.floor r.toNat).getD 0).toNat
  let old := (Sparse.at 0 s.nrg.acc a).toNat
  let s1 := s.setNrg fun n => { n with acc := Sparse.put 0 n.acc a (BitVec.ofNat 64 (old + w)),
                                       res := Sparse.put 0 n.res a (dsub r (dofInt w)),
                                       inc := Sparse.mod 0 n.inc a (· + w) }
  (if 2 ^ 64 ≤ old + w then (s1.slotBit .NRG_WRAP a true).raise 0 0x11 a 3 a else s1)

/-- The sign of a binary64 number: 1, 0 or −1. -/
def dsign (x : DWord) : Int := if dlt 0 x then 1 else if dlt x 0 then -1 else 0

/-- A sample's sign counted: a reversal where it differs from the last non-zero one (R282). -/
def State.signSample (s : State) (q : Nat) (sg : Int) : State :=
  if sg = 0 then s else
    let was := Sparse.at 0 s.nrg.sign q
    let s1 := s.setNrg fun n => { n with sign := Sparse.put 0 n.sign q sg }
    if was = 0 ∨ was = sg then s1 else
      s1.setNrg fun n => { n with rev := Sparse.mod 0 n.rev q (· + 1), irev := Sparse.mod 0 n.irev q (· + 1) }

/-- A signed increment: positive to import, the magnitude of a negative one to export (R282). -/
def State.addSigned (s : State) (q : Nat) (x : DWord) : State :=
  let t := s.signSample q (dsign x)
  if dsign x = 1 then t.addAcc (s.qtyAcc q) (s.qtyU q) x
  else if dsign x = -1 then t.addAcc (s.qtyAcc q + 1) (s.qtyU q) (dneg x) else t

/-- The 64-bit accumulator in its engineering unit, binary32: count × 10^U (R219, RDQ), U of the quantity that owns it. -/
def accEng (v : DWord) (u : Int) : Word :=
  narrow (dmul (BitVec.ofNat 64 (fmt64.ofInt (v.toNat : Int) 0)) (pow10 u))

/-- U of the quantity an accumulator belongs to. -/
def State.accU (s : State) (a : Nat) : Int :=
  match (List.range 128).find? fun q => s.qtyEn q && decide (s.qtyAcc q ≤ a) && decide (a < s.qtyAcc q + qtySpan (s.qtyKind q)) with
  | some q => s.qtyU q
  | none => 0

/-! ### The commit buffer and its slots -/

/-- The record of the present state (R293). -/
def State.energyRec (s : State) (kind seq : Nat) : EnergyRec :=
  { seq := seq, kind := kind, timeValid := s.flag .SPR_STAT_TIME_VALID, countValid := s.flag .SPR_STAT_COUNT_VALID,
    fp32 := s.reg 0x60, time := s.now, tick := s.time.count, acc := s.nrg.acc, res := s.nrg.res, rev := s.nrg.rev,
    irev := s.nrg.irev, spc := (List.range 8).foldl (fun m n => Sparse.put 0 (Sparse.put 0 m (2 * n)
      (s.fld (.PLS_SPC_FWD_COUNT n))) (2 * n + 1) (s.fld (.PLS_SPC_REV_COUNT n))) [],
    backlog := (List.range 4).foldl (fun m n => Sparse.put 0 m n (s.fld (.PLS_OUT_STAT_BACKLOG n))) [] }

/-- A mirror burst (R292): the commit buffer follows the accumulators, unless it is frozen. -/
def State.mirror (s : State) : State :=
  if s.rsv.frozen ∨ !s.flag .NRG_STAT_RUN then s else { s with rsv := { s.rsv with buffer := some (s.energyRec 0 0) } }

/-- The slot of the newest valid record: of two, the one whose SEQ is ahead (R293). -/
def RsvState.newest (r : RsvState) : Option (Nat × EnergyRec) :=
  match Sparse.at none r.slots 0, Sparse.at none r.slots 1 with
  | some a, some b => if 1 ≤ (b.seq + 2 ^ 32 - a.seq) % 2 ^ 32 ∧ (b.seq + 2 ^ 32 - a.seq) % 2 ^ 32 < 2 ^ 31 then some (1, b)
      else some (0, a)
  | some a, none => some (0, a)
  | none, some b => some (1, b)
  | none, none => none

/-- The registers that show the newest valid slot. -/
def State.showSlot (s : State) : State :=
  match s.rsv.newest with
  | some (i, r) => (s.put .NRG_SLOT_STAT_SLOT i).put .NRG_SLOT_SEQ r.seq
  | none => (s.put .NRG_SLOT_STAT_SLOT 0).put .NRG_SLOT_SEQ 0

/-- A record of the commit buffer written to the slot that does not hold the newest valid one (R293, R294). Torn, the slot
holds no valid record. The buffer is what is written; an empty one writes nothing. -/
def State.saveSlot (s : State) (kind : Nat) (whole : Bool) : State :=
  match s.rsv.buffer with
  | none => s
  | some b =>
    let (slot, seq) := match s.rsv.newest with
      | some (i, r) => (1 - i, (r.seq + 1) % 4294967296)
      | none => (0, 1)
    let r := { b with seq := seq, kind := kind, timeValid := s.flag .SPR_STAT_TIME_VALID,
                      countValid := s.flag .SPR_STAT_COUNT_VALID, time := s.now, tick := s.time.count }
    ({ s with rsv := { s.rsv with slots := Sparse.put none s.rsv.slots slot (if whole then some r else none),
                                  savedAt := if kind = 1 then some s.now else s.rsv.savedAt } }).showSlot

/-- A Lost interval record (R391). -/
def State.lostRecord (s : State) (r : EnergyRec) (reason : Nat) (qs : List Nat) : State :=
  let known := r.timeValid && s.flag .SPR_STAT_TIME_VALID
  let fin := if known then r.time + (s.time.count - r.tick) * 1000000000 / 32768 else 0
  let mask := fun k => w32 (qs.foldl (fun acc q => if q / 32 = k then acc + 2 ^ (q % 32) else acc) 0)
  s.enqueue (s.mkRec 4 r.time (b2n (!known))
    [w32 fin, w32 (fin / 4294967296), mask 0, mask 1, mask 2, mask 3, w32 r.seq, w32 reason, 0, 0, 0])

/-- Is a quantity a kind 3 one with a Spring source? -/
def State.springQty (s : State) (q : Nat) : Bool := s.qtyKind q == 3 && decide (bitsOf (s.qtyWord q 2).toNat 5 0 < 8)

/-- The Spring catch-up of R296: pulses counted since the source. -/
def State.catchUp (s : State) (r : EnergyRec) : State :=
  forN 128 (fun q t =>
    if t.qtyRuns q && t.springQty q then
      let i := bitsOf (t.qtyWord q 2).toNat 5 0
      let f : Nat := (t.fld (.PLS_SPC_FWD_COUNT i) + 2 ^ 32 - Sparse.at 0 r.spc (2 * i)) % 2 ^ 32
      let b : Nat := (t.fld (.PLS_SPC_REV_COUNT i) + 2 ^ 32 - Sparse.at 0 r.spc (2 * i + 1)) % 2 ^ 32
      let k := widen (t.qtyWord q 5)
      (t.addSigned q (dmul (dofInt f) k)).addSigned q (dneg (dmul (dofInt b) k))
    else t) s

/-- The Spring counts as they stand become the last seen. -/
def State.seeSpc (s : State) : State :=
  s.setNrg fun n => { n with spcSeen := (List.range 8).foldl (fun m i => Sparse.put 0 (Sparse.put 0 m (2 * i)
    (s.fld (.PLS_SPC_FWD_COUNT i))) (2 * i + 1) (s.fld (.PLS_SPC_REV_COUNT i))) [] }

/-- An output put in use at a commit: due pulses count from its accumulator's value then (R298). -/
def State.pulseEnable (s : State) (m : Nat) : State :=
  let a := s.fld (.PLS_OUT_CFG_CTRL_SRC m)
  let v := ((Sparse.at 0 s.nrg.acc a).toNat + max 1 (s.fld (.PLS_OUT_CFG_WEIGHT m))) % 2 ^ 64
  s.setNrg fun n => { n with outNext := Sparse.put 0 n.outNext m v, outDue := Sparse.put none n.outDue m none,
                             outGap := Sparse.put none n.outGap m none }

/-- The outputs in use count from their accumulators' values as they were just loaded, which is no rise (R298). -/
def State.rebasePulses (s : State) : State :=
  forN 4 (fun m t => if t.flag (.PLS_OUT_CFG_CTRL_EN m) then t.pulseEnable m else t) s

/-- The energy block's state restored when the image is applied after a reset (R296): from the commit buffer after a reset that
left it, else from the newest valid slot. -/
def State.energyRestore (s : State) : State :=
  let sprPor := s.flag .SYS_RST_CAUSE_SPR_POR
  let cold := sprPor || s.flag .SYS_RST_CAUSE_MAIN_POR || s.flag .SYS_RST_CAUSE_WAKE
  let (src, r) := match if cold then none else s.rsv.buffer with
    | some b => (1, some b)
    | none => match s.rsv.newest with
      | some (_, r) => (if r.kind = 2 then 2 else if r.kind = 3 then 3 else 4, some r)
      | none => (5, none)
  let s1 := (((s.showSlot.putB .NRG_STAT_RUN true).put .NRG_SLOT_STAT_SOURCE src).seeSpc).setNrg fun n => { n with restart := true }
  match r with
  | none => s1.rebasePulses.mirror
  | some r =>
    let s2 := (s1.setNrg fun n => { n with acc := r.acc, res := r.res, rev := r.rev, irev := r.irev }).rebasePulses
    let s3 := forN 4 (fun m t => t.put (.PLS_OUT_STAT_BACKLOG m) (Sparse.at 0 r.backlog m)) s2
    let s4 := s3.putB .NRG_SLOT_STAT_FP_DIFF (src != 1 && r.fp32 != s.reg 0x60)
    let catch_ := src = 1 ∨ (!sprPor ∧ r.countValid ∧ s.flag .SPR_STAT_COUNT_VALID)
    let s5 := if catch_ then s4.catchUp r else s4
    let all := (List.range 128).filter s.qtyEn
    let s6 := if src = 1 then s5
      else if sprPor then
        (((s5.lostRecord r 2 all).putB .NRG_SLOT_STAT_LOST true).putB .NRG_SLOT_STAT_SPC_LOST true).raise 1 0x11 0 6 0
      else if src = 4 then
        (s5.lostRecord r 1 (all.filter fun q => !(decide catch_ && s.springQty q))).putB .NRG_SLOT_STAT_LOST true
      else s5
    let s7 := if src = 4 then s6.raise 1 0x11 0 4 r.seq else s6
    s7.mirror

/-! ### Samples at the base tick -/

/-- A table in the layout of a kernel table, binary32 entries evaluated in binary64 (R287, R137). -/
def State.tableAt (s : State) (base : Nat) (x : DWord) : DWord :=
  let b := fun k => widen (s.word (base / 4 + k))
  let p := (List.range 7).foldl (fun acc k => if dle (b k) x then k + 1 else acc) 0
  let t := dsub x (b (if p = 0 then 0 else p - 1))
  let c := fun j => widen (s.word (base / 4 + 7 + 4 * p + j))
  dadd (c 0) (dmul t (dadd (c 1) (dmul t (dadd (c 2) (dmul t (c 3))))))

/-- A kind 2 or 4 sample of a quantity (R287, R288). -/
def State.heatSample (s : State) (q : Nat) : State :=
  let kind := s.qtyKind q
  let adr := fun j => bitsOf (s.qtyWord q j).toNat 23 0
  let ws := if kind = 2 then [adr 2, adr 3, adr 4] else [adr 2]
  let per := s.qtyPeriod q
  let times := fun (x : DWord) => dmul (dmul x (dofInt per)) (ddiv (dofInt 25) (dofInt 100000))
  match ws.find? fun w => !fisFin (s.image w) with
  | some w =>
    let s1 := (s.setNrg fun n => { n with invalid := Sparse.mod 0 n.invalid q (· + per),
                                          episode := addOnce n.episode q }).qtyInvalid q true
    if s.nrg.episode.contains q then s1 else s1.raise 1 0x11 q 2 w
  | none =>
    let sub := ws.any s.subFlag
    let s1 := (s.setNrg fun n => { n with episode := n.episode.filter (· != q),
                                          subst := if sub then Sparse.mod 0 n.subst q (· + per) else n.subst }).qtyInvalid q false
    let k := widen (s.qtyWord q 5)
    let v := fun j => widen (s.image (adr j))
    let x := if kind = 4 then times (dmul (v 2) k) else
      let ts := v 3
      let tr := v 4
      let rho := s.tableAt (s.fld .NRG_RHO_BASE) (if bitOf (s.qtyCtrl q) 12 then tr else ts)
      let cp := s.tableAt (s.fld .NRG_CP_BASE) (ddiv (dadd ts tr) (dofInt 2))
      ddiv (times (dmul (dmul (dmul (dmul (v 2) k) rho) cp) (dsub ts tr))) (dofInt 3600)
    s1.addSigned q x

/-- k pulses of a kind 3 quantity, forward or reverse (R289). -/
def State.pulses (s : State) (q k : Nat) (rev : Bool) : State :=
  if k = 0 then s else
    let x := dmul (dofInt k) (widen (s.qtyWord q 5))
    s.addSigned q (if rev then dneg x else x)

/-- The filtered state of a digital channel. -/
def State.dioState (s : State) (n : Nat) : Bool := s.flag (.DIO_STAT_FILT n)

/-- A kind 3 sample at a base tick (R289). -/
def State.pulseSample (s : State) (q : Nat) : State :=
  let a := bitsOf (s.qtyWord q 2).toNat 5 0
  if a < 8 then
    let f := (s.fld (.PLS_SPC_FWD_COUNT a) + 2 ^ 32 - Sparse.at 0 s.nrg.spcSeen (2 * a)) % 2 ^ 32
    let b := (s.fld (.PLS_SPC_REV_COUNT a) + 2 ^ 32 - Sparse.at 0 s.nrg.spcSeen (2 * a + 1)) % 2 ^ 32
    (s.pulses q f false).pulses q b true
  else if a < 40 ∧ s.dioState (a - 8) ∧ !s.nrg.dioBefore.contains (a - 8) then
    let d := (s.qtyWord q 3).toNat
    let dir := bitsOf d 5 0
    s.pulses q 1 (bitOf d 6 && decide (8 ≤ dir) && decide (dir < 40) && s.dioState (dir - 8))
  else s

/-- The quantities at a base tick edge (R287, R289, R292). -/
def State.energyTick (s : State) (t : Nat) : State :=
  let s1 := forN 128 (fun q u =>
    if !u.qtyRuns q then u
    else match u.qtyKind q with
      | 2 => if t % max 1 (u.qtyPeriod q) = 0 then u.heatSample q else u
      | 4 => if t % max 1 (u.qtyPeriod q) = 0 then u.heatSample q else u
      | 3 => u.pulseSample q
      | _ => u) s
  (s1.seeSpc.setNrg fun n => { n with dioBefore := (List.range 32).filter s1.dioState }).mirror

/-! ### Windows -/

/-- The samples held of power input k, oldest first, in primary units. -/
def State.waveOf (s : State) (k : Nat) : List (Nat × DWord) :=
  (Sparse.at [] s.nrg.wave k).reverse.map fun p => (p.1, dmul (widen p.2) (widen (w32 (s.fld (.NRG_RATIO k)))))

def dsum (l : List DWord) : DWord := l.foldl dadd 0

/-- A wave's value a quarter period earlier, interpolated linearly between stored samples (R285). -/
def waveAt (w : List (Nat × DWord)) (t : Nat) : DWord :=
  match (w.filter fun p => decide (p.1 ≤ t)).getLast?, w.find? fun p => decide (t < p.1) with
  | some a, some b => dadd a.2 (dmul (dsub b.2 a.2) (ddiv (dofInt (t - a.1 : Nat)) (dofInt (b.1 - a.1 : Nat))))
  | some a, none => a.2
  | none, some b => b.2
  | none, none => 0

/-- The samples taken after one instant and not after another. -/
def within (a b : Nat) (w : List (Nat × DWord)) : List (Nat × DWord) := w.filter fun p => decide (a < p.1) && decide (p.1 ≤ b)

/-- U, I, P, Q, S of phase n over the window that ends at an instant (R285). -/
def State.phaseVals (s : State) (t n quarter : Nat) : DWord × DWord × DWord × DWord × DWord :=
  let hist := s.waveOf n
  let v := within s.nrg.winStart t hist
  let i := within s.nrg.winStart t (s.waveOf (4 + n))
  let cnt := dofInt (min v.length i.length)
  let z := v.zip i
  let mean := fun l => ddiv (dsum l) cnt
  let u := dsqrt (mean (z.map fun p => dmul p.1.2 p.1.2))
  let c := dsqrt (mean (z.map fun p => dmul p.2.2 p.2.2))
  let pw := mean (z.map fun p => dmul p.1.2 p.2.2)
  let qv := mean (z.map fun p => dmul (waveAt hist (p.2.1 - quarter)) p.2.2)
  (u, c, pw, qv, dmul u c)

/-- A window ends at an instant (R285, R286): electric sets are routed, the measurement words written, the next window
begins. -/
def State.windowEnd (s : State) (t : Nat) (noVolt : Bool) : State :=
  let src := s.fld .PMS_CTRL_FSRC
  let nominal := if s.flag .PMS_CTRL_NOM then 60 else 50
  let per := if Sparse.at 0 s.nrg.period src = 0 then 1000000000 / nominal else Sparse.at 0 s.nrg.period src
  let vals := (List.range 4).map fun n => s.phaseVals t n (per / 4)
  let dt := t - s.nrg.winStart
  let hours := fun (x : DWord) => ddiv (dmul x (ddiv (dofInt dt) (dofInt 1000000000))) (dofInt 3600)
  let at0 := fun (n : Nat) => vals.getD n (0, 0, 0, 0, 0)
  let s1 := forN 128 (fun q u =>
    if u.qtyRuns q && u.qtyKind q == 1 then
      let ph := (List.range 4).filter fun n => bitOf (u.qtyCtrl q) (13 + n)
      let p := dsum (ph.map fun n => (at0 n).2.2.1)
      let qq := dsum (ph.map fun n => (at0 n).2.2.2.1)
      let sv := dsum (ph.map fun n => (at0 n).2.2.2.2)
      let a := u.qtyAcc q
      let ex := u.qtyU q
      let neg := dlt p 0
      let u1 := u.addSigned q (hours p)
      let quad := if !neg then (if dlt qq 0 then 3 else 0) else (if dlt qq 0 then 2 else 1)
      let mag := if dlt qq 0 then dneg qq else qq
      let u2 := (u1.addAcc (a + 2 + quad) ex (hours mag)).addAcc (a + (if neg then 7 else 6)) ex (hours sv)
      if noVolt then u2.setNrg fun n => { n with novolt := Sparse.mod 0 n.novolt q (· + dt) } else u2
    else u) s
  let words := (vals.flatMap fun v => [narrow v.1, narrow v.2.1, narrow v.2.2.1, narrow v.2.2.2.1, narrow v.2.2.2.2]) ++
    [narrow (dsum (vals.map fun v => v.2.2.1)), narrow (dsum (vals.map fun v => v.2.2.2.1)),
     narrow (dsum (vals.map fun v => v.2.2.2.2))] ++
    ((List.range 4).map fun n => if bitOf (s.fld .NRG_STAT_VABS) n then 0 else Sparse.at 0 s.nrg.freq n) ++
    [w32 (s.fld .NRG_STAT_VABS + 16 * b2n noVolt), 0, 0, 0, 0]
  let s2 := if s1.flag .NRG_CTRL_EN ∧ s1.flag .NRG_STAT_RUN then s1.reqWords 11 (s1.fld .NRG_IMG_WADDR) words else s1
  let keep := fun (m : Sparse (List (Nat × Word))) => m.map fun e => (e.1, e.2.filter fun p => decide (t < p.1 + per))
  let rms := (List.range 4).foldl (fun m n => Sparse.put (0 : Word) m n (narrow (at0 n).2.1)) []
  (((s2.setNrg fun n => { n with winStart := t, wave := keep n.wave, rms := rms }).sample 0x11 2 0 (dt / 1000))).mirror

/-! ### Intervals -/

/-- The Energy interval records of a quantity (R291, R390). -/
def State.intervalRecords (s : State) (start : Nat) (q : Nat) : State :=
  let a := s.qtyAcc q
  let part := fun (p : Nat) (t : State) =>
    let inc := fun k => if s.qtyKind q ≠ 1 ∧ 2 ≤ k then 0 else Sparse.at 0 s.nrg.inc (a + 4 * p + k)
    let satd := [0, 1, 2, 3].any fun k => decide (2 ^ 48 - 1 < inc k)
    let bytes := [0, 1, 2, 3].flatMap fun k => leBytes 6 (min (2 ^ 48 - 1) (inc k))
    t.enqueue (t.mkRec 3 start (b2n s.nrg.restart + 2 * b2n satd)
      ([w32 (q + 256 * p)] ++ bytesWords bytes ++ [w32 (Sparse.at 0 s.nrg.irev q), w32 (Sparse.at 0 s.nrg.subst q / 4),
        w32 (Sparse.at 0 s.nrg.invalid q / 4), w32 (Sparse.at 0 s.nrg.novolt q / 1000000)]))
  if s.qtyKind q = 1 then part 1 (part 0 s) else part 0 s

/-- An interval ends (R291): each running quantity writes its records, and the counts restart. -/
def State.energyInterval (s : State) : State :=
  let len := max 60 (s.fld .NRG_INT_S) * 1000000000
  let start := (s.now - 1) / len * len
  let s1 := ((List.range 128).filter s.qtyRuns).foldl (fun t q => t.intervalRecords start q) s
  s1.setNrg fun n => { n with inc := [], irev := [], subst := [], invalid := [], novolt := [], restart := false }

/-- At a station cycle start the accumulators and residues go to the Basin, 16 bytes each (R292). -/
def State.copyAccs (s : State) : State :=
  if s.fld .NRG_ACC_BASE = 0 then s else
    forN 256 (fun a t => t.reqBytes 11 (s.fld .NRG_ACC_BASE + 16 * a)
      (leBytes 8 (Sparse.at 0 s.nrg.acc a).toNat ++ leBytes 8 (Sparse.at 0 s.nrg.res a).toNat)) s

/-- A joiner that adopts loads its accumulators from the copy (R297). -/
def State.adoptAccs (s : State) : State :=
  if !s.flag .NRG_CTRL_ADOPT ∨ s.fld .NRG_ACC_BASE = 0 then s else
    let get := fun (a off : Nat) => BitVec.ofNat 64 (leNat (s.bytes (s.fld .NRG_ACC_BASE + 16 * a + off) 8))
    (s.setNrg fun n => { n with
      acc := (List.range 256).foldl (fun m a => Sparse.put 0 m a (get a 0)) [],
      res := (List.range 256).foldl (fun m a => Sparse.put 0 m a (get a 8)) [] }).rebasePulses.mirror

/-! ### Pulse outputs -/

/-- A pulse ends: its off time runs (R298). -/
def State.pulseEnd (s : State) (m : Nat) : State :=
  s.setNrg fun n => { n with outHigh := n.outHigh.filter (· != m) }

/-- Due pulses of output m at a base tick edge: one for each multiple of WEIGHT its accumulator has passed (R298). -/
def State.pulseDue (m : Nat) (t : State) : State :=
  let w := max 1 (t.fld (.PLS_OUT_CFG_WEIGHT m))
  let v := (Sparse.at 0 t.nrg.acc (t.fld (.PLS_OUT_CFG_CTRL_SRC m))).toNat
  let nx := Sparse.at 0 t.nrg.outNext m
  let d := (v + 2 ^ 64 - nx) % 2 ^ 64
  if !t.flag (.PLS_OUT_CFG_CTRL_EN m) ∨ 2 ^ 63 ≤ d then t
  else
    let k := d / w + 1
    let b := t.fld (.PLS_OUT_STAT_BACKLOG m)
    let gap := if 2 ≤ k then some 0 else (Sparse.at none t.nrg.outDue m).map fun l => t.now - l
    let t1 := t.setNrg fun x => { x with outNext := Sparse.put 0 x.outNext m ((nx + k * w) % 2 ^ 64),
                                         outDue := Sparse.put none x.outDue m (some t.now),
                                         outGap := Sparse.put none x.outGap m gap }
    let t2 := t1.put (.PLS_OUT_STAT_BACKLOG m) (min 65535 (b + k))
    if 65535 < b + k then (t2.putB (.PLS_OUT_STAT_OVF m) true).raise 1 0x12 m 8 m else t2

/-- Pulse outputs at a base tick edge (R298): a pulse whose width has passed ends; with backlog, and the off time over, a
pulse starts in Run or Degraded. -/
def State.pulseTick (s : State) : State :=
  forN 4 (fun m t0 =>
    let t := t0.pulseDue m
    let t1 := if t.nrg.outHigh.contains m && decide (Sparse.at 0 t.nrg.outEnd m ≤ t.now) then t.pulseEnd m else t
    let b := t1.fld (.PLS_OUT_STAT_BACKLOG m)
    if t1.live && t1.flag (.PLS_OUT_CFG_CTRL_EN m) && decide (0 < b) && !t1.nrg.outHigh.contains m &&
        decide (Sparse.at 0 t1.nrg.outOff m ≤ t1.now) then
      let wMax := t1.fld (.PLS_OUT_CFG_CTRL_W m) * 1000000
      let w := match Sparse.at none t1.nrg.outGap m with
        | none => wMax
        | some g => if 2 * wMax ≤ g then wMax else max 2000000 (g / 2 / 250000 * 250000)
      let t2 := t1.setNrg fun n => { n with outHigh := addOnce n.outHigh m, outEnd := Sparse.put 0 n.outEnd m (t1.now + w),
                                            outOff := Sparse.put 0 n.outOff m (t1.now + 2 * w) }
      (((t2.put (.PLS_OUT_STAT_BACKLOG m) (b - 1)).putB (.PLS_OUT_STAT_SHORT m) (decide (w < wMax))).put
        (.PLS_OUT_STAT_WIDTH m) (w / 1000000)).sample 0x12 1 m (b - 1)
    else t1) s

/-- Is a digital channel driven by a pulse output, and its level (R298)? -/
def State.pulseChannel (s : State) (ch : Nat) : Option Bool :=
  ((List.range 4).find? fun m => s.flag (.PLS_OUT_CFG_CTRL_EN m) && s.fld (.PLS_OUT_CFG_CTRL_CH m) == ch).map
    fun m => s.nrg.outHigh.contains m

end Sys2Proof.Machine
end

