-- ==== Sys2Proof/Machine/Sediment.lean ====
section
/-! DEFINITION. The Sediment recorder (R386 to R402): records becoming durable, batches to the xSPI ring, folds released,
interval summaries, record copies. -/

namespace Sys2Proof.Machine

def State.setSed (s : State) (f : SedState → SedState) : State := { s with sed := f s.sed }

/-! ### Positions -/

/-- SED_HEAD, SED_TAIL, SED_MOVED (R394 to R396). -/
def State.sedHead (s : State) : Nat := s.fld .SED_HEAD_LO_SEQ + 4294967296 * s.fld .SED_HEAD_HI_SEQ
def State.sedTail (s : State) : Nat := s.fld .SED_TAIL_LO_SEQ + 4294967296 * s.fld .SED_TAIL_HI_SEQ
def State.sedMoved (s : State) : Nat := s.fld .SED_MOVED_LO_SEQ + 4294967296 * s.fld .SED_MOVED_HI_SEQ
def State.setSeq (s : State) (lo hi : Fd) (v : Nat) : State := (s.put lo v).put hi (v / 4294967296)
def State.setHead (s : State) (v : Nat) : State := s.setSeq .SED_HEAD_LO_SEQ .SED_HEAD_HI_SEQ v
def State.setTail (s : State) (v : Nat) : State :=
  (s.setSeq .SED_TAIL_LO_SEQ .SED_TAIL_HI_SEQ v).setSed fun x => { x with tail := v }
def State.setMoved (s : State) (v : Nat) : State :=
  (s.setSeq .SED_MOVED_LO_SEQ .SED_MOVED_HI_SEQ v).setSed fun x => { x with moved := v }

/-- Does moving to the xSPI ring run (R395)? -/
def State.moving (s : State) : Bool :=
  s.flag .SED_CTRL_XR_EN && !s.flag .SED_STAT_XR_FAIL && decide (2 ≤ s.fld .SED_XR_LEN_SECT)

/-- An xSPI byte: 0xFF where nothing has been programmed (assumption 3). -/
def xspiFill (_ : Nat) : Byte := 0xFF
def State.xByte (s : State) (a : Nat) : Byte := Sparse.get xspiFill s.xspi a
def State.xBytes (s : State) (a n : Nat) : List Byte := (List.range n).map fun k => s.xByte (a + k)
/-- xSPI bytes programmed: a program clears bits (R381). -/
def State.xProgram (s : State) (a : Nat) (bs : List Byte) : State :=
  bs.zipIdx.foldl (fun t b => { t with xspi := Sparse.set xspiFill t.xspi (a + b.2) (t.xByte (a + b.2) &&& b.1) }) s
/-- xSPI bytes written by the loader, whatever stood there. -/
def State.xWrite (s : State) (a : Nat) (bs : List Byte) : State :=
  bs.zipIdx.foldl (fun t b => { t with xspi := Sparse.set xspiFill t.xspi (a + b.2) b.1 }) s
/-- A range of the xSPI erased. -/
def State.xErase (s : State) (a len : Nat) : State :=
  { s with xspi := Sparse.drop (fun k => decide (a ≤ k) && decide (k < a + len)) s.xspi }

/-! ### Durable records -/

/-- May a record be written to MRAM: not over one that has not been moved while moving runs (R395)? -/
def State.ringFree (s : State) (r : SedRec) : Bool :=
  !s.moving || match Sparse.at none s.sed.ring (r.seq % 16384) with
    | some o => decide (o.seq ≤ s.sedMoved)
    | none => true

/-- The tail while no moving runs: max(1, head − 16,383), never falling (R396). -/
def State.tailWithoutMoving (s : State) : State :=
  let h := s.sedHead
  if s.moving then (if s.sedTail = 0 then s.setTail 1 else s)
  else s.setTail (max s.sedTail (max 1 (h - 16383)))

/-- The first record of the write queue becomes durable (R394). -/
def State.makeDurable (s : State) : State :=
  match s.sed.queue with
  | [] => s
  | r :: q =>
    if s.ringFree r then
      ((((s.setSed fun x => { x with queue := q, ring := Sparse.put none x.ring (r.seq % 16384) (some r),
                                     durAt := Sparse.put 0 x.durAt (r.seq % 16384) s.now }).setHead r.seq).tailWithoutMoving).showStaged).sample
        0x2E 2 0 ((s.now - r.made) / 1000)
    else s

/-- Every queued record made durable, up to n of them. -/
def State.drainRecords : Nat → State → State
  | 0, s => s
  | n + 1, s => State.drainRecords n s.makeDurable

/-- Every open fold released, then every staged record made durable: entry into Sleep by a group (R397). -/
def State.flushSediment (s : State) : State :=
  let t := s.sed.folds.foldl (fun u f => u.releaseFold f) s
  t.drainRecords t.sed.queue.length

/-- The durable record of a SEQ, from MRAM or from the xSPI ring (R398). -/
def State.recordBytes (s : State) (seq : Nat) : List Byte :=
  if seq < s.sedTail ∨ s.sedHead < seq ∨ s.sedHead = 0 then List.replicate 64 0
  else match Sparse.at none s.sed.ring (seq % 16384) with
    | some r => if r.seq = seq then r.bytes else
        s.xBytes (s.fld .SED_XR_BASE_ADDR + 64 * (seq % max 1 (s.fld .SED_XR_LEN_SECT * 1024))) 64
    | none => s.xBytes (s.fld .SED_XR_BASE_ADDR + 64 * (seq % max 1 (s.fld .SED_XR_LEN_SECT * 1024))) 64

/-- At a restart the device finds the record of the highest SEQ in the MRAM ring and goes on from it; what the xSPI ring holds
stays, and the tail does not fall (R396, R397). -/
def State.sedRestart (s : State) : State :=
  let h := s.sed.ring.foldl (fun acc e => match e.2 with | some r => max acc r.seq | none => acc) 0
  let t := s.setSed fun x => { ring := x.ring, durAt := x.durAt, tail := x.tail, moved := x.moved, newest := h }
  if h = 0 then t else (((t.setHead h).setMoved (min h t.sed.moved)).setTail t.sed.tail).tailWithoutMoving.showStaged

/-- The SEQ that is moved next: the oldest record not moved that MRAM still holds (R395). -/
def State.nextMove (s : State) : Nat := max (s.sedMoved + 1) (s.sedHead - 16383)

/-- Does the next record moved enter a sector of the ring? -/
def State.newSector (s : State) : Bool := s.sedMoved == 0 || s.nextMove / 1024 != s.sedMoved / 1024

/-- The tail passes every record that the sector of the next record moved holds (R396). -/
def State.passSector (s : State) : State :=
  s.setTail (max s.sedTail (s.nextMove / 1024 * 1024 + 1024 - max 1 (s.fld .SED_XR_LEN_SECT * 1024)))

/-- One record moved to the xSPI ring (R395, R396): entering a sector, the tail first passes every record the sector holds
and the sector is erased. -/
def State.moveOne (s : State) : State :=
  let seq := s.nextMove
  let x := max 1 (s.fld .SED_XR_LEN_SECT * 1024)
  let a := s.fld .SED_XR_BASE_ADDR + 64 * (seq % x)
  match Sparse.at none s.sed.ring (seq % 16384) with
  | some r =>
    if r.seq ≠ seq then s else
      let s1 := if s.newSector then s.passSector.xErase (a / 0x10000 * 0x10000) 0x10000 else s
      (s1.xProgram a r.bytes).setMoved seq
  | none => s

/-- A batch of n records moved. -/
def State.moveMany : Nat → State → State
  | 0, s => s
  | n + 1, s => State.moveMany n s.moveOne

/-- Durable records waiting to be moved. -/
def State.waiting (s : State) : Nat := s.sedHead + 1 - s.nextMove

/-- A batch (R395): with N records waiting, or S seconds after the oldest of them became durable. failed: a sector's erase or
program fails, before which the tail has passed what the sector holds; all moving stops with an E2 XR_FAIL (R396). -/
def State.batchMove (s : State) (failed : Bool) : State :=
  let oldest := Sparse.at 0 s.sed.durAt (s.nextMove % 16384)
  let due := s.moving && decide (0 < s.waiting) && (decide (s.fld .SED_BATCH_N ≤ s.waiting) ||
    decide (oldest + s.fld .SED_BATCH_S * 1000000000 ≤ s.now))
  if !due then s
  else if failed then
    let a := s.fld .SED_XR_BASE_ADDR + 64 * (s.nextMove % max 1 (s.fld .SED_XR_LEN_SECT * 1024))
    (((if s.newSector then s.passSector else s).putB .SED_STAT_XR_FAIL true).tailWithoutMoving).raise 2 0x2E 0 2 (a / 0x10000 * 0x10000)
  else s.moveMany s.waiting

/-- Folds whose T seconds have passed are released (R400). -/
def State.releaseDue (s : State) : State :=
  (s.sed.folds.filter fun f => decide (f.opened + (s.flood (f.r.code / 256 % 256)).2.2 * 1000000000 ≤ s.now)).foldl
    (fun t f => t.releaseFold f) s

/-! ### Watched items -/

def State.watchWord (s : State) (n k : Nat) : Nat := (s.word (s.fld .SED_WATCH_BASE / 4 + 4 * n + k)).toNat

/-- Is item n enabled, with a table declared (R387)? -/
def State.watchEn (s : State) (n : Nat) : Bool := s.fld .SED_WATCH_BASE != 0 && bitOf (s.watchWord n 0) 31

/-- Its sample due at tick t: WIDTH finite and positive, PERIOD in range. -/
def State.watchDue (s : State) (n t : Nat) : Bool :=
  let p := bitsOf (s.watchWord n 1) 21 0
  s.watchEn n && decide (1 ≤ p) && decide (p ≤ 2400000) && decide (t % max 1 p = 0) && fisFin (w32 (s.watchWord n 3)) &&
    flt 0 (w32 (s.watchWord n 3))

/-- The bin of a sample: ⌊(v − LO) / WIDTH⌋, exact, clamped to 0 to 15 (R387). Every finite binary32 is a multiple of 2^-149. -/
def watchBin (v : DWord) (lo width : Word) : Nat :=
  match fmt64.toInt 149 v.toNat, fmt32.toInt 149 lo.toNat, fmt32.toInt 149 width.toNat with
  | some a, some l, some w => (clampInt 0 15 ((a - l) / max 1 w)).toNat
  | _, _, _ => 0

/-- A sample into an item's statistics (R387). -/
def Watch.take (w : Watch) (v : DWord) (lo width : Word) (sub : Bool) : Watch :=
  let b := watchBin v lo width
  let x := narrow v
  let h := if w.hist.length = 16 then w.hist else List.replicate 16 0
  { count := w.count + 1, min := if w.count = 0 ∨ flt x w.min then x else w.min,
    max := if w.count = 0 ∨ flt w.max x then x else w.max, sum := dadd w.sum v, subst := w.subst + b2n sub,
    hist := h.set b (h.getD b 0 + 1) }

/-- A binary64 sum divided by a count, rounded once to binary32 (R387). -/
def summaryMean (sum : DWord) (count : Nat) : Word :=
  match fmt64.read sum.toNat with
  | .fin n m e => w32 (fmt32.pack n (2 * ((m <<< 64) / count) + (if (m <<< 64) % count = 0 then 0 else 1)) (e - 65))
  | _ => narrow sum

/-- The watched items at a base tick edge. -/
def State.watchTick (s : State) (t : Nat) : State :=
  if s.fld .SED_WATCH_BASE = 0 then s else
    forN 2048 (fun n u =>
      if u.watchDue n t then
        let a := bitsOf (u.watchWord n 0) 23 0
        let v := typedVal (bitsOf (u.watchWord n 0) 25 24) (s.image a)
        let g := fun (w : Watch) => w.take v (w32 (s.watchWord n 2)) (w32 (s.watchWord n 3)) (s.subFlag a)
        if disFin v then u.setSed (fun x => { x with watch := Sparse.mod {} x.watch n g }) else u
      else u) s

/-- The Interval summary of an item (R387). -/
def State.summaryBody (s : State) (n : Nat) : List Word :=
  let w := Sparse.at {} s.sed.watch n
  let nan : Word := 0x7FC00000
  let hist := (List.range 16).flatMap fun b =>
    leBytes 1 (if w.count = 0 then 0 else (510 * w.hist.getD b 0 + w.count) / (2 * w.count))
  if w.count = 0 then [w32 n, 0, nan, nan, nan, 0] ++ bytesWords hist ++ [0]
  else [w32 n, w32 w.count, w.min, w.max, summaryMean w.sum w.count, w32 w.subst] ++ bytesWords hist ++ [0]

/-- The interval ends: every enabled item writes its record and restarts (R387). -/
def State.summaries (s : State) : State :=
  let len := max 1 (s.fld .SED_INT_S) * 1000000000
  let start := (s.now - 1) / len * len
  let t := ((List.range 2048).filter s.watchEn).foldl (fun u n => u.enqueue (u.mkRec 1 start 0 (u.summaryBody n))) s
  t.setSed fun x => { x with watch := [] }

/-! ### Commands -/

/-- RECORD_PRODUCE: a Condition record of scan code or of a block arises (R388, R394, R399, R400). -/
def execRecordProduce (code : BitVec 16) (action : Fin 3) (source : BitVec 24) (value : Word) (s : State) :
    Host.Outcome State Fault Refusal :=
  coreAct s fun s => (s.condition code.toNat action.val 0xFF source.toNat value.toNat).dropCheck

/-- RECORD_DURABLE (R394). -/
def execRecordDurable (s : State) : Host.Outcome State Fault Refusal := coreAct s fun s => s.makeDurable

/-- SUMMARY_INTERVAL (R387): PTP time is a multiple of SED_INT.S. -/
def execSummaryInterval (s : State) : Host.Outcome State Fault Refusal :=
  coreAct s fun s => if s.now % (max 1 (s.fld .SED_INT_S) * 1000000000) = 0 then s.summaries.dropCheck else s

/-- HEALTH_RECORD (R102, R393): PTP time is a multiple of 60 s. -/
def execHealthRecord (s : State) : Host.Outcome State Fault Refusal :=
  coreAct s fun s => if s.now % 60000000000 = 0 then s.healthRecord.dropCheck else s

/-- BATCH_MOVE (R395, R396). -/
def execBatchMove (failed : Bool) (s : State) : Host.Outcome State Fault Refusal := coreAct s fun s => s.batchMove failed

/-- FOLD_RELEASE (R400). -/
def execFoldRelease (s : State) : Host.Outcome State Fault Refusal := coreAct s fun s => s.releaseDue

end Sys2Proof.Machine
end

