-- ==== Sys2Proof/Machine/ModeBase.lean ====
section
/-! DEFINITION. The mode transitions of a device that is not starting (R16 to R24, R100, R406), the groups the Weir stages
itself (R437), and the gates a host's command passes (R9, R403, R436). -/

namespace Sys2Proof.Machine

/-! ### Gates -/

/-- Is a domain off (R403)? Outside Sleep only the field domains can be, while LP is absent. -/
def State.domainOff (s : State) (d : Nat) : Bool := (d == 12 || d == 13) && !s.field.lpOn

/-- Is a page locked (R436)? -/
def State.locked (s : State) (p : Nat) : Bool := s.locks.contains p

/-- A write of the host to a page's block registers: it needs the core domains (R16) and the page's domain (R9), and a lock
refuses it with code 0x0F (R436). -/
def State.hostWrite (s : State) (p off : Nat) (f : State → State) : State :=
  if s.domainOff (pageDomain p) then s else if s.locked p then s.refuse p 0x0F (0x1000 * p + off) else f s

/-- A host command on a page's block registers. -/
def hostAct (p off : Nat) (s : State) (f : State → State) : Host.Outcome State Fault Refusal :=
  coreAct s fun s => s.hostWrite p off f

/-! ### Groups staged by the Weir -/

/-- WGRP (R437). -/
def State.wgrpNo (s : State) : Nat := s.fld .SIB_CTRL_WGRP

/-- Kind and target of what the Weir wants to stage: 1 the start-up group, 0x10 + p the admission of position p, 0x20 + p its vote-in. -/
def weirEntry (k : Nat) : Nat × Target := if k = 1 then (4, modeTarget) else (2, ⟨false, 0x6070⟩)

/-- The value it stages: target Run, or SIB_REJOIN with one position field replaced. -/
def State.weirWord (s : State) (k : Nat) : Word :=
  if k = 1 then 2
  else if k < 0x20 then Fd.into .SIB_REJOIN_ADMIT_POS (s.reg 0x6070) (k - 0x10)
  else Fd.into .SIB_REJOIN_VOTE_POS (s.reg 0x6070) (k - 0x20)

/-- The Weir stages what it waits for once WGRP is Free (R437). -/
def State.weirWork (s : State) : State :=
  match s.sib.wgrp with
  | none => s
  | some k =>
    let g := s.wgrpNo
    if (s.group g).state ≠ 0 then s
    else
      let e := weirEntry k
      (((({ s with sib := { s.sib with wgrp := none } }.openNow g true).setGrpCfg g e.1 0 none).stageEntry g e.2
        (s.weirWord k) false)).armNow g

/-- The Weir is to stage a group. -/
def State.weirStage (s : State) (k : Nat) : State := { s with sib := { s.sib with wgrp := some k } }.weirWork

/-! ### Transitions -/

/-- The siblings that agree on configuration and version and are reached (R46). -/
def State.agreeingSibs (s : State) : List Nat :=
  [0, 1].filter fun k => s.flag (.SIB_PEER_CFG_AGREE k) && s.flag (.SIB_PEER_VER_AGREE k) && s.fld (.SIB_PEER_REACH k) != 0

/-- At the end of start-up this member and the siblings that agree with it form the voting set (R18, R29). -/
def State.joinVoters (s : State) : State :=
  if s.pos = 0 then s else s.agreeingSibs.foldl (fun t k => if t.role (sibPos t.pos k) = 1 ∨ t.role (sibPos t.pos k) = 0 then
    t.setRole (sibPos t.pos k) 3 else t) (s.setRole s.pos 3)

/-- What stands at the lands on entry to Commission (R21). -/
def State.commissionField (s : State) : State :=
  let t := { s with field := { s.field with outPend := [], outImage := none } }
  if !s.field.lpOn then t else t.openTrips.safeOutputs.alarmLegs

/-- Entry into Commission (R18, R21, R24, R209). -/
def State.enterCommission (s : State) (trigger : Nat) : State :=
  let old := modeCode s.mode
  let fresh := s.mode = .startUp ∨ s.mode = .safe
  let s1 := if s.mode = .startUp then s.joinVoters else s
  let s2 := (if s.live then { s1 with mode := .commission }.dropKey else { s1 with mode := .commission }).put .SYS_MODE_STARTUP 0
    |>.commissionField
  let s3 := (if fresh then s2.loopsBegin else s2).restartCycles
  s3.modeRecord old 1 trigger 0

/-- Entry into Run or Degraded (R18, R23, R24, R209): Degraded where only two vote, or a simplex survivor alone. -/
def State.enterRun (s : State) (trigger : Nat) : State :=
  let old := modeCode s.mode
  let s1 := if s.mode = .startUp then s.joinVoters.loopsBegin else s
  let m := s1.runMode
  let s2 := ({ s1 with mode := m }.put .SYS_MODE_STARTUP 0).endTests
  let s3 := { s2 with field := { s2.field with outPend := [], outImage := none, ptCmd := none } }
  (s3.restartCycles).modeRecord old (modeCode m) trigger 0

/-- Every frame waiting in a launch queue leaves (R406 step 3). -/
def State.emptyQueues (s : State) : State :=
  forN 8 (fun m t =>
    let fs := [0, 1, 2, 3].flatMap fun q => (t.mac m).queue q
    (fs.foldl (fun u f => u.send (.eth m f.bytes)) t).setMac m fun x => { x with queues := [], sending := none }) s

/-! ### Resets -/

/-- PWR_ON shows domains 12 and 13 by the field supply (R403, R9). -/
def State.fieldDomains (s : State) : State :=
  s.put .PWR_ON (s.fld .PWR_ON % 4096 + (if s.field.lpOn then 0x3000 else 0))

/-- A register that a reset of every domain but the Spring and the Reservoir clears: those of the SPR page and the Spring
counters are in domain 0, those of the RSV page in domain 1, and DBG_FRZ_TIME stays (R34, R359, R420, R429). -/
def coreReg (a : Nat) : Bool :=
  !(a / 0x1000 == 3) && !(a / 0x1000 == 4) && !(decide (0x12040 ≤ a) && decide (a < 0x120A4)) && !(a == 0x31044) && !(a == 0x31048)

/-- The part of the clocks that lies in the Spring domain (R349). -/
def TimeState.spring (t : TimeState) : TimeState :=
  { count := t.count, springPend := t.springPend, medianPend := t.medianPend, xtalStop := t.xtalStop, vbat := t.vbat,
    sqw := t.sqw }

/-- The state with every domain reset but the Spring (R34): what lies in MRAM and xSPI stays, and the Reservoir and the log of
the error manager where told (R97, R296). The field die takes its power-up state (R26). -/
def State.resetCore (s : State) (keepRsv keepLog : Bool) : State :=
  let gone := fun a => coreReg a || (!keepRsv && a / 0x1000 == 4) || (!keepLog && (a == 0x31044 || a == 0x31048))
  let froze := s.flag .SPR_STAT_FROZE
  let t : State :=
    { mode := s.mode, mainOn := s.mainOn, held := true, waking := s.waking, strapsDue := s.strapsDue,
      cause := s.cause + (if froze && !bitOf s.cause 6 then 64 else 0), pos := s.pos, boot := s.boot, aoAlm := s.aoAlm,
      regs := Sparse.drop gone s.regs, latch := Sparse.drop coreReg s.latch, lowHeld := Sparse.drop coreReg s.lowHeld,
      locks := s.locks.filter fun p => p == 3 || (keepRsv && p == 4),
      xspi := s.xspi, out := s.out, fresh := s.fresh,
      err := { log := if keepLog then s.err.log else [] },
      sed := { ring := s.sed.ring, durAt := s.sed.durAt, tail := s.sed.tail, moved := s.sed.moved },
      time := s.time.spring, field := { lpOn := s.field.lpOn },
      rsv := { s.rsv with buffer := if keepRsv then s.rsv.buffer else none, frozen := false, savedAt := none },
      wear := s.wear, tap := s.tap, pending := s.pending }
  ((t.putB .SPR_STAT_FROZE false).fieldDomains).powerUpField

/-! ### Sleep -/

/-- Entry into Sleep by a group (R16, R56, R294, R397, R406): the exit announced, the record of the transition, every record durable, the KIND 3
save, frames sent, then the domains off and everything in them lost. -/
def State.enterSleep (s : State) : State :=
  let s1 := ((s.sendHealth true).modeRecord (modeCode s.mode) 0 1 0).flushSediment.emptyQueues.saveSlot 3 true
  let s2 := { s1 with mode := .sleep, waking := true, cause := 0 }.resetCore true true
  s2.darkField

/-- A loss of main supply (R18, R34): the final commit first (R294), then every domain but the Spring without power. -/
def State.loseMain (s : State) : State :=
  let s1 := if s.mode ≠ .sleep ∧ !s.rsv.frozen ∧ s.flag .RSV_STAT_READY ∧ s.fld .RSV_STAT_BUDGET ≠ 0 then s.saveSlot 2 true else s
  let s2 := { s1 with mode := .sleep, mainOn := false, waking := false, stopped := false, cause := (if s.mainOn then 0 else s.cause) }
  (s2.resetCore false false).darkField

/-! ### A mode group at its boundary -/

/-- Has every voting member staged the same group (R18, target Sleep)? -/
def State.stagedByAll (s : State) (g : Nat) : Bool :=
  s.votingSibs.all fun k => match Sparse.at none (s.group g).sibHash k with
    | some (h, _) => h == (s.group g).hash
    | none => false

/-- Are the conditions of R18 met for the target of mode group g now (R439)? weir: the group is the Weir's own, whose one target
is Run from start-up (R437): AUTO_RUN is 1, and two or three members agree, or the position is S. -/
def State.transitionOk (s : State) (g target : Nat) (weir : Bool) : Bool :=
  if weir then target == 2 && s.mode == .startUp && s.fld .SYS_MODE_STARTUP == 6 && s.flag .SYS_BOOT_STAT_AUTO_RUN &&
    (s.pos == 0 || !s.agreeingSibs.isEmpty)
  else modeAllowed s.mode target &&
    match target with
    | 0 => !s.pends 3 && s.stagedByAll g
    | 1 => !s.pends 3 && !s.pends 4 && s.role s.pos != 4
    | 2 => match s.modeRefusal 2 with
      | none => true
      | some c => c == 0x64
    | _ => true

/-- The transition a mode group makes (R18). -/
def State.modeTransition (s : State) (target : Nat) : State :=
  match target with
  | 0 => s.enterSleep
  | 1 => s.enterCommission 1
  | 2 => s.enterRun 1
  | _ => (s.enterSafe 1 0 0 0).discardEvents

end Sys2Proof.Machine
end

