-- ==== Sys2Proof/Machine/StationBase.lean ====
section
/-! DEFINITION. The points of a station and their substitutes (R241, R246), the station state region (R237). -/

namespace Sys2Proof.Machine

def State.setStn (s : State) (f : StnState → StnState) : State := { s with stn := f s.stn }

/-! ### Points and substitutes (R241, R246) -/

/-- The input word of a measurement point. -/
def State.pointWord (s : State) (id n : Nat) : Nat := bitsOf (s.measRec id n 0).toNat 23 0
def State.pointHold (s : State) (id n : Nat) : Nat := (s.measRec id n 3).toNat % 131072

/-- The substitute value of a measurement point. -/
def State.substitute (s : State) (id n : Nat) : Word :=
  match bitsOf (s.measRec id n 0).toNat 25 24 with
  | 0 => if Sparse.at false s.stn.holds (s.pointHold id n) then s.word (0xC4000 + s.pointHold id n) else s.measRec id n 1
  | 1 => s.measRec id n 1
  | _ => s.measRec id n 2

/-- A point's input word written by the device, with its substitute flag (R242). -/
def State.putPoint (s : State) (id n : Nat) (v : Word) (sub : Bool) : State :=
  (s.reqWrite 7 (s.pointWord id n) v).setSub (s.pointWord id n) sub

/-- A point that takes its substitute. -/
def State.substPoint (s : State) (id n : Nat) : State := s.putPoint id n (s.substitute id n) true

/-- Every point of a station takes its substitute. -/
def State.substAll (s : State) (id : Nat) : State := forN (s.stnMeas id) (fun n t => t.substPoint id n) s

/-- The stations the table enables. -/
def State.stationIds (s : State) : List Nat := (List.range 1024).filter s.stnEnabled

/-- After a reset every station is Unknown with its points substituted, as soon as the applied image gives the table (R246). -/
def State.substUnknown (s : State) : State := s.stationIds.foldl (fun t id => t.substAll id) s

/-! ### The station state region (R237) -/

/-- A station as the words of its record in the station state region: LAST, BOOT_COUNT, then what admission and the transitions of R246
go by, in the model's own layout (assumption 43). -/
def Station.words (x : Station) : List Word :=
  [w32 x.last, w32 x.boot,
   w32 (x.state + 8 * b2n x.tagged + 16 * b2n x.subst + 0x100 * min 255 x.heard + 0x10000 * min 255 x.unheard + 0x1000000 * x.result),
   x.uid.setWidth 32, (x.uid >>> 32).setWidth 32, w32 (x.nMeas + 0x10000 * x.nCmd),
   w32 x.mac, w32 (x.mac / 4294967296 + 0x10000 * x.rxMac), x.ip, x.lldp]

/-- The station that a record spells. -/
def Station.ofWords (l : List Word) : Station :=
  let n := fun k => (l.getD k 0).toNat
  { last := n 0, boot := n 1, state := n 2 % 8, tagged := bitOf (n 2) 3, subst := bitOf (n 2) 4, heard := bitsOf (n 2) 15 8,
    unheard := bitsOf (n 2) 23 16, result := bitsOf (n 2) 31 24, uid := (l.getD 4 0) ++ (l.getD 3 0), nMeas := n 5 % 65536,
    nCmd := n 5 / 65536, mac := n 6 + 4294967296 * (n 7 % 65536), rxMac := bitsOf (n 7) 18 16, ip := l.getD 8 0, lldp := l.getD 9 0 }

/-- The Basin word of a station's record; none while the image gives no station state region. -/
def State.stationRecord (s : State) (id : Nat) : Option Nat :=
  let p := Sparse.at 0 s.slv.places 8
  if p = 0 then none else some (p / 4 + 10 * id)

/-- A station's record written. -/
def State.keepStation (s : State) (id : Nat) : State :=
  match s.stationRecord id with
  | some a => s.reqWords 7 a (s.station id).words
  | none => s

/-- A station taken from its record, as a joiner's copied Basin holds it (R60). -/
def State.recallStation (s : State) (id : Nat) : State :=
  match s.stationRecord id with
  | some a => s.setStation id fun _ => Station.ofWords ((List.range 10).map fun k => s.word (a + k))
  | none => s

end Sys2Proof.Machine
end

