-- ==== Sys2Proof/Machine/StartUp.lean ====
section
/-! DEFINITION. Power, reset and start-up (R25 to R35, R47, R349, R352, R416, R438): the commands of the supplies, the reset
lands, the boot loader and the join. -/

namespace Sys2Proof.Machine

/-! ### The boot image (R30 to R33) -/

/-- The sealed bytes: the header with SEAL and HDR_CRC taken as zero, then the body (R32). -/
def sealOf (hdr body : List Byte) : BitVec 256 :=
  sha256 (hdr.take 0x20 ++ List.replicate 32 0 ++ ((hdr.drop 0x40).take 0xBC) ++ List.replicate 4 0 ++ body)

/-- SEAL of a header, first byte highest, as SHA-256 writes it. -/
def headerSeal (hdr : List Byte) : BitVec 256 := BitVec.ofNat 256 (leNat ((hdr.drop 0x20).take 32).reverse)

/-- Why the loader refuses a header (R33), before the body is read. -/
def headerFault (hdr : List Byte) : Option Nat :=
  if hdr.take 4 ≠ [0x57, 0x4B, 0x58, 0x49] ∨ wordAt hdr 0xFC ≠ crc32 (hdr.take 0xFC) then some 8
  else if fieldAt hdr 8 2 ≠ ownClass then some 9
  else if 0x01FFFF00 < fieldAt hdr 0x10 8 then some 10
  else none

/-- Why the loader refuses an image at a position (R33): a RESULT code. Where several of R33's cases hold, the seal is judged before
the TRIPLET flag, and the first case found is reported: the model's choice (assumption 82). -/
def imageRefusal (pos : Nat) (hdr body : List Byte) : Option Nat :=
  match headerFault hdr with
  | some c => some c
  | none =>
    if sealOf hdr body ≠ headerSeal hdr then some 11
    else if bitOf (fieldAt hdr 0xA 2) 2 = (pos == 0) then some 12
    else none

/-- A latch list entry by its two words (R211): TWO 3 is taken as 0, MODE 3 with SRC 3 as 2. -/
def latchEntry (e : Word × Word) : LatchEntry :=
  let src := bitsOf e.1.toNat 31 30
  let two := bitsOf e.2.toNat 3 2
  let mode := bitsOf e.2.toNat 1 0
  { src := src, adr := bitsOf e.1.toNat 23 0, two := if two = 3 then 0 else two, mode := if src = 3 ∧ mode = 3 then 2 else mode }

/-- The OLD code of a restart's Mode change record (R392). -/
def State.restartOld (s : State) : Nat :=
  if s.flag .SYS_RST_CAUSE_WAKE then 0 else if s.flag .SYS_RST_CAUSE_FREEZE then 5 else 0x0F

/-- The fingerprint of a header's seal in SYS_FP0 to SYS_FP3 (R32). -/
def State.setFp (s : State) (hdr : List Byte) : State :=
  forN 4 (fun k t => t.setReg (0x60 + 4 * k) (BitVec.ofNat 32 (leNat ((hdr.drop (0x20 + 4 * k)).take 4).reverse))) s

/-- No region lies outside those of BSN_REGION: what lay there reads 0 (R109). -/
def State.dropOutside (s : State) : State := { s with basin := s.basin.filter fun c => (s.attrs (c.1 / 4)).isSome }

/-- What an image holds, put in place: registers, Basin, scan code, latch list, keys (R27 step 10, R211, R225, R230, R236). -/
def State.placeContent (s : State) (hdr : List Byte) (c : ImageContent) : State :=
  let s1 := c.regs.foldl (fun t e => t.store heldAcc e.1 e.2) s
  let s2 := (c.basin.foldl (fun t e => t.setWord e.1 e.2) s1).dropOutside
  let keys := c.keys.foldl (fun m k => Sparse.put (0 : BitVec 128) m k.1 k.2) []
  let ll := (c.latch.take 16384).map latchEntry
  let s3 := { s2 with scn := { s2.scn with code := c.code.take 65536, latchList := ll, forceKey := c.forceKey },
                      stn := { s2.stn with keys := keys, tripletId := fieldAt hdr 0x40 2 },
                      sib := { s2.sib with imageVer := wordAt hdr 0xC },
                      sed := { s2.sed with buckets := [] },
                      slv := { s2.slv with places := c.places.foldl (fun (m : Sparse Nat) (e : Nat × Nat) => Sparse.put 0 m e.1 e.2) [] } }
  (s3.putB .SCN_STAT_ETASK c.errTask).put .SCN_LATCH_ENTRIES ll.length

/-- The applied image as the member sends it to a joiner (R60 step 2). -/
def State.keepImage (s : State) (bytes : List Byte) : State := { s with sib := { s.sib with image := bytes } }

/-- The verified image applied (R27 steps 9 and 10, R232, R296, R392, R397, R399), with its RESULT code. -/
def State.applyImage (s : State) (hdr body : List Byte) (result : Nat) : State :=
  let fl := fieldAt hdr 0xA 2
  let s1 := ((((((s.setFp hdr).putB .SYS_BOOT_STAT_SEAL_OK true).put .SYS_BOOT_STAT_RESULT result).putB .SYS_BOOT_STAT_AUTO_RUN
    (bitOf fl 0)).putB .SYS_BOOT_STAT_SIMPLEX_SURVIVE (bitOf fl 1)).putB .SYS_BOOT_STAT_TRIPLET (bitOf fl 2)).put .SYS_MODE_STARTUP 5
  let s2 := (s1.placeContent hdr (Config.parseBody body)).keepImage (hdr ++ body)
  let s3 := forN 4 (fun n t => t.placeImage n) s2
  let s4 := s3.sedRestart.modeRecord s.restartOld 4 0 (s.reg 0x4C).toNat
  s4.checkQty.energyRestore.substUnknown

/-- No seal is verified of the image that is tried now (R36: SEAL_OK, SYS_FP). -/
def State.unsealed (s : State) : State :=
  forN 4 (fun k t => t.setReg (0x60 + 4 * k) 0) (s.putB .SYS_BOOT_STAT_SEAL_OK false)

/-- An image at bytes read by a function from its base: applied, or refused with its RESULT (R33). An image refused for its TRIPLET
flag alone has its seal verified, which SEAL_OK and SYS_FP show (R36). -/
def State.loadImage (s0 : State) (read : Nat → Nat → List Byte) (result : Nat) : State × Bool :=
  let s := s0.unsealed
  let hdr := read 0 256
  let len := fieldAt hdr 0x10 8
  match headerFault hdr with
  | some c => (s.put .SYS_BOOT_STAT_RESULT c, false)
  | none =>
    let body := read 256 len
    match imageRefusal s.pos hdr body with
    | some c =>
      let t := s.put .SYS_BOOT_STAT_RESULT c
      (if c = 12 then (t.setFp hdr).putB .SYS_BOOT_STAT_SEAL_OK true else t, false)
    | none => (s.applyImage hdr body result, true)

/-! ### The join (R27 step 11, R29, R47) -/

/-- Do both siblings announce one fingerprint and class that is not this member's (R29, R47)? -/
def State.pairAgainst (s : State) : Bool :=
  match (s.peer 0).health, (s.peer 1).health with
  | some a, some b => a.fp == b.fp && a.compat == b.compat && (a.fp != s.fp || a.compat != ownClass)
  | _, _ => false

/-- Does a sibling announce that it votes (R47)? -/
def State.setExists (s : State) : Bool := [0, 1].any fun k => s.role (sibPos s.pos k) == 3 && s.fld (.SIB_PEER_REACH k) != 0

/-- Is this member joining: at step 11 with its role still Joining (R27, R47)? -/
def State.joining (s : State) : Bool :=
  s.mode == .startUp && s.fld .SYS_MODE_STARTUP == 6 && s.role s.pos == 1

/-- The members have agreed: with AUTO_RUN the Weir stages the start-up group, else Commission begins (R18, R437). -/
def State.joinDone (s : State) : State :=
  if s.flag .SYS_BOOT_STAT_AUTO_RUN then s.weirStage 1 else s.enterCommission 7

/-- The join as far as the frames held decide it: three that agree (R18, R47). A member whose siblings already vote takes the
rejoin path, and announces. -/
def State.joinCheck (s : State) : State :=
  if !s.joining ∨ !s.applied ∨ s.sib.wgrp.isSome ∨ (s.group s.wgrpNo).weir then s
  else if s.setExists then
    if s.fld .SIB_REJOIN_STAT_PHASE = 0 then s.put .SIB_REJOIN_STAT_PHASE 1 else s
  else if s.agreeingSibs.length = 2 then s.joinDone
  else s

/-- Step 11 begins: at position S it is skipped (R29). -/
def State.beginJoin (s : State) : State :=
  let t := s.put .SYS_MODE_STARTUP 6
  if s.pos = 0 then t.joinDone else (t.takeRole 1).joinCheck

/-! ### Start-up (R27) -/

/-- The PTP clock loaded at clock start (R352). -/
def State.loadPtp (s : State) : State :=
  let v := s.flag .SPR_STAT_TIME_VALID
  let ns := if v then s.time.count * 1000000000 / 32768 + s.fld .SPR_PTP_OFS_S * 1000000000 else 0
  { s with time := { s.time with ns := ns, edge := (ns / 250000 + 1) * 250000, running := true } }.putB .PTP_STAT_VALID v

/-- Steps 8 to 10 from the straps' boot source (R30, R33). -/
def State.bootLoad (s : State) : State :=
  let t := s.put .SYS_MODE_STARTUP 3
  if t.boot = 2 then t
  else match t.loadImage (fun o n => t.xBytes o n) 1 with
    | (u, true) => u.beginJoin
    | (u, false) => match u.loadImage (fun o n => u.xBytes (0x02000000 + o) n) 2 with
      | (v, true) => v.beginJoin
      | (v, false) =>
        if t.boot = 1 ∨ t.pos = 0 then v
        else (v.put .SYS_MODE_STARTUP 6).takeRole 1

/-- The power-good filter expires: start-up runs as far as it can (R25, R27, R28). -/
def State.release (s : State) (selfTestOk xtalOk plls : Bool) (pos boot : Nat) (aoAlm : Bool) : State :=
  let s1 := if s.strapsDue then { s with pos := pos, boot := boot, aoAlm := aoAlm, strapsDue := false } else s
  let s2 := ({ s1 with held := false, waking := false, regs := Sparse.set regDefault s1.regs 0x4C (w32 s1.cause), cause := 0 }).fieldDomains.powerUpField
  let s3 := (((((s2.put .PWR_SUP_LP_OK (b2n s2.field.lpOn)).putB .PWR_SUP_VDD33_OK true).putB .PWR_SUP_VDDIO18_OK true).putB
    .PWR_SUP_VCORE_OK true).putB .PWR_SUP_PF false).put .SYS_MODE_STARTUP 1
  if !selfTestOk then { s3.setReg 0x5074 (s3.reg 0x5074 ||| 1) with stopped := true }
  else
    let s4 := s3.put .SYS_MODE_STARTUP 2
    if !xtalOk then { s4 with stopped := true }
    else
      let s5 := s4.putB .CLK_STAT_XTAL_OK true
      if !plls then { s5 with held := true, cause := s.cause, strapsDue := false }
      else
        let s6 := ((((s5.putB .CLK_STAT_LOCK_N true).putB .CLK_STAT_LOCK_Y true).putB .CLK_STAT_LOCK_S true).putB .CLK_STAT_RUN_S
          true).putB .CLK_STAT_FOSC_OK s5.field.lpOn
        let s7 := s6.loadPtp
        if s7.boot = 3 then { s7 with stopped := true }
        else
          let s8 := if s7.flag .SPR_STAT_CELL_LOW then s7.raise 0 0x03 0 1 s7.time.vbat else s7
          s8.bootLoad

/-! ### Commands -/

/-- MAIN_SUPPLY_RETURN (R438): a main power-on reset is released; the straps will be sampled. The field die sets the power-up state as
soon as its supply is present (R26), by the straps as last sampled until then (assumption 82). -/
def execMainSupplyReturn (s : State) : Host.Outcome State Fault Refusal :=
  effect s (if s.mainOn then s else
    { s with mainOn := true, mode := .startUp, held := true, stopped := false, strapsDue := true,
             cause := s.cause % 2 + 2 + s.cause / 64 * 64 }.powerUpField)

/-- MAIN_SUPPLY_LOSS (R18, R34, R294). -/
def execMainSupplyLoss (s : State) : Host.Outcome State Fault Refusal := effect s s.loseMain

/-- SPRING_POWER_ON (R34, R349): every domain, the Spring's too. -/
def execSpringPowerOn (s : State) : Host.Outcome State Fault Refusal :=
  let t := { s with stopped := false, waking := false, strapsDue := true, cause := 0, mode := if s.mainOn then .startUp else .sleep }
  let u := t.resetCore false false
  let c := if s.mainOn then 1 else 1 + s.cause / 2 * 2
  let v : State := { u with regs := [], latch := [], lowHeld := [], locks := [], time := {}, cause := c }.fieldDomains
  effect s (if s.mainOn then v.powerUpField else v.darkField)

/-- A reset that leaves Spring and Reservoir standing (R34). -/
def State.warmReset (s : State) (bit : Nat) : State :=
  { s with mode := .startUp, stopped := false, cause := 2 ^ bit }.resetCore true true

/-- RESET_N_LOW (R34): ignored in Sleep (R438); it ends Frozen (R18). -/
def execResetNLow (s : State) : Host.Outcome State Fault Refusal := effect s (if s.mode = .sleep then s else s.warmReset 2)

/-- A wake from Sleep starts start-up from step 2 (R18, R27). -/
def State.wake (s : State) : State :=
  if s.mode = .sleep ∧ s.mainOn then
    { s with mode := .startUp, held := true, waking := true, cause := 32 }.powerUpField
  else s

/-- WAKE_N_LOW (R18, R438). -/
def execWakeNLow (s : State) : Host.Outcome State Fault Refusal := effect s s.wake

/-- FREEZE_N_LOW (R18, R34, R416): every clock but two stops; nothing else changes, but for a mode group of the same Weir cycle, which
has lost to it (R19). -/
def execFreezeNLow (s : State) : Host.Outcome State Fault Refusal :=
  effect s (if s.mode = .sleep ∨ s.mode = .frozen then s else
    let t := if s.awake then s.loseMode.sendHealth true else s
    ({ t with mode := .frozen }.put64 0x31044 0x31048 s.now).putB .SPR_STAT_FROZE true)

/-- SYS_SWRST_WRITE (R34, R35). During start-up, which R35 does not name, the write is ignored without a code: the model's choice
(assumption 82). -/
def execSysSwrstWrite (value : Word) (s : State) : Host.Outcome State Fault Refusal :=
  hostAct 0x00 0x5C s fun s =>
    if value ≠ 0xA5A5 then s
    else if s.mode = .commission ∨ s.mode = .safe then s.warmReset 4
    else if s.live then s.refuse 0x00 0x02 0x5C
    else s

/-- SYS_BOOT_CTRL_GO (R30, R33): the host image in banks 8 to 15, while start-up waits for it. With BOOT = 00, where R33 waits for no
host, it is ignored in start-up too: the model's choice (assumption 82). -/
def execSysBootCtrlGo (s : State) : Host.Outcome State Fault Refusal :=
  hostAct 0x00 0x54 s fun s =>
    if s.mode = .startUp ∧ !s.applied ∧ (s.boot = 1 ∨ s.boot = 2) then
      match s.loadImage (fun o n => s.bytes (0x02000000 + o) n) 3 with
      | (t, true) => t.beginJoin
      | (t, false) => t
    else s

/-- POWER_GOOD_FILTER_EXPIRY (R25, R27, R28). -/
def execPowerGoodFilterExpiry (selfTestOk xtalOk plls : Bool) (pos boot : Fin 4) (aoAlm : Bool) (s : State) :
    Host.Outcome State Fault Refusal :=
  effect s (if s.held ∧ s.mainOn ∧ s.mode = .startUp then s.release selfTestOk xtalOk plls pos boot aoAlm else s)

/-- JOIN_WAIT_EXPIRY (R18, R29, R47): with one agreeing sibling the two go on; with none, and no pair against this member,
Commission. -/
def execJoinWaitExpiry (s : State) : Host.Outcome State Fault Refusal :=
  coreAct s fun s =>
    if !s.joining ∨ !s.applied ∨ s.setExists ∨ s.sib.wgrp.isSome ∨ (s.group s.wgrpNo).weir then s
    else if !s.agreeingSibs.isEmpty then s.joinDone
    else if s.pairAgainst then s
    else s.enterCommission 7

/-- Is the E3 of an expired device watchdog, or what it escalated to, pending (R90)? -/
def State.wdtPending (s : State) : Bool :=
  ((s.slot 3).toList ++ (s.slot 4).toList ++ s.queue 3).any fun e => e.page == 5 && e.cause == 1

/-- WEIR_WATCHDOG_RESET (R34, R90): it follows an expiry of the device watchdog. -/
def execWeirWatchdogReset (s : State) : Host.Outcome State Fault Refusal := effect s (if s.awake ∧ s.wdtPending then s.warmReset 3 else s)

end Sys2Proof.Machine
end

