-- ==== Sys2Proof/Machine/Commit.lean ====
section
/-! DEFINITION. Commit groups at their boundary (R77 to R87): what a committed entry does (R93, R97, R138, R154, R164, R190, R201,
R203, R231, R280, R298, R303, R345), the mode group (R439), outcomes and their comparison (R82). -/

namespace Sys2Proof.Machine

/-- The instant of an event that has a time of its own: PTP time reaches it, within the base tick in progress. -/
def State.at (s : State) (ns : Nat) : State :=
  if s.time.ns ≤ ns ∧ ns < s.time.edge then { s with time := { s.time with ns := ns } } else s

/-! ### Latched lanes and the E4 (R93, R97) -/

/-- Is the fault condition of a lane present, as its status register shows it (R93; assumption 14)? -/
def State.laneFault (s : State) (page n : Nat) : Bool :=
  match page with
  | 0x0B => s.flag .SLC_LANE_FAIL_VALID && s.fld .SLC_LANE_FAIL_LANE == n
  | 0x0C => bitOf (s.fld (.LOP_INVALID_INV (n / 32))) (n % 32)
  | 0x13 => s.flag (.ADC_REF_FAIL n)
  | 0x14 => s.fld (.AIN_STAT_FAULT n) != 0 || s.flag (.AIN_STAT_LS_THERM n) || s.flag (.AIN_STAT_LS_LIMIT n)
  | 0x15 => s.flag (.AOU_STAT_COMP n) || s.flag (.AOU_STAT_OPEN n) || s.flag (.AOU_STAT_THERM n)
  | 0x16 => s.flag (.DIO_STAT_THERM n) || s.flag (.DIO_STAT_OPEN n) || s.flag (.DIO_STAT_OVL n) || s.flag (.DIO_STAT_WB n) ||
      (s.dch n).mism == 3
  | 0x17 => s.flag (.TRP_STAT_PATH_OPEN n)
  | _ => false

/-- A committed ERR_RELEASE (R93): the lane is released while its fault is absent; the register reads 0. -/
def State.releaseLane (s : State) (src : Nat) : State :=
  let page := src / 0x10000 % 256
  let idx := src % 0x10000
  let t := s.put .ERR_RELEASE_SRC 0
  if t.laneFault page idx then t
  else { t with err := { t.err with latched := t.err.latched.filter fun e => e != (page, idx) } }

/-- Is the source of an E4 still present (R97)? A disagreement in fingerprint or version, time events at their limit, two
counts above the mismatch limit, a lost voting sibling; for an E4 that keeps the cause of the event it escalates (R106), the clock
monitor's and the self-tests' failure bits, a die in its temperature episode, a PLL without lock, the fault of a lane. Other sources
are over with their event. -/
def State.e4Present (s : State) (e : Event) : Bool :=
  if e.page = 0x01 ∧ e.cause ≠ 0xFF then s.err.hot.contains e.detail
  else if e.page = 0x02 ∧ e.cause ≠ 0xFF then
    !(match e.detail with
      | 0 => s.flag .CLK_STAT_LOCK_S
      | 1 => s.flag .CLK_STAT_LOCK_Y
      | _ => s.flag .CLK_STAT_LOCK_N)
  else if e.page ≠ 0x05 then e.lane && s.laneFault e.page e.idx
  else match e.cause with
    | 2 => s.flag .WIR_CLK_MON_FAIL
    | 4 => s.flag .WIR_ST_STAT_PER_FAIL
    | 5 => s.flag .WIR_ST_STAT_REHASH_FAIL
    | 6 => s.votingSibs.any fun k => !s.flag (.SIB_PEER_CFG_AGREE k)
    | 7 => s.votingSibs.any fun k => !s.flag (.SIB_PEER_VER_AGREE k)
    | 8 => decide (3 ≤ s.fld .SIB_TIME_STAT_EVT)
    | 9 =>
      let lim := s.fld .WIR_MISMATCH_LIMIT
      decide (2 ≤ b2n (decide (lim < s.fld .WIR_MISMATCH_CNT_CNT_A)) + b2n (decide (lim < s.fld .WIR_MISMATCH_CNT_CNT_B)) +
        b2n (decide (lim < s.fld .WIR_MISMATCH_CNT_CNT_C)))
    | 10 => match sibOf s.pos e.detail with
      | some k => s.fld (.SIB_PEER_REACH k) == 0
      | none => false
    | _ => false

/-- A committed ERR_ACK of 4 (R97). -/
def State.ackE4 (s : State) : State :=
  if s.mode ≠ .safe then s
  else match s.slot 4 with
    | none => s
    | some e => if s.e4Present e then s.refuse 0x07 0x30 0x708C else s.healthIf ((s.setSlot 4 none).settle)

/-! ### Safety-flagged points (R50 to R58, R239) -/

/-- The SAFE value of the first safety-flagged command point a word feeds (R239, R241). -/
def State.safetyPoint (s : State) (w : Nat) : Option Word :=
  if s.fld .STN_TABLE_BASE = 0 then none else
    (List.range 1024).findSome? fun id =>
      if s.stnEnabled id then
        (List.range (s.stnCmd id)).findSome? fun n =>
          let r := (s.cmdRec id n 0).toNat
          if bitOf r 24 && bitsOf r 23 0 == w then some (s.cmdRec id n 1) else none
      else none

/-- A committed WIR_DISAGREE_REL.REL (R58): points whose word agrees in both images are released; the register reads 0. -/
def State.releaseDisagree (s : State) (rel : Bool) : State :=
  let t := s.putB .WIR_DISAGREE_REL false
  if !rel then t else
    let same := fun w => t.votingSibs.all fun k =>
      (Sparse.at none (t.peer k).image w).getD 0 == Sparse.at 0 t.scn.image w
    { t with sib := { t.sib with disagree := t.sib.disagree.filter fun w => !same w } }

/-! ### Rejoin registers (R59, R60) -/

/-- Is a position admissible: Joining, or Sidelined, still powered and with no E3 of its own pending (R59)? -/
def State.admissible (s : State) (p : Nat) : Bool :=
  match sibOf s.pos p with
  | some k => s.role p == 1 ||
      (s.role p == 4 && s.fld (.SIB_PEER_REACH k) != 0 && match (s.peer k).health with
        | some h => h.pend < 3
        | none => false)
  | none => false

/-- The joiner's up sibling sends it the image (R60 step 2); where that does not vote, the down sibling does. The image goes over the
link to the joiner, or over the other while that is not Up. -/
def State.sendImageTo (s : State) (p : Nat) : State :=
  match sibOf s.pos p with
  | none => s
  | some k =>
    if sibPos p 0 = s.pos ∨ s.role (sibPos p 0) ≠ 3 then s.send (.image (if s.link k = 2 then k else 1 - k) s.sib.image) else s

/-- A committed admission on a voting member (R59, R60 step 1); the image is skipped where the fingerprints agree. -/
def State.admitJoiner (s : State) (p : Nat) : State :=
  if s.admissible p ∧ s.role s.pos = 3 then
    let agree := match sibOf s.pos p with | some k => s.flag (.SIB_PEER_CFG_AGREE k) | none => false
    let t := ((s.put .SIB_REJOIN_STAT_PHASE (if agree then 3 else 2)).put .SIB_REJOIN_STAT_FAIL 0).put .SIB_REJOIN_STAT_SHADOW_DONE 0
    { if agree then t else t.sendImageTo p with sib := { t.sib with bulkAt := s.now } }
  else s

/-- The triplet's mode after a vote-in: Degraded becomes Run (R60 step 7). -/
def State.votedMode (s : State) : State :=
  if s.mode = .degraded ∧ s.voters = 3 then ({ s with mode := .run }).modeRecord 3 2 6 0 else s

/-- A committed vote-in (R60 step 7). -/
def State.voteIn (s : State) (p : Nat) : State :=
  let t := s.put .SIB_REJOIN_VOTE_POS 0
  if t.role p = 2 then
    (((t.setRole p 3).put .SIB_REJOIN_STAT_PHASE 5).putB .WIR_VOTE_STAT_SIMPLEX false).votedMode
  else t

/-- A committed word of SIB_REJOIN. A group of the Weir acts with the one field it stages (R437). -/
def State.rejoinWord (s : State) (v : Nat) (weir : Bool) : State :=
  if s.pos = 0 then s.put .SIB_REJOIN_VOTE_POS 0
  else
    let vote := bitsOf v 3 2
    let s1 := if vote ≠ 0 ∧ weir then s.voteIn vote else s.put .SIB_REJOIN_VOTE_POS 0
    let s2 := if bitsOf v 1 0 ≠ 0 ∧ (!weir ∨ vote = 0) then s1.admitJoiner (bitsOf v 1 0) else s1
    if bitsOf v 5 4 ≠ 0 ∧ !weir then (s2.sideline (bitsOf v 5 4) 7).soleVoter (bitsOf v 5 4) else s2

/-! ### The force table (R226, R228, R231) -/

/-- A commit has changed the force table: the map and the Condition record at once; the entries act from the following cycle, or
from the agreed cycle time at or after the instant (R228). -/
def State.forcesChanged (s old : State) (instant : Bool) : State :=
  let new := s.validForces
  let changes := ((List.range 256).filter fun k => decide (old.forceEntry k ≠ s.forceEntry k)).map fun k => (k, s.forceEntry k)
  let s1 := (s.forceMap old.validForces new).setScn fun x =>
    { x with forcePend := x.forcePend ++ [(if instant then some (tickOf s.now) else none, changes)] }
  ((s1.bump .SCN_FORCE_CNT_CHANGES).condition 0x8D80 2 0xFF 0x0D0000 new.length).dropCheck

/-! ### Effects of committed entries -/

/-- Bit n of a word for each n that it sets, below k. -/
def onBits (k w : Nat) (f : Nat → State → State) (s : State) : State := forN k (fun n t => if bitOf w n then f n t else t) s

/-- A committed LOP_TEST word: RUN = 1 starts the generator; RUN = 0 stops it if its LEN is 0, and one with LEN samples left goes on, its
RUN still reading 1 (R201; assumption 93). -/
def State.testRun (s : State) (g : Nat) : State :=
  if s.flag (.LOP_TEST_RUN g) then s.startGen g
  else if s.genWord g 4 = 0 then s.endGen g
  else if (s.gen g).on then s.putB (.LOP_TEST_RUN g) true
  else s

/-- A committed LOP_CAP control word: ARM = 1 starts the unit unless its slot is not running, which refuses ARM with code 0x51; ARM = 0
stops it (R203, R207). -/
def State.captureArm (s : State) (c : Nat) : State :=
  if !s.flag (.LOP_CAP_CTRL_ARM c) then s.stopCapture c
  else if s.slotRuns (s.fld (.LOP_CAP_CTRL_SLOT c)) then s.startCapture c
  else (s.putB (.LOP_CAP_CTRL_ARM c) false).refuse 0x0C 0x51 (s.fld (.LOP_CAP_CTRL_SLOT c))

/-- What a committed register entry does besides its value; old is the state before the group. -/
def State.regEffect (old s : State) (adr : Nat) (v : Word) (weir : Bool) : State :=
  let w := v.toNat
  if adr = 0x708C then s.ackE4
  else if adr = 0x7090 then s.releaseLane w
  else if adr = 0x5064 then s.releaseDisagree (bitOf w 0)
  else if adr = 0x6070 then s.rejoinWord w weir
  else if adr = 0xA100 then
    onBits 4 (w / 16 % 16) (fun n t => t.abortRun n) (onBits 4 (w % 16) (fun n t =>
      if t.fld (.SLV_CTX_CFG_TRIG n) = 3 then t.trigger n else t) (s.put .SLV_CTX_GO_START 0))
  else if 0xB160 ≤ adr ∧ adr < 0xB170 then s.publishedRun ((adr - 0xB160) / 4)
  else if 0xC080 ≤ adr ∧ adr < 0xC0C0 then
    let changed := (old.reg adr ^^^ s.reg adr).toNat
    let ns := ((List.range 32).filter fun k => bitOf changed k).map fun k => (adr - 0xC080) / 4 * 32 + k
    { s with lop := { s.lop with check := ns.foldl addOnce s.lop.check } }
  else if 0xC200 ≤ adr ∧ adr < 0xC220 then
    s.testRun ((adr - 0xC200) / 4)
  else if 0xC240 ≤ adr ∧ adr < 0xC2C0 ∧ (adr - 0xC240) % 32 = 0 then
    s.captureArm ((adr - 0xC240) / 32)
  else if 0x120C0 ≤ adr ∧ adr < 0x120E0 ∧ (adr - 0x120C0) % 8 = 0 then
    (let m := (adr - 0x120C0) / 8
     if s.flag (.PLS_OUT_CFG_CTRL_EN m) ∧ !old.flag (.PLS_OUT_CFG_CTRL_EN m) then s.pulseEnable m else s)
  else if adr = 0x13040 ∧ !s.flag .ADC_CTRL_COMPAT then s.putB .ADC_DATA_VALID false
  else if 0x14040 ≤ adr ∧ adr < 0x14080 then
    (let n := (adr - 0x14040) / 4
     if s.fld (.AIN_CFG_MODE n) ≠ old.fld (.AIN_CFG_MODE n) then
       let a := Sparse.mod {} s.adc.ain n fun (x : Ain) => { x with settleEnd := s.now + 10000000 }
       { s.putB (.AIN_STAT_SETTLING n) true with adc := { s.adc with ain := a } }
     else s)
  else if adr = 0xE058 then s.put .STN_SNAP_US (clampNat 1000 (s.fld .STN_CYCLE_MS * 1000 - 1000) (s.fld .STN_SNAP_US))
  else if adr = 0xE040 ∧ s.flag .STN_CTRL_EN ∧ !old.flag .STN_CTRL_EN then s.igmpReports
  else if 0x2D080 ≤ adr ∧ adr < 0x2D0C0 ∧ s.flag (.BMI_POLL_EN ((adr - 0x2D080) / 4)) ∧
      s.fld (.BMI_POLL_FMT ((adr - 0x2D080) / 4)) = 1 then
    s.askExponent ((adr - 0x2D080) / 4)
  else if 0x23040 ≤ adr ∧ adr < 0x27040 ∧ adr % 0x1000 = 0x40 then
    s.canEnable ((adr - 0x23040) / 0x1000) (bitOf (old.reg adr).toNat 31)
  else s

/-- Is a register one of the Spring's, whose committed value waits for a tick edge (R345, R301)? -/
def springReg (adr : Nat) : Bool := adr / 0x1000 == 3 || (decide (0x12040 ≤ adr) && decide (adr < 0x12060))

/-- A register entry's value committed (R85, R345); a register whose domain is off takes none (R9). -/
def State.commitReg (s : State) (adr : Nat) (v : Word) : State :=
  if springReg adr then
    { s with time := { s.time with springPend := s.time.springPend ++ [(adr, v)] } }.putB .SPR_STAT_PENDING true
  else if s.domainOff (pageDomain (adr / 0x1000)) then s
  else s.store (· == .rws) adr v

/-- A Basin entry written by the transaction unit through the scan engine's requester (R72, R85, R109). -/
def State.commitBasin (s : State) (w : Nat) (v : Word) : State :=
  match s.attrs w with
  | some (_, false) => s.setWord w v
  | _ => s.roDiscard 5 w

/-- The register entries and the Basin entries of a list. -/
def regEntries (es : List (Target × Word)) : List (Nat × Word) := (es.filter fun e => !e.1.basin).map fun e => (e.1.adr, e.2)
def basinEntries (es : List (Target × Word)) : List (Nat × Word) := (es.filter fun e => e.1.basin).map fun e => (e.1.adr, e.2)

/-- The loop slots whose records lie at some Basin words. -/
def State.slotsAt (s : State) (ws : List Nat) : List Nat :=
  let b := s.fld .LOP_CFG_BASE / 4
  if b = 0 then [] else (ws.filter fun w => decide (b ≤ w) && decide (w < b + 512 * 64)).map fun w => (w - b) / 64

/-- What the committed Basin entries do besides their values: loop records to be checked (R190), forces (R231), the quantity table
(R280). -/
def State.basinEffects (old s : State) (ws : List Nat) (instant : Bool) : State :=
  let changed := ws.filter fun w => old.word w != s.word w
  let s1 := { s with lop := { s.lop with check := (s.slotsAt changed).foldl addOnce s.lop.check } }
  let s2 := if changed.any fun w => decide (0x80000 ≤ w) && decide (w < 0x80400) then s1.forcesChanged old instant else s1
  let q := s2.fld .NRG_QTY_BASE / 4
  if q != 0 && ws.any fun w => decide (q ≤ w) && decide (w < q + 1024) then s2.checkQty else s2

/-! ### Applying -/

/-- The banks a group's Basin entries touch, ascending (R85). -/
def banksOf (es : List (Target × Word)) : List Nat := (List.range 16).filter fun b => es.any fun e => e.1.basin && e.1.bank == b

/-- Does another requester hold a locked sequence on a bank? -/
def State.foreignLock (s : State) (b : Nat) : Bool := match Sparse.at none s.bsn.locks b with
  | some l => l.owner != 5
  | none => false

/-- Does another requester hold a locked sequence on a bank the group needs (R85)? -/
def State.applyWaits (s : State) (es : List (Target × Word)) : Bool := (banksOf es).any s.foreignLock

/-- The transaction unit opens its locked sequences in ascending bank order, up to the first bank that another requester holds (R85
step 2). -/
def State.takeBanks (s : State) (es : List (Target × Word)) : State :=
  ((banksOf es).takeWhile fun b => !s.foreignLock b).foldl (fun t b =>
    { t with bsn := { t.bsn with locks := Sparse.put none t.bsn.locks b (some ⟨5, 0⟩) } }) s

/-- All of the unit's locked sequences end in one cycle (R85 step 3). -/
def State.freeBanks (s : State) (es : List (Target × Word)) : State :=
  (banksOf es).foldl (fun t b => if t.foreignLock b then t else
    { t with bsn := { t.bsn with locks := Sparse.put none t.bsn.locks b none } }) s

/-- The target of a mode group. -/
def Group.modeOf (x : Group) : Option Nat := (entryOf modeTarget x.entries).map fun v => v.toNat % 16

/-- The register entries change in one cycle, and act (R85 step 1). -/
def State.applyRegs (s : State) (g : Nat) : State :=
  let x := s.group g
  let rs := regEntries x.entries
  let s1 := rs.foldl (fun t e => t.commitReg e.1 e.2) (s.setGroup g fun y => { y with state := 4 })
  rs.foldl (fun t e => State.regEffect s t e.1 e.2 x.weir) s1

/-- The Basin entries are written and the banks released, the group is committed, and a mode group makes its transition (R82, R85,
R87, R18). The transition of a group whose Basin part has waited follows that part (assumption 84). -/
def State.finishApply (s : State) (g : Nat) : State :=
  let x := s.group g
  let bs := basinEntries x.entries
  let s1 := (bs.foldl (fun t e => t.commitBasin e.1 e.2) s).freeBanks x.entries
  let s2 := State.basinEffects s s1 (bs.map Prod.fst) (decide (3 ≤ s.kindOf g))
  let s3 := (s2.startOutcome g x.hash).freeGroup g 1
  match x.modeOf with
  | some m => s3.modeTransition m
  | none => s3

/-- A mode group that is no longer allowed: aborted whole (R19, R439). -/
def State.modeAbort (s : State) (g target : Nat) : State :=
  ((s.startOutcome g 0).freeGroup g 6).raise 1 0x08 g 3 target

/-- The Basin part of an Applying group as far as the locks let it go. -/
def State.applyBasin (s : State) (g : Nat) : State :=
  let es := (s.group g).entries
  let t := s.takeBanks es
  if t.applyWaits es then t else t.finishApply g

/-- A group at its boundary is applied (R85, R439); with a bank locked by another requester its Basin part waits. A group with
REFUSED set never commits: it aborts (R73; its RESULT is the model's choice, assumption 84). -/
def State.applyGroup (s : State) (g : Nat) : State :=
  let x := s.group g
  if x.refused then s.abortGroup g 2
  else match x.modeOf.filter fun m => !s.transitionOk g m x.weir with
  | some m => s.modeAbort g m
  | none => (s.applyRegs g).applyBasin g

/-- A group still Armed at its boundary aborts: LATE or NO_AGREE, with an E1 (R79, R82). -/
def State.boundaryMiss (s : State) (g : Nat) : State :=
  let x := s.group g
  let heard := (Sparse.at none x.sibHash 0).isSome || (Sparse.at none x.sibHash 1).isSome
  let agree := s.agreeBits g
  let t := (s.startOutcome g 0).freeGroup g (if heard then 4 else 5)
  t.raise 1 0x08 g (if heard then 1 else 2) (if heard then agree else s.kindOf g)

/-- A group's boundary arrives (R79). -/
def State.boundary (s : State) (g : Nat) : State :=
  match (s.group g).state with
  | 2 => s.boundaryMiss g
  | 3 => s.applyGroup g
  | _ => s

/-- Groups of kind 3 whose slot has stopped abort with NO_BOUNDARY (R79). -/
def State.stoppedSlots (s : State) : State :=
  forN 16 (fun g t => if t.kindOf g = 3 ∧ ((t.group g).state = 2 ∨ (t.group g).state = 3) ∧
    !t.slotRuns (t.fld (.TXN_GRP_CFG_SLOT g)) then t.abortGroup g 8 else t) s

/-- Is a group of kinds 3 to 5 due at PTP time t? -/
def State.groupDue (s : State) (g t : Nat) : Bool :=
  ((s.group g).state == 2 || (s.group g).state == 3) && decide (3 ≤ s.kindOf g) && decide ((s.group g).bound ≤ t)

/-- The groups due now, in ascending number (R79). -/
def State.dueGroups (s : State) : State := forN 16 (fun g t => if t.groupDue g t.now then t.boundary g else t) s.stoppedSlots

/-- Kind 1 and 2 groups at phase 5 (R77, R81). -/
def State.phase5Groups (s : State) : State :=
  forN 16 (fun g t => if t.kindOf g = 1 ∨ t.kindOf g = 2 then t.boundary g else t) s

/-- At position S a kind 1 group commits with its arm command (R77). -/
def State.immediate (s : State) (g : Nat) : State :=
  if s.pos = 0 ∧ s.kindOf g = 1 ∧ (s.group g).state = 3 then s.applyGroup g else s

/-- An arm command (R76, R77, R80), its refusal in the page given. -/
def State.armGroup (s : State) (g page : Nat) : State × Bool :=
  match s.armRefusal g with
  | some c => (s.refuse page c g, false)
  | none => ((s.armNow g).immediate g, true)

/-! ### Outcomes (R82) -/

/-- A sibling's outcome as held: that of this use; at the end of the own repetition also one that its frames still repeat, though it
equals that of the use before (assumption 85). -/
def State.outcomeOf (s : State) (g k : Nat) (final : Bool) : Option (BitVec 128) :=
  let x := s.group g
  match Sparse.at none x.sibOutcome k with
  | some h => some h
  | none => if final && decide (s.now ≤ Sparse.at 0 x.sibHeard k + 500000) then (Sparse.at none x.sibLast k).map Prod.fst else none

/-- The outcomes of the voting siblings that have arrived, by position. -/
def State.heldOutcomes (s : State) (g : Nat) (final : Bool) : List (Nat × BitVec 128) :=
  s.votingSibs.filterMap fun k => (s.outcomeOf g k final).map fun h => (sibPos s.pos k, h)

/-- The comparison of a group's outcomes, over those held. -/
def State.judgeOutcomes (s : State) (g : Nat) (own : BitVec 128) (final : Bool) : State :=
  match s.heldOutcomes g final with
  | [(p, a), (q, b)] =>
    if own = a ∧ own = b then s
    else if a = b then s
    else if own = a then s.sideline q 3
    else if own = b then s.sideline p 3
    else s.raise 4 0x05 0 0x0B g
  | [(_, a)] => if own ≠ a ∧ s.votingSibs.length = 1 then s.raise 4 0x05 0 0x0B g else s
  | _ => s

/-- The member compares once it holds every voting sibling's outcome, or at the end of its repetition; once for each boundary. -/
def State.compareOutcomes (s : State) (g : Nat) (final : Bool) : State :=
  let x := s.group g
  match x.outcome with
  | none => s
  | some own =>
    if x.compared ∨ !(final || decide ((s.heldOutcomes g false).length = s.votingSibs.length)) then s
    else (s.judgeOutcomes g own final).setGroup g fun y => { y.retire with compared := true }

/-- The repetition ends: what is held is compared, and no more outcome frames follow. -/
def State.endOutcome (s : State) (g : Nat) : State :=
  (s.compareOutcomes g true).setGroup g fun x => { x with outcome := none }

/-- A scan cycle, or a base tick while the engine is stopped, counts for every repetition. -/
def State.countReps (s : State) : State :=
  forN 16 (fun g t => if (t.group g).outcome.isSome then
      let r := (t.group g).reps - 1
      let u := t.setGroup g fun x => { x with reps := r }
      if r = 0 then u.endOutcome g else u
    else t) s

/-- The frames a member repeats each base tick: proposals of Armed and Agreed groups, outcomes (R80, R82). -/
def State.repeatHashes (s : State) : State :=
  if s.noHashes then s else
    forN 16 (fun g t =>
      let x := t.group g
      let u := if x.state = 2 ∨ x.state = 3 then t.sendBoth 3 (groupRef g 0 (t.boundTime g)) true (t.hashPayload x.hash) else t
      match x.outcome with
      | some h => u.sendBoth 3 (groupRef g 2 (u.boundTime g)) true (u.hashPayload h)
      | none => u) s

/-! ### Commands -/

/-- TXN_OPEN (R75, R76). -/
def execTxnOpen (group : Fin 16) (s : State) : Host.Outcome State Fault Refusal :=
  hostAct 0x08 0x40 s fun s => (s.openGroup group.val 0x08).1

/-- TXN_ARM (R76, R77, R80). -/
def execTxnArm (group : Fin 16) (s : State) : Host.Outcome State Fault Refusal :=
  hostAct 0x08 0x40 s fun s => (s.armGroup group.val 0x08).1

/-- TXN_ABORT (R83). -/
def execTxnAbort (group : Fin 16) (s : State) : Host.Outcome State Fault Refusal :=
  hostAct 0x08 0x40 s fun s => s.abortCmd group.val

/-- A staged write of the host through a page's TXN_SEL (R71 to R73, R436). -/
def State.hostStage (s : State) (page : Nat) (t : Target) (v : Word) : State :=
  let g := s.fld (.TXN_SEL_GROUP page)
  if s.locked page then
    let u := s.refuse page 0x0F (if t.basin then 0x804C else t.adr)
    if s.flag (.TXN_SEL_EN page) then u.setGroup g fun x => { x with refused := true } else u
  else if !s.flag (.TXN_SEL_EN page) then s.refuse page 0x10 t.adr
  else (s.stage g t v true page).1

/-- TXN_STAGE_DATA_WRITE (R72, R73, R229). -/
def execTxnStageDataWrite (value : Word) (s : State) : Host.Outcome State Fault Refusal :=
  coreAct s fun s => s.hostStage 0x08 ⟨true, s.fld .TXN_STAGE_ADDR_WADDR⟩ value

/-- RWS_WRITE (R71, R73): a host write to a register with RWS fields; to any other address it stages nothing. -/
def execRwsWrite (adr : BitVec 18) (value : Word) (s : State) : Host.Outcome State Fault Refusal :=
  coreAct s fun s =>
    let a := adr.toNat
    if a % 4 = 0 ∧ hasAcc .rws a ∧ !s.domainOff (pageDomain (a / 0x1000)) then s.hostStage (a / 0x1000) ⟨false, a⟩ value else s

/-- TXN_GRP_CFG_WRITE (R84, R87): ignored unless the group is Open. -/
def State.writeGrpCfg (s : State) (g : Nat) (v : Word) : State :=
  if (s.group g).state ≠ 1 then s
  else
    let h := bitsOf v.toNat 19 16
    let t := s.store (· == .rw) (0x8080 + 4 * g) v
    if bitOf v.toNat 20 ∧ !((s.group h).state = 2 ∨ (s.group h).state = 3) then
      s.refuse 0x08 0x19 h
    else t

def execTxnGrpCfgWrite (group : Fin 16) (value : Word) (s : State) : Host.Outcome State Fault Refusal :=
  hostAct 0x08 (0x80 + 4 * group.val) s fun s => s.writeGrpCfg group.val value

/-- GROUP_BOUNDARY (R79): the time of a group of kinds 3 to 5 has come; PTP time reaches it, unless a base tick edge lies before. Every
group due then applies, in ascending number. Kinds 1 and 2 take their boundary in phase 5 of a scan cycle. -/
def execGroupBoundary (group : Fin 16) (s : State) : Host.Outcome State Fault Refusal :=
  coreAct s fun s =>
    let t := if s.groupDue group.val (s.time.edge - 1) then s.at (s.group group.val).bound else s
    let u := t.stoppedSlots
    if u.groupDue group.val u.now then u.dueGroups else u

/-- OUTCOME_COMPARE (R82). -/
def execOutcomeCompare (group : Fin 16) (s : State) : Host.Outcome State Fault Refusal :=
  coreAct s fun s => s.compareOutcomes group.val false

/-- OUTCOME_REPEAT_END (R82): 16 completed scan cycles, or base ticks while the engine is stopped, have passed. -/
def execOutcomeRepeatEnd (group : Fin 16) (s : State) : Host.Outcome State Fault Refusal :=
  coreAct s fun s => if (s.group group.val).reps = 0 then s.endOutcome group.val else s

end Sys2Proof.Machine
end

