-- ==== Sys2Proof/Machine/Power.lean ====
section
/-! DEFINITION. Zero crossings and the windows they close (R283 to R286), the shed logic (R264 to R272) and the commands of both. -/

namespace Sys2Proof.Machine

def State.setPms (s : State) (f : PmsState → PmsState) : State := { s with pms := f s.pms }

/-! ### The shed level and its conditions -/

def State.shedLevel (s : State) : Nat := s.fld .PMS_LEVEL_OWN

/-- Does a breaker input show closed, after inversion (R264)? -/
def State.genClosed (s : State) (n : Nat) : Bool := s.dioState (s.fld (.PMS_GEN_BRK_CH n)) != s.flag (.PMS_GEN_BRK_INV n)
def State.tieClosed (s : State) (n : Nat) : Bool := s.dioState (s.fld (.PMS_TIE_BRK_CH n)) != s.flag (.PMS_TIE_BRK_INV n)
def State.genTrip (s : State) (n : Nat) : Bool := s.dioState (s.fld (.PMS_GEN_TRIP_CH n)) != s.flag (.PMS_GEN_TRIP_INV n)

/-- The campus is islanded: every enabled tie's breaker shows open (R264). -/
def State.islanded (s : State) : Bool := (List.range 2).all fun n => !s.flag (.PMS_TIE_EN n) || !s.tieClosed n

/-- Is the voltage of FSRC absent (R284)? -/
def State.fsrcAbsent (s : State) : Bool := bitOf (s.fld .NRG_STAT_VABS) (s.fld .PMS_CTRL_FSRC)

/-- A register word as a binary32 threshold. -/
def State.word32 (s : State) (f : Fd) : Word := w32 (s.fld f)

/-- The underfrequency trigger of stage n + 1 holds (R265). -/
def State.underHolds (s : State) (n : Nat) : Bool :=
  let thr := s.word32 (.PMS_STAGE_UF_HZ n)
  let k := s.fld (.PMS_STAGE_WIN_UF_N n)
  flt 0 thr && !s.fsrcAbsent && decide (k ≤ s.pms.periods.length) && (s.pms.periods.take k).all fun p => flt p.2.2 thr

/-- The rate-of-change trigger holds at the last crossing (R265), in binary64. -/
def State.rocofHolds (s : State) (n : Nat) : Bool :=
  let thr := s.word32 (.PMS_STAGE_ROCOF n)
  let w := s.fld (.PMS_STAGE_WIN_ROCOF_W n)
  match s.pms.periods.head?, s.pms.periods[w]? with
  | some a, some b =>
    let dt := ddiv (dofInt (((s.pms.periods.take w).map fun p => p.2.1).foldl (· + ·) 0 : Nat)) (dofInt 1000000000)
    flt 0 thr && !s.fsrcAbsent && dle (ddiv (dsub (widen a.2.2) (widen b.2.2)) dt) (dneg (widen thr))
  | _, _ => false

/-- The set-trip trigger holds (R265). -/
def State.tripHolds (s : State) (n : Nat) : Bool :=
  (List.range 16).any fun g => bitOf (s.fld (.PMS_STAGE_CTRL_GEN n)) g && s.flag (.PMS_GEN_EN g) && s.pms.trips.contains g

/-- The overload trigger holds (R265): from the crossing at which the RMS had exceeded the limit long enough, while it does. -/
def State.overHolds (s : State) (n : Nat) : Bool := s.pms.overOn.contains n

/-- The overload triggers at the end of a window, with the RMS it gives: they begin at a crossing alone, and end with any window whose RMS
is not above the limit, those of an absent voltage included (R265, R284). -/
def State.overWindow (s : State) (t : Nat) (crossing : Bool) : State :=
  let above := (List.range 8).filter fun n =>
    let thr := s.word32 (.PMS_STAGE_OVL_A n)
    flt 0 thr && flt thr (Sparse.at 0 s.nrg.rms (s.fld (.PMS_STAGE_OVL_OVL_CH n)))
  let since := above.foldl (fun m n => Sparse.put none m n (some ((Sparse.at none s.pms.overFrom n).getD t))) []
  let ripe := fun n => match Sparse.at none since n with
    | some t0 => crossing && decide (t0 + s.fld (.PMS_STAGE_OVL_OVL_T n) * 1000000 ≤ t)
    | none => false
  s.setPms fun x => { x with overFrom := since, overOn := above.filter fun n => x.overOn.contains n || ripe n }

/-- May a stage's condition hold: in use, and islanded where it asks for it? -/
def State.stageOn (s : State) (n : Nat) : Bool :=
  s.flag .PMS_CTRL_EN && s.flag (.PMS_STAGE_CTRL_EN n) && (!s.flag (.PMS_STAGE_CTRL_ISLAND_ONLY n) || s.islanded)

/-- The condition of stage n + 1 (R265). -/
def State.stageHolds (s : State) (n : Nat) : Bool :=
  s.stageOn n && (s.underHolds n || s.rocofHolds n || s.tripHolds n || s.overHolds n)

/-! ### Shed actions -/

/-- The trip channels of the masks of stages 1 to a level (R267). -/
def State.shedMask (s : State) (level : Nat) : Nat :=
  (List.range level).foldl (fun acc n => acc ||| s.fld (.PMS_STAGE_CTRL_TRP n)) 0

/-- The least cap of a group over stages 1 to a level, in 1/255 (R268). -/
def State.capOf (s : State) (level g : Nat) : Nat :=
  (List.range level).foldl (fun acc n => min acc (s.byte (s.fld .PMS_CAP_BASE + 64 * n + g)).toNat) 255

/-- The eight shed frames as they are prepared for a station cycle: SAFETY and the caps of each level (R268). -/
def State.shedFrames (s : State) : List (Bool × List Byte) :=
  (List.range 8).map fun n =>
    (s.flag (.PMS_STAGE_CTRL_VOTE n), (List.range 64).map fun g => BitVec.ofNat 8 (s.capOf (n + 1) g))

/-- At a station cycle start the frames prepared for the cycle come into use, and those of the next cycle are prepared (R268; assumption
97). -/
def State.prepareShed (s : State) : State :=
  let c := s.cycleStart
  s.setPms fun x => { x with sheds := (x.sheds.filter fun e => e.1 == c) ++ [(c + s.cycleNs, s.shedFrames)] }

/-- The frame of a level for the present station cycle: as it was prepared, without a read of the Basin (R118), or as it would be now
where no cycle start has come before. -/
def State.shedFrame (s : State) (level : Nat) : Bool × List Byte :=
  let l := match s.pms.sheds.find? fun e => e.1 == s.cycleStart with
    | some e => e.2
    | none => s.shedFrames
  l.getD (level - 1) (true, [])

/-- The shed Broadcast for a level (R268), on both networks of station rings A and B (R234). -/
def State.shedBroadcast (s : State) (level : Nat) : State :=
  let c := s.cycleStart
  let act := s.now + s.fld .PMS_LEAD_US * 1000
  let x := s.shedFrame level
  let body := leBytes 1 level ++ [0, 0, 0] ++ leBytes 8 act ++ x.2
  let frame := s.stnFrame 0xFFFF 0x12 (b2n x.1) (s.cycleSeq c + 32 + level) c false body
  let dst := s.fld .STN_MCAST_DN_ADDR
  [1, 2].foldl (fun t p =>
    let pkt := t.udpPacket (t.fld (.NET_IP_ADDR p)) dst (t.fld .STN_PORT_PORT) frame
    (t.sendPair p 0 t.now (t.taggedFrame (mcastAddr dst) (t.fld .STN_PORT_PCP) 0x0800 pkt)).usedFree) s

/-- The elements of shed trip channels are open (R267). -/
def State.shedTrips (s : State) : State :=
  let m := s.shedMask s.shedLevel
  forN 8 (fun n t => if bitOf m n then ((t.putB (.TRP_STAT_SHED n) true).setElement (2 * n) false).setElement (2 * n + 1) false
    else t.putB (.TRP_STAT_SHED n) false) s

/-- L_own rises to a level, detected at an instant (R266, R267). -/
def State.shedRise (s : State) (level kind t : Nat) : State :=
  let s1 := (((((s.put .PMS_LEVEL_OWN level).put64 0x10058 0x1005C t).put .PMS_LAST_SRC_KIND kind).put .PMS_LAST_SRC_STAGE
    level).bump .PMS_LAST_SRC_SHEDS).setPms fun x => { x with changed := s.now }
  if s1.live then s1.shedTrips.shedBroadcast level else s1

/-- The condition of a stage above L_own begins to hold by a trigger kind, at the crossing or tick t (R266, R275). -/
def State.shed (s : State) (stage kind t : Nat) : State :=
  if stage ≤ s.shedLevel then s else (s.shedRise stage kind t).raise 0 0x10 stage 1 (kind * 256 + stage)

/-- The highest stage whose trigger of a kind holds makes L_own rise to it. -/
def State.shedBy (s : State) (kind t : Nat) (holds : Nat → Bool) : State :=
  match ((List.range 8).filter fun n => s.stageOn n && holds n).getLast? with
  | some n => s.shed (n + 1) kind t
  | none => s

/-- The last crossing of FSRC: the instant of what a crossing detects. -/
def State.lastCrossing (s : State) : Nat := match s.pms.periods.head? with
  | some p => p.1
  | none => s.now

/-- The set trips at a base tick (R265): a trip input that becomes active while the set's breaker shows closed, until it is
inactive; ISLAND follows the ties. A stage that comes into force at the tick, as when islanding begins, holds at once by whatever trigger
holds (R266). -/
def State.tripTick (s : State) : State :=
  let active := (List.range 16).filter fun g => s.flag (.PMS_GEN_EN g) && s.genTrip g
  let trips := active.filter fun g => s.pms.trips.contains g || (!s.pms.tripSeen.contains g && s.genClosed g)
  let on := (List.range 8).filter s.stageOn
  let new := fun n => on.contains n && !s.pms.onSeen.contains n
  let t := (s.putB .PMS_LEVEL_ISLAND s.islanded).setPms fun x => { x with tripSeen := active, trips := trips, onSeen := on }
  (((t.shedBy 3 t.now t.tripHolds).shedBy 1 t.now fun n => new n && t.underHolds n).shedBy 2 t.now fun n =>
    new n && t.rocofHolds n).shedBy 4 t.now fun n => new n && t.overHolds n

/-- One stage is released at a station cycle start (R271). -/
def State.shedRelease (s : State) : State :=
  let l := s.shedLevel
  let since := match s.pms.inBand with
    | some t => decide (t + s.fld .PMS_RESTORE_RECOVER * 1000000000 ≤ s.now)
    | none => false
  if 0 < l ∧ (List.range 8).all (fun n => decide (n + 1 < l) || !s.stageHolds n) = true ∧ since = true ∧
      s.pms.changed + s.fld (.PMS_STAGE_DELAY (l - 1)) * 1000000000 ≤ s.now then
    (((s.put .PMS_LEVEL_OWN (l - 1)).setPms fun x => { x with changed := s.now }).raise 0 0x10 l 2 (l - 1))
  else s

/-! ### Crossings -/

/-- A period of FSRC taken into the shed logic: frequency and band (R265, R271, R276). -/
def State.shedPeriod (s : State) (t p : Nat) : State :=
  let f := ratio32 false 1000000000 p 0
  let nom := if s.flag .PMS_CTRL_NOM then 60000 else 50000
  let inside := decide ((nom - s.fld .PMS_RST_BAND_LO) * p ≤ 1000000000000) &&
    decide (1000000000000 ≤ (nom + s.fld .PMS_RST_BAND_HI) * p)
  let s1 := s.setPms fun x => { x with periods := ((t, p, f) :: x.periods).take 52,
                                       inBand := if inside then some (x.inBand.getD t) else none }
  let s2 := (s1.sample 0x10 3 0 (1000000000000 / p)).sample 0x11 1 0 (1000000000000 / p)
  s2.shedBy 2 t s2.rocofHolds

/-- The rising crossing between the two newest samples of a voltage input, if it follows a sample below −HYST (R283). -/
def State.crossingNow (s : State) (n : Nat) : Option Nat :=
  match Sparse.at [] s.nrg.wave n with
  | (_, v1) :: (t0, v0) :: _ =>
    if s.nrg.armed.contains n && flt v0 0 && fle 0 v1 then
      let d := ddiv (dmul (dofInt 62500) (dneg (widen v0))) (dsub (widen v1) (widen v0))
      some (t0 + ((fmt64.floor d.toNat).getD 0).toNat)
    else none
  | _ => none

/-- A crossing of a voltage input accepted (R283, R284): it closes a period since the last one accepted, an absence between them or not. -/
def State.acceptCrossing (s : State) (n t : Nat) : State :=
  let fsrc := n == s.fld .PMS_CTRL_FSRC
  let last := Sparse.at none s.nrg.crossed n
  let s1 := (s.put .NRG_STAT_VABS (s.fld .NRG_STAT_VABS - (if bitOf (s.fld .NRG_STAT_VABS) n then 2 ^ n else 0))).setNrg
    fun x => { x with crossed := Sparse.put none x.crossed n (some t) }
  let s2 := match last with
    | some l => s1.setNrg fun x => { x with period := Sparse.put 0 x.period n (t - l),
                                            freq := Sparse.put 0 x.freq n (ratio32 false 1000000000 (t - l) 0) }
    | none => s1
  if !fsrc then s2
  else
    let s3 := if s.nrg.fixed then (s2.windowEnd t true).setNrg fun x => { x with fixed := false }
      else match last with
        | some _ => s2.windowEnd t false
        | none => s2.setNrg fun x => { x with winStart := t }
    let s4 := (s3.putB .PMS_LEVEL_BLACKOUT false).overWindow t true
    match last with
    | some l => s4.shedPeriod t (t - l)
    | none => s4

/-- A rising zero crossing (R283): ignored less than 12.5 ms after the last accepted one. -/
def State.crossing (s : State) (n : Nat) : State :=
  match s.crossingNow n with
  | none => s
  | some t =>
    let s1 := s.setNrg fun x => { x with armed := x.armed.filter (· != n) }
    match Sparse.at none s.nrg.crossed n with
    | some l => if t < l + 12500000 then s1 else s1.acceptCrossing n t
    | none => s1.acceptCrossing n t

/-- The instant at which a voltage input counts as absent (R284); with no crossing yet it may at any. -/
def State.absentAt (s : State) (n : Nat) : Nat := match Sparse.at none s.nrg.crossed n with
  | some c => c + s.fld .NRG_ZC_TMO * 1000000
  | none => 0

/-- The voltage of an input is absent (R284). -/
def State.voltageAbsent (s : State) (n : Nat) : State :=
  if bitOf (s.fld .NRG_STAT_VABS) n then
    (if n = s.fld .PMS_CTRL_FSRC ∧ !s.nrg.fixed then s.setNrg fun x => { x with fixed := true, winStart := s.now } else s)
  else
    let s1 := s.put .NRG_STAT_VABS (s.fld .NRG_STAT_VABS + 2 ^ n)
    let s2 := if n = s.fld .PMS_CTRL_FSRC then
        (((if (Sparse.at none s.nrg.crossed n).isSome then s1.windowEnd s1.now false else s1).setNrg fun x =>
          { x with fixed := true, winStart := s1.now }).setPms fun x => { x with inBand := none, absentFrom := s1.now }).overWindow s1.now false
      else s1
    s2.raise 0 0x11 n 1 n

/-! ### Commands -/

/-- ZERO_CROSSING (R283, R284, R265): the two newest samples of a voltage input straddle 0 V. -/
def execZeroCrossing (input : Fin 4) (s : State) : Host.Outcome State Fault Refusal :=
  coreAct s fun s => s.crossing input.val

/-- ZERO_CROSSING_TIMEOUT (R284): NRG_ZC.TMO ms after the last accepted crossing. -/
def execZeroCrossingTimeout (input : Fin 4) (ns : Nat) (s : State) : Host.Outcome State Fault Refusal :=
  coreAct s fun s =>
    let t := s.at ns
    if t.absentAt input.val ≤ t.now then t.voltageAbsent input.val else t

/-- FIXED_WINDOW_END (R284): 20 ms after the fixed window began. -/
def execFixedWindowEnd (s : State) : Host.Outcome State Fault Refusal :=
  coreAct s fun s =>
    let e := s.nrg.winStart + 20000000
    let t := s.at e
    if t.nrg.fixed ∧ e ≤ t.now then (t.windowEnd e true).overWindow e false else s

/-- UNDERFREQUENCY (R265, R266): the condition of a stage holds by its underfrequency trigger. -/
def execUnderfrequency (stage : Fin 8) (s : State) : Host.Outcome State Fault Refusal :=
  coreAct s fun s => if s.stageOn stage.val && s.underHolds stage.val then s.shed (stage.val + 1) 1 s.lastCrossing else s

/-- FEEDER_OVERLOAD (R265, R266). -/
def execFeederOverload (stage : Fin 8) (s : State) : Host.Outcome State Fault Refusal :=
  coreAct s fun s => if s.stageOn stage.val && s.overHolds stage.val then s.shed (stage.val + 1) 4 s.lastCrossing else s

/-- BLACKOUT (R272): the voltage of FSRC has been absent for BLACKOUT_T. The absence runs from the timeout of R284. -/
def execBlackout (ns : Nat) (s : State) : Host.Outcome State Fault Refusal :=
  coreAct s fun s =>
    let t := s.at ns
    if t.flag .PMS_CTRL_EN && t.fsrcAbsent && !t.flag .PMS_LEVEL_BLACKOUT &&
        decide (t.pms.absentFrom + t.fld .PMS_RESTORE_BLACKOUT_T * 1000000 ≤ t.now) then
      let u := t.putB .PMS_LEVEL_BLACKOUT true
      (if u.shedLevel < 8 then u.shedRise 8 0 u.now else u).raise 1 0x10 0 3 (min 0xFFFFFF ((u.now - u.pms.absentFrom) / 1000000))
    else t

end Sys2Proof.Machine
end

