-- ==== Sys2Proof/Machine/Wear.lean ====
section
/-! DEFINITION. Wear margins and their events (R413, R415), the daily plan (R412, R414), domains going idle and waking (R403 to
R405), die temperature (R407), losses of lock (R409), the Reservoir (R410) and the field supply (R425). Shown values are cut to
their units (assumption 40). -/

namespace Sys2Proof.Machine

def State.setWear (s : State) (f : WearState → WearState) : State := { s with wear := f s.wear }

/-! ### Margins -/

/-- ERR_HEALTH.MARGIN: the lowest margin of all valid items (R415). -/
def State.lowestMargin (s : State) : Nat :=
  (List.range 16).foldl (fun m n => if s.flag (.WER_MARGIN_VALID n) then min m (s.fld (.WER_MARGIN_PCT n)) else m) 100

/-- An item's margin measured (R413, R415): E1 MARGIN_LOW below WER_WARN, E2 MARGIN_OUT at 0, each once until the margin has
risen above the level that raised it. -/
def State.setMargin (s : State) (n pct worst : Nat) : State :=
  let m := min 100 pct
  let warn := s.fld .WER_WARN_PCT
  let s1 := (((s.putB (.WER_MARGIN_VALID n) true).put (.WER_MARGIN_WORST n) worst).put (.WER_MARGIN_PCT n) m)
  let s2 := s1.put .ERR_HEALTH_MARGIN s1.lowestMargin
  let isLow := decide (m < warn)
  let isOut := decide (m = 0)
  let s3 := s2.setWear fun x => { x with
    low := if isLow then addOnce x.low n else if warn < m then x.low.filter (· != n) else x.low,
    out := if isOut then addOnce x.out n else x.out.filter (· != n) }
  let s4 := if isLow && !s.wear.low.contains n then s3.raise 1 0x2F 0 2 (n + 256 * worst) else s3
  if isOut && !s.wear.out.contains n then s4.raise 2 0x2F 0 3 (n + 256 * worst) else s4

/-- The margin left of a limit after some use. -/
def marginOf (limit used : Nat) : Nat := (limit - used) * 100 / limit

/-- The key and value of the entry that has worn most; 0 where nothing has. -/
def mostWorn (l : List (Nat × Nat)) : Nat × Nat := l.foldl (fun a e => if a.2 < e.2 then e else a) (0, 0)

/-- A margin stored where it or its worst instance has changed. -/
def State.countMargin (s : State) (n limit : Nat) (used : List (Nat × Nat)) : State :=
  let w := mostWorn used
  let m := marginOf limit w.2
  if s.flag (.WER_MARGIN_VALID n) && s.fld (.WER_MARGIN_PCT n) == m && s.fld (.WER_MARGIN_WORST n) == w.1 then s
  else s.setMargin n m w.1

/-- The items measured continuously (R413 items 2 and 4), as they stand at a base tick edge. -/
def State.wearTick (s : State) : State :=
  let t := (s.countMargin 2 100000000 s.wear.outCycles).countMargin 4 10000000 s.wear.tripCycles
  if t.wear.planLate && t.wear.planAt.isNone && (t.mode == .commission || t.live || t.mode == .safe) then
    t.setWear fun x => { x with planAt := some (t.now + 60000000000) }
  else t

/-! ### The daily plan (R414) -/

/-- The values of a list that has entries for some instances only. -/
def measured (l : List (Option Nat)) : List (Nat × Nat) := l.zipIdx.filterMap fun e => e.1.map fun v => (e.2, v)

/-- Item 1 after one bank's measurement (R413): the margin of that bank kept, the worst bank shown. -/
def State.bankMargin (s : State) (bank steps : Nat) : State :=
  let m := if steps ≤ 3 ∨ Config.sramFirst bank ≤ 3 then 0 else min 100 ((steps - 3) * 100 / (Config.sramFirst bank - 3))
  let t := s.setWear fun x => { x with banks := Sparse.put none x.banks bank (some m) }
  let worst := t.wear.banks.foldl (fun (a : Nat × Nat) e => match e.2 with
    | some v => if v < a.2 then (e.1, v) else a
    | none => a) (bank, m)
  t.setMargin 1 worst.2 worst.1

/-- The budget of a usable energy in nJ (R412). -/
def budgetOf (nj : Nat) : Nat := if 2000000 ≤ nj then 2 else if 1500000 ≤ nj then 1 else 0

/-- The capacitance measured from the time the discharge took, in ns (R411): C in 0.1 µF, E_use in nJ. -/
def capOfTime (ns : Nat) : Nat := ns / 5000
def energyOfTime (ns : Nat) : Nat := 765 * ns / 1000

/-- The commit budget after a measurement (R411, R412): the new row's event where the row is a lower one. -/
def State.budgetPlan (s : State) (cap : Option Nat) : State :=
  match cap with
  | none => s
  | some ns =>
    let e := energyOfTime ns
    let b := budgetOf e
    let first := 38250 * Config.capFirst / 10
    let m := if e ≤ 2000000 then 0 else if first ≤ 2000000 then 100 else (e - 2000000) * 100 / (first - 2000000)
    let s1 := (((s.put .RSV_CAP_C (min 65535 (capOfTime ns))).put .RSV_CAP_FIRST_C Config.capFirst).put .RSV_EUSE_UJ
      (min 65535 (e / 1000))).setMargin 6 m 0
    let s2 := (s1.put .RSV_STAT_BUDGET b).put .WER_PLAN_BUDGET b
    if s.fld .RSV_STAT_BUDGET = b ∨ b = 2 then s2
    else if b = 1 then s2.raise 1 0x04 0 1 (e / 1000)
    else s2.raise 2 0x04 0 2 (e / 1000)

/-- The VOUT_COMMAND of a guardband step: 0.750 V + 0.010 V × g in LINEAR16 (R414, R424). -/
def vcoreWord (g : Nat) : Nat := ((750 + 10 * g) * 2 ^ Config.vcoreExp * 2 + 1000) / 2000

/-- The guardband step, at most one up or down a plan. -/
def State.guardPlan (s : State) (slowest : Nat) : State :=
  let g := s.fld .WER_PLAN_GB
  let target := min 3 (slowest / 200)
  let h := if g < target then g + 1 else if target < g then g - 1 else g
  let t := s.put .WER_PLAN_GB h
  if h ≠ g ∧ s.flag .WER_CTRL_VREG_EN then t.send (.i2c (s.fld .WER_VREG_ADDR) false 0x21 (leBytes 2 (vcoreWord h))) else t

/-- Output derating by on-resistance drifts in 0.01 %: one step for each 10 % begun above 20 %. -/
def State.deratePlan (s : State) (ron : List (Nat × Nat)) : State :=
  let steps := ron.foldl (fun (m : Sparse Nat) e => Sparse.put 0 m e.1 ((e.2 - 2000 + 999) / 1000)) s.wear.derate
  (s.setWear fun x => { x with derate := steps }).put .WER_DERATE_CH (steps.foldl (fun acc e => acc ||| 2 ^ e.1) 0)

/-- The recalibration interval in hours by the references' deviations. -/
def State.recalHours (s : State) : Nat :=
  let w := (List.range 8).foldl (fun m n => max m (signed 16 (s.fld (.ADC_REF_PPM n))).natAbs) 0
  if w ≤ 250 then 24 else if w ≤ 500 then 6 else 1

/-- Self-test periods: halved while the margin of item 0 or 1 is below 50 %. -/
def State.halvePlan (s : State) : State :=
  let low := fun (n : Nat) => s.flag (.WER_MARGIN_VALID n) && decide (s.fld (.WER_MARGIN_PCT n) < 50)
  let h := low 0 || low 1
  (s.putB .WER_PLAN_HALVED h).putB .WIR_ST_STAT_HALVED h

/-- The daily plan (R414) from its measurements: slowdowns of domains 2 to 13 in 0.01 %, a bank's read-assist steps, on-resistance
drifts of outputs and elements in 0.01 % where measured, the time of the capacitance measurement. -/
def State.plan (s : State) (slow : List Nat) (bank steps : Nat) (ron trip : List (Option Nat)) (cap : Option Nat) : State :=
  let path := mostWorn (((slow.take 12).zipIdx).map fun e => (e.2 + 2, e.1))
  let outs := measured (ron.take 32)
  let els := measured (trip.take 16)
  let s1 := ((slow.take 12).zipIdx.foldl (fun t e => t.sample 0x2F 1 (e.2 + 2) e.1) s).setMargin 0 (marginOf 800 path.2) path.1
  let s2 := s1.bankMargin bank steps
  let s3 := if outs.isEmpty then s2 else s2.setMargin 3 (marginOf 5000 (mostWorn outs).2) (mostWorn outs).1
  let s4 := if els.isEmpty then s3 else s3.setMargin 5 (marginOf 5000 (mostWorn els).2) (mostWorn els).1
  let s5 := ((s4.guardPlan path.2).deratePlan outs)
  let s6 := (s5.put .WER_PLAN_RECAL_H s5.recalHours).halvePlan.budgetPlan cap
  let s7 := (s6.put64 0x2F054 0x2F058 s.now).setWear fun x => { x with planLate := false, planAt := none }
  let ch := fun (f : Fd) (k : Nat) => if s.fld f = s7.fld f then 0 else 2 ^ k
  let mask := ch .WER_PLAN_GB 0 + (if s.wear.derate = s7.wear.derate then 0 else 2) + ch .WER_PLAN_RECAL_H 2 + ch .WER_PLAN_HALVED 3 +
    ch .WER_PLAN_BUDGET 4
  if mask = 0 then s7 else s7.raise 0 0x2F 0 1 mask

/-- PTP second of day of the plan. -/
def State.planSecond (s : State) : Nat := if 86400 ≤ s.fld .WER_CTRL_AT then 0 else s.fld .WER_CTRL_AT

/-- DAILY_PLAN (R414): at WER_CTRL.AT, or 60 s after the next entry into a mode that allows it where it fell due outside one. -/
def execDailyPlan (slow : List Nat) (bank : Fin 16) (steps : Nat) (ron trip : List (Option Nat)) (cap : Option Nat) (s : State) :
    Host.Outcome State Fault Refusal :=
  let late := match s.wear.planAt with
    | some t => s.wear.planLate && decide (t ≤ s.now)
    | none => false
  effect s (
    if !s.flag .WER_CTRL_EN then s
    else if !(s.awake && (s.mode == .commission || s.live || s.mode == .safe)) then
      s.setWear fun x => { x with planLate := true, planAt := none }
    else if s.now / 1000000000 % 86400 = s.planSecond ∨ late = true then s.plan slow bank.val steps ron trip cap
    else s)

/-- CRYSTAL_HOURLY_MEAN (R413 items 7 and 8): the mean deviations of the hour, in ppb. -/
def execCrystalHourlyMean (main spring : Int) (s : State) : Host.Outcome State Fault Refusal :=
  coreAct s fun s =>
    let m := fun (dev first : Int) => marginOf 20000 (dev - first).natAbs
    let s1 := if s.flag .PTP_STAT_HOLD then s
      else match s.wear.xtalFirst with
        | some f => s.setMargin 7 (m main f) 0
        | none => if s.flag .PTP_STAT_VALID then (s.setWear fun x => { x with xtalFirst := some main }).setMargin 7 100 0 else s
    (s1.sample 0x03 2 0 (twos 32 spring)).setMargin 8 (m spring Config.springFirst) 0

/-! ### Domains -/

/-- The bit of a domain in a register of the PWR page. -/
def State.domBit (s : State) (f : Fd) (d : Nat) (b : Bool) : State :=
  let w := s.fld f
  s.put f (if b then w ||| 2 ^ d else w - (if bitOf w d then 2 ^ d else 0))

/-- Is a snapshot instant or a TRIG 2 start of an enabled context within the next 550 µs: the solver domain is awake 300 µs before it,
as of a base tick edge (R404)? -/
def State.solverSoon (s : State) : Bool :=
  let near := fun (t : Nat) => decide (s.now ≤ t) && decide (t ≤ s.now + 550000)
  let snap := s.cycleStart + s.snapOffset
  (List.range 4).any fun n => s.flag (.SLV_CTX_CFG_EN n) && s.ctxState n != 0 && match s.fld (.SLV_CTX_CFG_TRIG n) with
    | 1 => near snap || near (snap + s.cycleNs)
    | 2 => let p := max 1 (s.fld (.SLV_CTX_PERIOD n)) * 1000000000; near ((s.now + p - 1) / p * p)
    | _ => false

/-- Has a domain that may go idle scheduled work within the next ms, or work in progress (R404)? -/
def State.domainBusy (s : State) (d : Nat) : Bool :=
  let soon := fun (period phase : Nat) =>
    decide (nextOn period phase ((s.now + 249999) / 250000) * 250000 ≤ s.now + 1000000)
  match d with
  | 4 => (List.range 512).any fun n => s.slotRuns n && soon (s.slotPeriod n) (s.slotPhase n)
  | 5 => s.slv.running.isSome || !s.slv.ready.isEmpty || s.solverSoon
  | 8 => (List.range 4).any (fun b => let c := Sparse.at {} s.net.can b; !c.pend.isEmpty || c.sending.isSome) ||
      (List.range 4).any fun l => (Sparse.at {} s.net.ser l).tx.isSome
  | 11 => (List.range 128).any fun q => s.qtyRuns q && (s.qtyKind q == 3 || s.qtyKind q == 1 || soon (s.qtyPeriod q) 0)
  | _ => true

/-- DOMAIN_IDLE (R404, R409): PWR_IDLE_T without work, unless held. -/
def execDomainIdle (domain : Fin 14) (s : State) : Host.Outcome State Fault Refusal :=
  coreAct s fun s =>
    let d := domain.val
    if s.net.idle.contains d || bitOf (s.fld .PWR_HOLD) d || s.domainBusy d || s.holdsLock d then s
    else
      let t := (({ s with net := { s.net with idle := addOnce s.net.idle d } }).domBit .PWR_IDLE_STAT_IDLE d true).domBit .PWR_ON d false
      if d = 5 then (t.putB .CLK_STAT_RUN_S false).putB .CLK_STAT_LOCK_S false else t

/-- A domain wakes (R404, R409). -/
def State.wakeDomain (s : State) (d : Nat) : State :=
  if !s.net.idle.contains d ∨ 14 ≤ d then s
  else
    let t := (({ s with net := { s.net with idle := s.net.idle.filter (· != d) } }).domBit .PWR_IDLE_STAT_IDLE d false).domBit
      .PWR_ON d true
    if d = 5 then ((t.putB .CLK_STAT_RUN_S true).putB .CLK_STAT_LOCK_S true).bump .PWR_WAKES_SOLVER else t.bump .PWR_WAKES_OTHER

/-- At a base tick edge the idle domains that have work wake, if no DOMAIN_WAKE has woken them (R404, R430; assumption 77). -/
def State.wakeBusy (s : State) : State :=
  (s.net.idle.filter fun d => d < 14).foldl (fun t d => if t.domainBusy d then t.wakeDomain d else t) s

/-- DOMAIN_WAKE (R404). -/
def execDomainWake (domain : Fin 14) (s : State) : Host.Outcome State Fault Refusal :=
  coreAct s fun s => s.wakeDomain domain.val

/-- BANK_LIGHT_SLEEP (R405): a bank without a request for 2 µs. -/
def execBankLightSleep (bank : Fin 16) (s : State) : Host.Outcome State Fault Refusal :=
  coreAct s fun s =>
    if s.flag .PWR_BANK_LS_EN && s.bsn.waiting.all (fun w => w.1 != bank.val) && (Sparse.at none s.bsn.locks bank.val).isNone then
      { s with net := { s.net with idle := addOnce s.net.idle (16 + bank.val) } }
    else s

/-! ### Temperature, locks, supplies -/

/-- A crossing of a die temperature, in 0.1 °C (R407). -/
def State.temperature (s : State) (field : Bool) (deg : Int) : State :=
  let die := b2n field
  let f : Fd := if field then .PWR_TEMP_FIELD else .PWR_TEMP_CORE
  let was := signed 16 (s.fld f)
  let s1 := (s.put f (twos 16 deg)).sample 0x01 (1 + die) 0 (twos 32 deg)
  let hot := if 1150 ≤ deg then addOnce s.err.hot die else if deg ≤ 1100 then s.err.hot.filter (fun d => d != die) else s.err.hot
  let s2 := { s1 with err := { s1.err with hot := hot } }
  let s3 := if 1150 ≤ deg ∧ !s.err.hot.contains die then s2.raise 0 0x01 0 1 die else s2
  if 1250 ≤ deg ∧ was < 1250 then s3.raise 3 0x01 0 2 die else s3

/-- JUNCTION_TEMPERATURE (R407). -/
def execJunctionTemperature (field : Bool) (deg : Int) (s : State) : Host.Outcome State Fault Refusal :=
  coreAct s fun s => s.temperature field deg

/-- PLL_UNLOCK (R409): 0 PLL_S, 1 PLL_Y, 2 PLL_N; PLL_S stands still while domain 5 is idle. -/
def execPllUnlock (n : Fin 3) (s : State) : Host.Outcome State Fault Refusal :=
  coreAct s fun s =>
    if n.val = 0 ∧ s.net.idle.contains 5 then s
    else
      let f : Fd := if n.val = 0 then .CLK_STAT_LOCK_S else if n.val = 1 then .CLK_STAT_LOCK_Y else .CLK_STAT_LOCK_N
      ((s.putB f false).bump .CLK_UNLOCK_CNT).raise 3 0x02 0 1 n.val

/-- VRES_READY (R410). -/
def execVresReady (s : State) : Host.Outcome State Fault Refusal :=
  effect s (if s.mainOn then ((s.putB .RSV_STAT_READY true).put .RSV_STAT_VRES 10500).sample 0x04 1 0 10500 else s)

/-- LP_SUPPLY_LOSS (R425): the field die is unpowered. -/
def execLpSupplyLoss (s : State) : Host.Outcome State Fault Refusal :=
  let t := ({ s with field := { s.field with lpOn := false, outPend := [] } }).darkField
  effect s (if s.held ∨ s.mode = .sleep then t else
    (((t.put .PWR_SUP_LP_OK 0).putB .CLK_STAT_FOSC_OK false).domBit .PWR_ON 12 false).domBit .PWR_ON 13 false)

/-- LP_SUPPLY_RETURN (R26): the field die sets the power-up state on its own. -/
def execLpSupplyReturn (s : State) : Host.Outcome State Fault Refusal :=
  let t := { s with field := { s.field with lpOn := true } }
  effect s (
    if s.field.lpOn then s
    else if s.mode = .sleep ∨ !s.mainOn then t
    else
      let u := { t.powerUpField with field := { t.powerUpField.field with outImage := none } }
      if s.held then u else
        (((u.put .PWR_SUP_LP_OK 1).putB .CLK_STAT_FOSC_OK true).domBit .PWR_ON 12 true).domBit .PWR_ON 13 true)

end Sys2Proof.Machine
end

