-- ==== Sys2Proof/Machine/Basin.lean ====
section
/-! DEFINITION. The Basin's arbiter, locks, scrub and error correction (R107 to R117), and the monitors (R119, R121). -/

namespace Sys2Proof.Machine

def State.setBsn (s : State) (f : BsnState → BsnState) : State := { s with bsn := f s.bsn }

/-! ### Requesters -/

/-- Is a domain powered (R403)? Frozen stops clocks alone. A domain whose requester holds a locked sequence stays powered to its end
(R114). -/
def State.domainPowered (s : State) (d : Nat) : Bool :=
  s.mode != .sleep && !s.held && match d with
  | 4 => (List.range 512).any s.slotRuns || s.holdsLock d
  | 5 => ((List.range 4).any fun n => s.flag (.SLV_CTX_CFG_EN n)) || s.holdsLock d
  | 8 => (List.range 4).any (fun n => s.flag (.CAN_CTRL_EN n)) || (List.range 4).any fun n => s.flag (.SER_CTRL_EN n)
  | 11 => s.flag .NRG_CTRL_EN || s.flag .LUM_CTRL_EN || s.flag .PMS_CTRL_EN || s.holdsLock d
  | 12 => s.field.lpOn
  | 13 => s.field.lpOn
  | _ => true

/-- Is a domain in reset: the core domains but the Weir's own, until the Weir has released them (R27 step 5)? -/
def State.domainReset (s : State) (d : Nat) : Bool := d != 2 && s.stopped

/-- Is a requester masked: every mask domain in reset or powered down (R111)? -/
def State.masked (s : State) (r : Nat) : Bool := (maskDomains r).all fun d => !s.domainPowered d || s.domainReset d

/-- The rank of a requester (R120). -/
def State.rankOf (s : State) (r : Nat) : Nat :=
  if r < 8 then bitsOf (s.reg 0x09040).toNat (4 * r + 2) (4 * r) else bitsOf (s.reg 0x09044).toNat (4 * (r - 8) + 2) (4 * (r - 8))

def State.lockOf (s : State) (b : Nat) : Option Lock := Sparse.at none s.bsn.locks b
def State.setLock (s : State) (b : Nat) (l : Option Lock) : State := s.setBsn fun x => { x with locks := Sparse.put none x.locks b l }

/-! ### Arbitration (R112, R113) -/

/-- The requesters that compete for a bank: unmasked, and the owner alone while the bank is locked. -/
def State.competing (s : State) (b : Nat) : List Nat :=
  (List.range 12).filter fun r => s.bsn.waiting.contains (b, r) && !s.masked r &&
    (match s.lockOf b with | some l => l.owner == r | none => true)

/-- The requester granted next: of the lowest rank, the first after the last one granted at that rank on that bank. -/
def State.granted (s : State) (b : Nat) : Option Nat :=
  match (s.competing b).map s.rankOf with
  | [] => none
  | k :: ks =>
    let rank := ks.foldl min k
    let last := Sparse.at 0 s.bsn.pointers (8 * b + rank)
    ((List.range 12).map fun i => (last + i) % 12).find? fun r => (s.competing b).contains r && s.rankOf r == rank

/-- A lock released. -/
def State.unlock (s : State) (b : Nat) : State := s.setLock b none

/-- A bank grants: the pointer moves; a grant asked for as a lock carries no data and gives the lock, a beat under a lock counts, a
65th is refused and the lock released (R115). -/
def State.grant (s : State) (b r : Nat) : State :=
  let asks := s.bsn.lockAsks.contains (b, r)
  let s1 := s.setBsn fun x => { x with waiting := x.waiting.filter fun w => w != (b, r),
                                       lockAsks := x.lockAsks.filter fun w => w != (b, r),
                                       pointers := Sparse.put 0 x.pointers (8 * b + s.rankOf r) (r + 1) }
  if asks then s1.setLock b (some ⟨r, 0⟩)
  else match s.lockOf b with
    | some l => if 64 ≤ l.beats then (s1.unlock b).refuse 0x09 0x41 b else s1.setLock b (some { l with beats := l.beats + 1 })
    | none => s1

/-- A bank in light sleep wakes at a request (R405), and so does an idle domain whose request it is (R404). -/
def State.wakeBank (s : State) (b r : Nat) : State :=
  (maskDomains r).foldl (fun t d => t.wakeDomain d) { s with net := { s.net with idle := s.net.idle.filter fun d => d != 16 + b } }

/-- A cycle of a bank that the scrub did not get, or got, counted (R110). -/
def State.scrubWaits (s : State) (b : Nat) (waits : Bool) : State :=
  s.setBsn fun x => { x with denied := Sparse.put 0 x.denied b (if waits then min 65536 (Sparse.at 0 x.denied b + 1) else 0) }

/-- The next cycle of a bank outside a locked sequence is the scrub's, ahead of every requester (R110). -/
def State.scrubFirst (s : State) (b : Nat) : Bool := decide (65536 ≤ Sparse.at 0 s.bsn.denied b) && (s.lockOf b).isNone

/-- BASIN_REQUEST: a requester asks for a beat of a bank, or, with none, the bank decides one cycle; ecc: the beat is a read that
finds an error in a word of the bank (R110, R112, R113). A cycle that is the scrub's waits for BASIN_SCRUB. -/
def execBasinRequest (bank : Fin 16) (req : Option (Fin 12)) (ecc : Option (Bool × BitVec 20)) (s : State) :
    Host.Outcome State Fault Refusal :=
  coreAct s fun s =>
    let b := bank.val
    match req with
    | some r => if s.masked r.val then s else (s.wakeBank b r.val).setBsn fun x => { x with waiting := addOnce x.waiting (b, r.val) }
    | none => if s.scrubFirst b then s else match s.granted b with
      | none => s.scrubWaits b (s.lockOf b).isSome
      | some r =>
        let t := (s.grant b r).scrubWaits b true
        if s.bsn.lockAsks.contains (b, r) then t
        else t.readFinds r (ecc.map fun e => (e.1, b * 0x100000 + e.2.toNat))

/-! ### Locks (R115, R116) -/

/-- A requester asks for a lock of a bank. -/
def State.askLock (s : State) (b r : Nat) : State :=
  (s.wakeBank b r).setBsn fun x => { x with waiting := addOnce x.waiting (b, r), lockAsks := addOnce x.lockAsks (b, r) }

/-- BASIN_LOCK_ACQUIRE (R115): the request for a lock joins those that wait for the bank; it gets its grant in this cycle if the
decision falls to it, else in a later one. -/
def execBasinLockAcquire (req : Fin 12) (bank : Fin 16) (s : State) : Host.Outcome State Fault Refusal :=
  coreAct s fun s =>
    let holdsAbove := (List.range 16).any fun b => decide (bank.val < b) && match s.lockOf b with
      | some l => l.owner == req.val
      | none => false
    if s.masked req.val then s
    else if holdsAbove then s.refuse 0x09 0x40 bank.val
    else match s.lockOf bank.val with
      | some ⟨o, _⟩ => if o = req.val then s else s.askLock bank.val req.val
      | none =>
        let t := s.askLock bank.val req.val
        if !t.scrubFirst bank.val && t.granted bank.val == some req.val then (t.grant bank.val req.val).scrubWaits bank.val true else t

/-- BASIN_LOCK_RELEASE (R115): with a last data beat, or by an empty grant; a 65th beat is refused. -/
def execBasinLockRelease (req : Fin 12) (bank : Fin 16) (ask : Bool) (s : State) : Host.Outcome State Fault Refusal :=
  coreAct s fun s =>
    match s.lockOf bank.val with
    | some l => if l.owner ≠ req.val then s
        else if ask ∧ 64 ≤ l.beats then (s.unlock bank.val).refuse 0x09 0x41 bank.val
        else s.unlock bank.val
    | none => s

/-- LOCK_WATCHDOG_EXPIRY (R90, R116): the lock is broken, an E2 against its owner. -/
def execLockWatchdogExpiry (bank : Fin 16) (s : State) : Host.Outcome State Fault Refusal :=
  coreAct s fun s =>
    match s.lockOf bank.val with
    | some l => (((s.unlock bank.val).put .WIR_LOCK_FAULT_BANK bank.val).put .WIR_LOCK_FAULT_OWNER l.owner).raise 2 (reqSource l.owner).1
        (reqSource l.owner).2 0xE0 (bank.val * 0x10000 + l.owner)
    | none => s

/-- BSN_RANK_WRITE (R117): ranks are looked at when a cycle is decided. -/
def execBsnRankWrite (i : Fin 2) (value : Word) (s : State) : Host.Outcome State Fault Refusal :=
  hostAct 0x09 (0x40 + 4 * i.val) s fun s => s.store (· == .rw) (0x9040 + 4 * i.val) value

/-- REQUESTER_MASK (R114): the requests of a masked requester are dropped. -/
def execRequesterMask (req : Fin 12) (s : State) : Host.Outcome State Fault Refusal :=
  effect s (if s.masked req.val then s.setBsn fun x => { x with waiting := x.waiting.filter fun w => w.2 != req.val,
                                                                lockAsks := x.lockAsks.filter fun w => w.2 != req.val } else s)

/-! ### Scrub (R101, R110) -/

/-- Beats of a bank. -/
def bankBeats : Nat := 131072

/-- The pass is over once every bank is through: it is counted, its duration shown, and SCRUB_UE cleared where it found no
uncorrectable word (R105, R120). -/
def State.scrubPass (s : State) : State :=
  if (List.range 16).all fun b => decide (bankBeats ≤ Sparse.at 0 s.bsn.scrub b) then
    let t := (s.bump .BSN_SCRUB_PASSES).put .BSN_SCRUB_LAST_S (min 65535 ((s.now - s.bsn.scrubStart) / 1000000000))
    (if s.bsn.scrubBad then t else t.putB .WIR_ST_STAT_SCRUB_UE false).setBsn fun x =>
      { x with scrub := [], scrubBad := false }
  else s

/-- Does no requester ask for a bank in this cycle, or is the cycle the scrub's all the same (R110)? -/
def State.scrubMay (s : State) (b : Nat) : Bool :=
  (s.lockOf b).isNone && ((s.competing b).isEmpty || s.scrubFirst b)

/-- BASIN_SCRUB: the scrub reads the next beat of a bank in a cycle that it may take; found: a word of it, corrected or not. -/
def execBasinScrub (bank : Fin 16) (found : Option (Bool × Fin 8)) (s : State) : Host.Outcome State Fault Refusal :=
  coreAct s fun s =>
    let b := bank.val
    let beat := Sparse.at 0 s.bsn.scrub b
    if !s.scrubMay b ∨ bankBeats ≤ beat then s
    else
      let s1 := (s.scrubWaits b false).setBsn fun x => { x with scrub := Sparse.put 0 x.scrub b (beat + 1),
                                                                scrubStart := if x.scrub = [] then s.now else x.scrubStart }
      let s2 := match found with
        | some (ue, k) =>
          let t := if ue then (s1.putB .WIR_ST_STAT_SCRUB_UE true).setBsn fun x => { x with scrubBad := true } else s1
          t.eccFind 0x09 b ue (b * 0x100000 + 8 * beat + k.val)
        | none => s1
      s2.scrubPass

/-! ### Monitors (R119, R121) -/

/-- A page's monitor copied into its read registers. -/
def State.monSnapOf (s : State) (p : Nat) : State := { s with monSnap := Sparse.put {} s.monSnap p (Sparse.at {} s.monLive p) }

/-- A page's live data cleared. -/
def State.monClear (s : State) (p : Nat) : State := { s with monLive := Sparse.put {} s.monLive p {} }

/-- A host write to a header register: it needs the page's domain, and no lock stops it (R9, R436). -/
def headAct (p : Nat) (s : State) (f : State → State) : Host.Outcome State Fault Refusal :=
  coreAct s fun s => if s.domainOff (pageDomain p) then s else f s

def execMonSnap (page : Fin 50) (s : State) : Host.Outcome State Fault Refusal := headAct page.val s fun s => s.monSnapOf page.val
def execMonClr (page : Fin 50) (s : State) : Host.Outcome State Fault Refusal := headAct page.val s fun s => s.monClear page.val
def execMonSelWrite (page : Fin 50) (value : Word) (s : State) : Host.Outcome State Fault Refusal :=
  headAct page.val s fun s => (s.store (· == .rw) (0x1000 * page.val + 0x24) value).monClear page.val

/-- Every page's monitor snapshot in one cycle (R121). -/
def State.snapAll (s : State) : State := { s with monSnap := s.monLive }.put64 0x30050 0x30054 s.now

def State.snapAt (s : State) : Nat := s.get64 0x30048 0x3004C

def execMonAllSnap (s : State) : Host.Outcome State Fault Refusal := hostAct 0x30 0x40 s fun s => s.snapAll
def execMonAllClr (s : State) : Host.Outcome State Fault Refusal := hostAct 0x30 0x40 s fun s => { s with monLive := [] }

/-- MON_ALL_ARM: a time already past snapshots at once. -/
def execMonAllArm (s : State) : Host.Outcome State Fault Refusal :=
  hostAct 0x30 0x40 s fun s => if s.snapAt ≤ s.now then s.snapAll else { s with monArmed := true }

/-- MON_ARMED_SNAPSHOT (R121). -/
def execMonArmedSnapshot (s : State) : Host.Outcome State Fault Refusal :=
  coreAct s fun s =>
    let t := s.at s.snapAt
    if t.monArmed ∧ t.snapAt ≤ t.now then { t with monArmed := false }.snapAll else s

end Sys2Proof.Machine
end

