-- ==== Sys2Proof/Machine/Faults.lean ====
section
/-! DEFINITION. The Weir's watchdogs, monitors and self-tests (R89, R90, R101), and the commands of the error manager (R94, R95,
R104). -/

namespace Sys2Proof.Machine

/-- DEVICE_WATCHDOG_EXPIRY (R90): armed in Run and Degraded. -/
def execDeviceWatchdogExpiry (s : State) : Host.Outcome State Fault Refusal :=
  coreAct s fun s => if s.live then s.raise 3 0x05 0 1 (s.scn.served % 0x1000000) else s

/-- FIELD_LINK_WATCHDOG_EXPIRY (R90): four link frames, one each base tick, have failed; the field die sets the power-up state on
its own. -/
def execFieldLinkWatchdogExpiry (s : State) : Host.Outcome State Fault Refusal :=
  coreAct s fun s =>
    let t := s.raise 3 0x05 0 3 4
    ({ t with field := { t.field with outPend := [], outImage := none } }.openTrips).powerUpField

/-- CLOCK_MONITOR_WINDOW (R89): the crystal edges of a window; the second of two windows outside 25,000 ± 250 raises the E3. -/
def execClockMonitorWindow (count : Nat) (s : State) : Host.Outcome State Fault Refusal :=
  coreAct s fun s =>
    let bad := decide (count < 24750) || decide (25250 < count)
    let c := min 65535 count
    let fail := bad && s.flag .WIR_CLK_MON_WARN
    let t := ((s.put .WIR_CLK_MON_COUNT c).putB .WIR_CLK_MON_WARN bad).putB .WIR_CLK_MON_FAIL fail
    let u := if fail then t.putB .WIR_ST_STAT_CLK_FAIL true else if bad then t else t.putB .WIR_ST_STAT_CLK_FAIL false
    if fail && !s.flag .WIR_CLK_MON_FAIL then u.raise 3 0x05 0 2 c else u

/-- WEIR_PERIODIC_TEST (R101): failed is the index of the pattern that failed. -/
def execWeirPeriodicTest (failed : Option Nat) (s : State) : Host.Outcome State Fault Refusal :=
  coreAct s fun s =>
    match failed with
    | some k => (s.putB .WIR_ST_STAT_PER_FAIL true).raise 3 0x05 0 4 k
    | none => s.putB .WIR_ST_STAT_PER_FAIL false

/-- CONFIGURATION_REHASH (R101): changed is the first region whose content no longer gives the fingerprint. -/
def execConfigurationRehash (changed : Option (Fin 32)) (s : State) : Host.Outcome State Fault Refusal :=
  coreAct s fun s =>
    match changed with
    | some k => (s.putB .WIR_ST_STAT_REHASH_FAIL true).raise 3 0x05 0 5 k.val
    | none => s.putB .WIR_ST_STAT_REHASH_FAIL false

/-- SOLVER_LANE_TEST (R101, R163): a failing lane leaves the schedules. -/
def execSolverLaneTest (lane : Fin 256) (pass : Bool) (s : State) : Host.Outcome State Fault Refusal :=
  coreAct s fun s =>
    let n := lane.val
    if pass then
      (if s.flag .SLC_LANE_FAIL_VALID && s.fld .SLC_LANE_FAIL_LANE == n then s.putB .WIR_ST_STAT_LANE_FAIL false else s)
    else
      let w := s.fld (.SLV_LANE_OUT (n / 32))
      let s1 := if bitOf w (n % 32) then s
        else (s.put (.SLV_LANE_OUT (n / 32)) (w + 2 ^ (n % 32))).put .SLV_LANES_IN_SERVICE (s.fld .SLV_LANES_IN_SERVICE - 1)
      (((s1.putB .WIR_ST_STAT_LANE_FAIL true).putB .SLC_LANE_FAIL_VALID true).put .SLC_LANE_FAIL_LANE n).raise 2 0x0B n 1 n

/-- CONVERTER_REFERENCE_CHECK (R101, R413 item 9): the deviation of a core's reference in ppm. -/
def execConverterReferenceCheck (core : Fin 8) (ppm : Int) (s : State) : Host.Outcome State Fault Refusal :=
  coreAct s fun s =>
    let n := core.val
    let d := clampInt (-32768) 32767 ppm
    let fail := decide (1000 < d.natAbs)
    let s1 := ((s.put (.ADC_REF_PPM n) (twos 16 d)).putB (.ADC_REF_FAIL n) fail).sample 0x13 3 n (twos 32 d)
    let s2 := s1.putB .WIR_ST_STAT_REF_FAIL ((List.range 8).any fun k => s1.flag (.ADC_REF_FAIL k))
    let w := mostWorn ((List.range 8).map fun k => (k, (signed 16 (s2.fld (.ADC_REF_PPM k))).natAbs))
    let s3 := s2.setMargin 9 (marginOf 1000 w.2) w.1
    if fail then s3.raise 1 0x13 n 3 (twos 24 d) else s3

/-- EVENT_RAISE (R94): an event of a block reaches the error manager. -/
def execEventRaise (cls : Fin 5) (page : Fin 50) (idx : Half) (cause : Byte) (detail : BitVec 24) (s : State) :
    Host.Outcome State Fault Refusal :=
  coreAct s fun s => s.raise cls.val page.val idx.toNat cause.toNat detail.toNat

/-- HANDLER_COMPLETE (R95): the class action of the running handler's event has ended. An assigned event ends with the error task's
return, and E3 and E4 stay pending. -/
def execHandlerComplete (s : State) : Host.Outcome State Fault Refusal :=
  coreAct s fun s =>
    match s.runningClass with
    | some c => if ((s.slot c).filter s.assigned).isSome then s else s.completeClass c
    | none => s

/-- ERR_INJECT_WRITE (R104). What DETAIL of an injected event holds the spec does not say: a free value. -/
def execErrInjectWrite (value : Word) (s : State) : Host.Outcome State Fault Refusal :=
  hostAct 0x07 0x94 s fun s =>
    let cls := bitsOf value.toNat 30 28
    if s.mode ≠ .commission ∨ 3 < cls then s.refuse 0x07 0x32 0x7094
    else s.usedFree.raise cls (bitsOf value.toNat 23 16) (bitsOf value.toNat 15 0) 0xFF s.freeVal.toNat

/-- ERR_LOG_POP (R104). -/
def execErrLogPop (s : State) : Host.Outcome State Fault Refusal :=
  hostAct 0x07 0x78 s fun s =>
    match s.err.log with
    | [] => s
    | (e, t) :: r =>
      let s1 := { s with err := { s.err with log := r } }
      let s2 := ((s1.putB .ERR_LOG_SRC_ESC e.esc).put .ERR_LOG_SRC_CLASS e.cls).put .ERR_LOG_SRC_SRC e.src
      ((s2.put .ERR_LOG_INFO_CAUSE e.cause).put .ERR_LOG_INFO_DETAIL e.detail).put64 0x7084 0x7088 t

end Sys2Proof.Machine
end

