-- ==== Sys2Proof/Machine/Digital.lean ====
section
/-! DEFINITION. Digital channels and trip outputs (R323 to R342): samples, filters, the words of R327, the levels of the output
switches, their protection and tests; the trip elements, their pulse tests and the commissioning command. -/

namespace Sys2Proof.Machine

/-! ### Inputs -/

/-- Does a channel sample in pulsed mode: in Run or Degraded without CONT (R324)? Elsewhere it samples continuously. -/
def State.pulsed (s : State) (n : Nat) : Bool := s.live && !s.flag (.DIO_CFG_CONT n)

/-- The thresholds of a channel in mV: on at or above the first; off at or below the second in pulsed mode, below it in continuous
mode (R323). -/
def State.thresholds (s : State) (n : Nat) : Nat × Int :=
  if s.pulsed n then (if s.flag (.DIO_CFG_TYPE n) then (9000, 7000) else (12500, 10000))
  else (s.fld (.DIO_CFG_THR n) * 125, (s.fld (.DIO_CFG_THR n) * 125 : Nat) - 1000)

/-- The state of a sample (R323). -/
def State.sampleState (s : State) (n mV : Nat) : Bool :=
  let th := s.thresholds n
  if th.1 ≤ mV then true
  else if (if s.pulsed n then decide ((mV : Int) ≤ th.2) else decide ((mV : Int) < th.2)) then false
  else s.flag (.DIO_STAT_RAW n)

/-- DEPTH of a channel (R326). -/
def State.depth (s : State) (n : Nat) : Nat := max 1 (s.fld (.DIO_CFG_DEPTH n))

/-- The filtered state follows the filter's count (R326). -/
def State.filtered (s : State) (n : Nat) : State :=
  let c := (s.dch n).cnt
  if s.depth n ≤ c then s.putB (.DIO_STAT_FILT n) true else if c = 0 then s.putB (.DIO_STAT_FILT n) false else s

/-- Is a channel an input in use? -/
def State.isInput (s : State) (n : Nat) : Bool := s.flag (.DIO_CFG_EN n) && !s.flag (.DIO_CFG_DIR n)

/-- The wire-break report follows the consecutive samples against it (R325), with the sink current of the last one. -/
def State.wireBreak (s : State) (n uA : Nat) : State :=
  if (s.dch n).wb < s.depth n ∨ !s.isInput n then s
  else
    let now := !s.flag (.DIO_STAT_WB n)
    let t := (s.setDch n fun d => { d with wb := 0 }).putB (.DIO_STAT_WB n) now
    if now then t.raise 1 0x16 n 5 (min 0xFFFFFF uA) else t

/-- A sample counted for the wire-break test. -/
def State.wireSample (s : State) (n uA : Nat) : State :=
  let against := decide (uA < 150) != s.flag (.DIO_STAT_WB n)
  (s.setDch n fun d => { d with wb := if against then d.wb + 1 else 0 }).wireBreak n uA

/-! ### Output tests (R331, R332) -/

/-- A readback mismatch that has persisted for 2 samples is reported, once. -/
def State.readback (s : State) (n : Nat) : State :=
  if (s.dch n).mism ≠ 2 then s
  else
    let t := s.setDch n fun d => { d with mism := 3 }
    if s.flag (.DIO_CFG_PAR n) ∧ !(s.dch n).on then (t.putB (.DIO_STAT_FED n) true).raise 0 0x16 n 6 0
    else t.raise 1 0x16 n 4 (b2n (s.dch n).on)

/-- A sample taken for the readback test: it counts from 1 ms after a switching instant. FED clears with the mismatch. -/
def State.readbackSample (s : State) (n : Nat) (limiting : Bool) : State :=
  let d := s.dch n
  let rb := s.flag (.DIO_STAT_RB n)
  if s.now < d.since + 1000000 then s
  else if (d.on && !limiting && !rb) || (!d.on && rb) then
    (s.setDch n fun d => { d with mism := if d.mism < 2 then d.mism + 1 else d.mism }).readback n
  else (s.setDch n fun d => { d with mism := 0 }).putB (.DIO_STAT_FED n) false

/-- Does the open-wire test of a channel run? -/
def State.wireTested (s : State) (n : Nat) : Bool := s.flag (.DIO_CFG_OWT n) && !s.flag (.DIO_CFG_PAR n)

/-- Does the test find the wire open: off, 10 samples above 3.0 V; on, a current below UC after 100 ms? -/
def State.wireOpen (s : State) (n : Nat) : Bool :=
  let d := s.dch n
  if d.on then decide (d.since + 100000000 ≤ s.now) && decide (s.fld (.DIO_STAT_IOUT n) < max 1 (s.fld (.DIO_CFG2_UC n)))
  else decide (10 ≤ d.openCnt)

/-- Does the test find the wire? -/
def State.wireFound (s : State) (n : Nat) : Bool :=
  let d := s.dch n
  if d.on then decide (d.since + 100000000 ≤ s.now) && decide (max 1 (s.fld (.DIO_CFG2_UC n)) ≤ s.fld (.DIO_STAT_IOUT n))
  else d.openCnt == 0

/-- OPEN follows the open-wire test. -/
def State.openWire (s : State) (n : Nat) : State :=
  if !s.isOutput n ∨ !s.wireTested n then s
  else if s.wireOpen n then
    (if s.flag (.DIO_STAT_OPEN n) then s else (s.putB (.DIO_STAT_OPEN n) true).raise 1 0x16 n 3 (b2n (s.dch n).on))
  else if s.wireFound n then s.putB (.DIO_STAT_OPEN n) false
  else s

/-- One channel's sample (R324 to R326, R331): input voltage in mV, sink current in µA, output current in mA, and whether the
switch limits it. -/
def State.dioSample (s : State) (n mV uA mA : Nat) (limiting : Bool) : State :=
  let raw := s.sampleState n mV
  let s1 := ((s.put (.DIO_VIN_MV n) (min 65535 mV)).putB (.DIO_STAT_RAW n) raw).put (.DIO_STAT_IOUT n) (min 4095 mA)
  let s2 := (s1.sample 0x16 1 n mV).sample 0x16 2 n mA
  let s3 := (s2.setDch n fun d => { d with cnt := if raw then min (d.cnt + 1) (s.depth n) else d.cnt - 1 }).filtered n
  let s4 := s3.wireSample n uA
  if !s4.isOutput n then s4.putB (.DIO_STAT_RB n) false
  else
    let s5 := (s4.putB (.DIO_STAT_RB n) (decide (9000 ≤ mV))).readbackSample n limiting
    let s6 := s5.setDch n fun d => { d with openCnt := if d.on then 0 else if 3000 < mV then min 10 (d.openCnt + 1) else 0 }
    s6.openWire n

/-- Has a channel an output fault (R327 word 3)? -/
def State.outFault (s : State) (n : Nat) : Bool :=
  s.isOutput n && (s.flag (.DIO_STAT_OVL n) || s.flag (.DIO_STAT_THERM n) || s.flag (.DIO_STAT_OPEN n) ||
    ((s.dch n).mism == 3 && !s.flag (.DIO_STAT_FED n)))

/-- A word with a bit for each channel. -/
def channelBits (f : Nat → Bool) : Word := w32 ((List.range 32).foldl (fun acc n => acc + b2n (f n) * 2 ^ n) 0)

/-- The words of R327, written at the base tick edge that follows the samples. -/
def State.dioWords (s : State) : State :=
  let w := s.fld .DIO_IMG_WADDR
  if w = 0 then s else
    s.reqWords 11 w ([channelBits fun n => s.flag (.DIO_STAT_FILT n), channelBits fun n => s.flag (.DIO_STAT_WB n),
      channelBits fun n => s.isOutput n && s.flag (.DIO_STAT_RB n), channelBits s.outFault] ++
      (List.range 32).map fun n => ratio32 false (s.fld (.DIO_VIN_MV n)) 1000 0)

/-! ### Output levels (R328) -/

/-- A duty word as on-ticks of a period. -/
def dutyTicks (w : Word) (per : Nat) : Nat :=
  let d : Word := if fisNan w || flt w 0 then 0 else if flt 0x3F800000 w then 0x3F800000 else w
  ((fmt64.floor (dadd (dmul (widen d) (dofInt per)) 0x3FE0000000000000).toNat).getD 0).toNat

/-- The PWM period of a channel in base ticks. -/
def State.pwmPeriod (s : State) (n : Nat) : Nat := clampNat 4 40000 (s.fld (.DIO_CFG2_PER n))

/-- A word the outputs follow: in Run and Degraded of the voted image, in Commission a forced word; none where there is none. -/
def State.outWord (s : State) (w : Nat) : Option Word :=
  if s.live then s.field.outImage.map fun m => Sparse.at 0 m w
  else if s.mode = .commission ∧ forced s.scn.forces w then some (applyForces s.scn.forces w 0)
  else none

/-- At the start of a PWM period a channel takes its duty. -/
def State.takeDuty (s : State) (n tick : Nat) : State :=
  if s.flag (.DIO_CFG_PWM n) ∧ tick % s.pwmPeriod n = 0 then
    match s.outWord (s.fld .DIO_OUT_WADDR + 1 + n) with
    | some w => s.setDch n fun d => { d with start := tick, duty := dutyTicks w (s.pwmPeriod n) }
    | none => s
  else s

/-- The level a channel's command or duty asks for; none where nothing asks. -/
def State.imageLevel (s : State) (n tick : Nat) : Option Bool :=
  let d := s.dch n
  if s.flag (.DIO_CFG_PWM n) then
    (s.outWord (s.fld .DIO_OUT_WADDR + 1 + n)).map fun _ => decide (tick < d.start + d.duty)
  else if s.live then (s.outWord (s.fld .DIO_OUT_WADDR)).map fun w => bitOf w.toNat n
  else if s.mode = .commission ∧ (s.scn.forces.any fun f => f.adr == s.fld .DIO_OUT_WADDR && bitOf f.mask.toNat n) then
    (s.outWord (s.fld .DIO_OUT_WADDR)).map fun w => bitOf w.toNat n
  else none

/-- The level an output switch is to have; none where it keeps the one it has (R16, R21, R93, R298, R328). -/
def State.wantOut (s : State) (n tick : Nat) : Option Bool :=
  if !s.isOutput n then some false
  else if s.laneLatched 0x16 n ∨ s.mode = .safe then some (s.flag (.DIO_CFG_SAFE n))
  else if s.mode = .commission ∧ bitOf (s.fld .DIO_TEST_EN_MASK) n then some (bitOf (s.fld .DIO_TEST_VAL) n)
  else if s.live ∨ s.mode = .commission then
    match s.pulseChannel n with
    | some b => some b
    | none => s.imageLevel n tick
  else none

/-- Is a channel commanded on: for a PWM channel, with a duty above 0? -/
def State.commandedOn (s : State) (n : Nat) (level : Bool) : Bool :=
  if s.flag (.DIO_CFG_PWM n) && (s.pulseChannel n).isNone then level || decide (0 < (s.dch n).duty) else level

/-- An overloaded switch tries again when its command goes off and on (R330). -/
def State.followCmd (s : State) (n : Nat) (on : Bool) : State :=
  if !s.flag (.DIO_STAT_OVL n) then s
  else if !on then s.setDch n fun d => { d with cmd := false }
  else if (s.dch n).cmd then s
  else s.putB (.DIO_STAT_OVL n) false

/-- A channel driven to the level it is to have. -/
def State.driveOut (s : State) (n tick : Nat) : State :=
  match s.wantOut n tick with
  | none => if s.outHeld n then s.switchOut n false else s
  | some b =>
    let t := s.followCmd n (s.commandedOn n b)
    t.switchOut n (b && !t.outHeld n)

/-- Every output driven at a base tick edge. With LP absent nothing is driven (R425). -/
def State.driveOutputs (s : State) (tick : Nat) : State :=
  if !s.field.lpOn then s else forN 32 (fun n t => (t.takeDuty n tick).driveOut n tick) s

/-- A switch that has protected itself resumes its command (R330). -/
def State.resumeOut (s : State) (n : Nat) : State :=
  match s.wantOut n (tickOf s.now) with
  | some b => s.switchOut n (b && !s.outHeld n)
  | none => s.switchOut n ((s.dch n).cmd && !s.outHeld n)

/-- A switch turns off to protect itself; the level it had is kept. -/
def State.protectOut (s : State) (n : Nat) : State :=
  (s.setDch n fun d => { d with cmd := d.cmd || d.on }).switchOut n false

/-! ### Trip elements (R335) -/

/-- The last image voted in this mode. -/
def State.lastVoted (s : State) : Option (Sparse Word) := match s.field.outPend.getLast? with
  | some e => some e.2
  | none => s.field.outImage

/-- Does the voted image command a trip channel on? -/
def State.tripCmd (s : State) (n : Nat) : Bool := match s.lastVoted with
  | some m => s.live && bitOf (Sparse.at 0 m (s.fld (.TRP_CFG_WADDR n))).toNat (s.fld (.TRP_CFG_BIT n))
  | none => false

/-- Are both elements of a channel to be closed, but for a pulse test? -/
def State.tripCloses (s : State) (n : Nat) : Bool :=
  s.live && s.voting && s.field.lpOn && s.flag (.TRP_CFG_EN n) && s.tripCmd n && !bitOf (s.shedMask s.shedLevel) n &&
    !s.laneLatched 0x17 n

/-- A channel's elements follow R335. A pulse test whose element must stay open is aborted (R337). -/
def State.driveTrip (s : State) (n : Nat) : State :=
  let close := s.tripCloses n
  let tested := fun e => s.field.test == some (2 * n + e)
  let s1 := (s.putB (.TRP_STAT_CMD n) (s.tripCmd n)).putB (.TRP_STAT_SHED n) (bitOf (s.shedMask s.shedLevel) n)
  let s2 := if (tested 0 || tested 1) && !close then
      ({ s1 with field := { s1.field with test := none } }).put (.TRP_STAT_TEST n) 4 else s1
  (s2.setElement (2 * n) (close && !tested 0)).setElement (2 * n + 1) (close && !tested 1)

/-- Every channel's elements follow R335; in Commission the command of R339 alone closes one. -/
def State.driveTrips (s : State) : State := if s.mode = .commission then s else forN 8 (fun n t => t.driveTrip n) s

/-- Does any member's shed level, as the last Cycle image frames carry it, cover a channel (R336)? -/
def State.shedCovers (s : State) (n : Nat) : Bool :=
  let lv := s.votingSibs.foldl (fun acc k => max acc (s.peerLatch k levelWord).toNat) s.shedLevel
  bitOf (s.shedMask (min 8 lv)) n

/-- An element's current as it was last sensed. -/
def State.elemCurrent (s : State) (n e mA : Nat) : State :=
  (s.put (if e = 0 then .TRP_STAT_IA n else .TRP_STAT_IB n) (min 4095 mA)).sample 0x17 2 (2 * n + e) mA

/-! ### Commands of the DIO page -/

/-- DIO_SAMPLE (R324): V_in in mV, sink current in µA, output current in mA and whether it is limited, for each channel, 218 µs
after the last base tick edge. -/
def execDioSample (samples : List (Nat × Nat × Nat × Bool)) (s : State) : Host.Outcome State Fault Refusal :=
  coreAct s fun s =>
    if !s.field.lpOn then s else
      ((samples.take 32).zipIdx).foldl (fun t e => t.dioSample e.2 e.1.1 e.1.2.1 e.1.2.2.1 e.1.2.2.2) (s.at (s.time.edge - 32000))

/-- FILTERED_STATE_CHANGE (R326). -/
def execFilteredStateChange (channel : Fin 32) (s : State) : Host.Outcome State Fault Refusal :=
  coreAct s fun s => s.filtered channel.val

/-- WIRE_BREAK (R325), with the sink current of the last sample. -/
def execWireBreak (channel : Fin 32) (uA : Nat) (s : State) : Host.Outcome State Fault Refusal :=
  coreAct s fun s => s.wireBreak channel.val uA

/-- OVERLOAD (R330): the current limit has held for 10 ms; the current at switch-off in mA. -/
def execOverload (channel : Fin 32) (mA : Nat) (s : State) : Host.Outcome State Fault Refusal :=
  coreAct s fun s =>
    let n := channel.val
    if !(s.dch n).on ∨ !s.field.lpOn then s
    else
      let t := (s.protectOut n).setDch n fun d => { d with cmd := true, retryAt := s.now + s.fld (.DIO_CFG_RETRY n) * 1000000000 }
      (t.putB (.DIO_STAT_OVL n) true).raise 1 0x16 n 1 (min 0xFFFFFF mA)

/-- OVERLOAD_RETRY (R330): RETRY seconds after the switch-off. -/
def execOverloadRetry (channel : Fin 32) (s : State) : Host.Outcome State Fault Refusal :=
  coreAct s fun s =>
    let n := channel.val
    let t := s.at (s.dch n).retryAt
    if t.flag (.DIO_STAT_OVL n) && decide (0 < t.fld (.DIO_CFG_RETRY n)) && decide ((t.dch n).retryAt ≤ t.now) && t.field.lpOn then
      (t.putB (.DIO_STAT_OVL n) false).resumeOut n
    else s

/-- OVERTEMP (R330): the temperature of a stage in °C, at 115 and above or below 100. -/
def execOvertemp (channel : Fin 32) (deg : Nat) (s : State) : Host.Outcome State Fault Refusal :=
  coreAct s fun s =>
    let n := channel.val
    let t := s.sample 0x16 3 n deg
    if !t.field.lpOn then t
    else if 115 ≤ deg then
      (if t.flag (.DIO_STAT_THERM n) then t else ((t.protectOut n).putB (.DIO_STAT_THERM n) true).raise 1 0x16 n 2 deg)
    else if deg < 100 ∧ t.flag (.DIO_STAT_THERM n) then (t.putB (.DIO_STAT_THERM n) false).resumeOut n
    else t

/-- READBACK (R331, R332). -/
def execReadback (channel : Fin 32) (s : State) : Host.Outcome State Fault Refusal := coreAct s fun s => s.readback channel.val

/-- OPEN_WIRE (R331). -/
def execOpenWire (channel : Fin 32) (s : State) : Host.Outcome State Fault Refusal := coreAct s fun s => s.openWire channel.val

/-- DIO_TEST_WRITE (R328): DIO_TEST_VAL or DIO_TEST_EN. -/
def execDioTestWrite (val : Bool) (value : Word) (s : State) : Host.Outcome State Fault Refusal :=
  let off := if val then 0x50 else 0x4C
  hostAct 0x16 off s fun s =>
    if s.mode ≠ .commission then s.refuse 0x16 0x71 (0x16000 + off)
    else
      let t := s.setReg (0x16000 + off) value
      forN 32 (fun n u => u.driveOut n (tickOf u.now)) t

/-! ### Commands of the TRP page -/

/-- PULSE_TEST_SLOT (R336): the slot instant of an element, with its current in mA. -/
def State.pulseSlot (s : State) (n e mA : Nat) : State :=
  let t := s.elemCurrent n e mA
  if t.pos = 0 ∨ t.mode = .degraded ∨ t.mode = .commission then t.put (.TRP_STAT_TEST n) 5
  else if t.mode = .run ∧ t.voters = 3 ∧ t.tripCmd n = true ∧ n ∈ t.field.cmdBefore ∧ t.shedCovers n = false ∧
      t.flag (.TRP_STAT_PATH_OPEN n) = false ∧ 10 ≤ mA ∧ t.flag (elementFd (2 * n + e)) = true ∧ t.field.test = none then
    ({ t with field := { t.field with test := some (2 * n + e) } }).setElement (2 * n + e) false
  else t.put (.TRP_STAT_TEST n) 3

/-- Is an instant a slot of an element of this member: m × PER + (6n + 2p + e) × 10 ms? -/
def State.slotInstant (s : State) (n e t : Nat) : Bool :=
  t % (clampNat 1 3600 (s.fld .TRP_TEST_PER) * 1000000000) == (6 * n + 2 * (s.pos - 1) + e) * 10000000

def execPulseTestSlot (channel : Fin 8) (elem : Fin 2) (mA ns : Nat) (s : State) : Host.Outcome State Fault Refusal :=
  coreAct s fun s =>
    let t := s.at ns
    if t.flag .TRP_TEST_EN && t.slotInstant channel.val elem.val t.now && t.field.lpOn then t.pulseSlot channel.val elem.val mA else t

/-- The element under test conducts again, with a result (R337). -/
def State.reclose (s : State) (e result mA us : Nat) : State :=
  let n := e / 2
  let t := ((({ s with field := { s.field with test := none } }).setElement e true).elemCurrent n (e % 2) mA).put
    (.TRP_STAT_TEST n) result
  if result = 1 then (t.bump .TRP_TEST_CNT_PASS).sample 0x17 1 0 us
  else (t.bump .TRP_TEST_CNT_FAIL).raise 1 0x17 n 1 mA

/-- PULSE_TEST_RECLOSE (R337): the current of the element under test in mA, us µs after its slot instant. -/
def execPulseTestReclose (mA us : Nat) (s : State) : Host.Outcome State Fault Refusal :=
  coreAct s fun s =>
    match s.field.test with
    | some e => if mA ≤ 1 ∧ us ≤ 300 then s.reclose e 1 mA us else if 300 ≤ us then s.reclose e 2 mA us else s
    | none => s

/-- PATH_OPEN (R338): the currents in mA that a channel's elements have carried for 1 s. -/
def execPathOpen (channel : Fin 8) (ia ib : Nat) (s : State) : Host.Outcome State Fault Refusal :=
  coreAct s fun s =>
    let n := channel.val
    let t := (s.elemCurrent n 0 ia).elemCurrent n 1 ib
    let closed := t.flag (.TRP_STAT_CLOSED_A n) && t.flag (.TRP_STAT_CLOSED_B n)
    let a := closed && decide (ia ≤ 1) && decide (10 ≤ ib)
    let b := closed && decide (ib ≤ 1) && decide (10 ≤ ia)
    if a || b then
      (if t.flag (.TRP_STAT_PATH_OPEN n) then t else (t.putB (.TRP_STAT_PATH_OPEN n) true).raise 1 0x17 n 2 (b2n b))
    else t.putB (.TRP_STAT_PATH_OPEN n) false

/-- TRP_PT_CMD (R339). -/
def execTrpPtCmd (value : Word) (s : State) : Host.Outcome State Fault Refusal :=
  hostAct 0x17 0x44 s fun s =>
    let n := bitsOf value.toNat 2 0
    let both := bitOf value.toNat 4
    let e := 2 * n + b2n (bitOf value.toNat 3)
    if s.mode ≠ .commission ∨ s.field.ptCmd.isSome ∨ (both ∧ s.pos ≠ 0) then s.refuse 0x17 0x80 0x17044
    else
      let dur := clampNat 10 500 (bitsOf value.toNat 25 16)
      let t := { s with field := { s.field with ptCmd := some (e, both), ptEnd := s.now + dur * 1000 } }
      if both then (t.setElement (2 * n) true).setElement (2 * n + 1) true else t.setElement e true

/-- TRP_PT_CMD_END (R339): DUR has passed, as PTP time says where it runs; the current in mA that flowed. -/
def execTrpPtCmdEnd (mA : Nat) (s : State) : Host.Outcome State Fault Refusal :=
  coreAct s fun s =>
    let v := s.at s.field.ptEnd
    match v.field.ptCmd with
    | none => s
    | some (e, both) =>
      let n := e / 2
      let t := (({ v with field := { v.field with ptCmd := none } }).setElement (2 * n) false).setElement (2 * n + 1) false
      let u := t.elemCurrent n (e % 2) mA
      if both then (if 10 ≤ mA then u.put (.TRP_STAT_TEST n) 1 else u.putB (.TRP_STAT_PATH_OPEN n) true)
      else if 10 ≤ mA then u.raise 1 0x17 n 3 mA
      else u

end Sys2Proof.Machine
end

