-- ==== Sys2Proof/Machine/Analogue.lean ====
section
/-! DEFINITION. Analogue inputs, converters and current outputs (R302 to R322): corrected values, faults, sequences, the result
queue, agreed inputs, the legs of the current outputs. -/

namespace Sys2Proof.Machine

def State.setAdc (s : State) (f : AdcState → AdcState) : State := { s with adc := f s.adc }
def State.ain (s : State) (n : Nat) : Ain := Sparse.at {} s.adc.ain n
def State.setAin (s : State) (n : Nat) (f : Ain → Ain) : State :=
  s.setAdc fun a => { a with ain := Sparse.mod {} a.ain n f }

/-! ### Corrected values (R303, R306) -/

/-- A corrected value before and after saturation, by OFS and GAIN. -/
def corrected (r : Half) (ofs : Int) (gain : Nat) : Int × Int :=
  let v := rndShift ((256 * signed 16 r.toNat + ofs) * (gain : Int)) 22
  (v, clampInt (-8388608) 8388607 v)

/-- 10^15 × 2^80 times the resistance ratio of IEC 60751 at n × 2^-20 °C (R303; assumption 41). -/
def rtdRatio (n : Int) : Int :=
  1000000000000000 * 2 ^ 80 + 3908300000000 * n * 2 ^ 60 - 577500000 * n ^ 2 * 2 ^ 40 -
    (if n < 0 then 4183 * (n - 104857600) * n ^ 3 else 0)

/-- The largest n, from lo up in k halvings, whose ratio does not pass q. -/
def rtdSearch (q : Int) : Nat → Int → Int
  | 0, lo => lo
  | k + 1, lo => rtdSearch q k (if rtdRatio (lo + 2 ^ k) ≤ q then lo + 2 ^ k else lo)

/-- The temperature of a corrected value in modes 4 and 5: both full scales are four times the resistance at 0 °C. The converter's
answer stands where it is within 0.01 K, and where the standard gives none. -/
def rtdTemp (mode : Nat) (c : Int) : Word :=
  let q := c * 1000000000000000 * 2 ^ 59
  let w := Config.rtd mode c
  if q < rtdRatio (-209715200) ∨ rtdRatio 891289600 < q then w
  else match fmt32.toInt 20 w.toNat with
    | some n => if rtdRatio (n - 10485) ≤ q ∧ q ≤ rtdRatio (n + 10485) then w
        else w32 (fmt32.ofInt (rtdSearch q 31 (-209715200)) (-20))
    | none => w32 (fmt32.ofInt (rtdSearch q 31 (-209715200)) (-20))

/-- x of R308 in the unit of a general input's mode. -/
def modeValue (mode : Nat) (c : Int) : Word :=
  match mode with
  | 1 => ratio32 (decide (c < 0)) (c.natAbs * 25) 8388608 0
  | 2 => ratio32 (decide (c < 0)) (c.natAbs * 25) 16777216 0
  | 3 => ratio32 (decide (c < 0)) (c.natAbs * 25) 16777216 0
  | m => rtdTemp m c

/-- Own value: K × x + B (R308). -/
def State.ownValue (s : State) (n : Nat) (c : Int) : Word :=
  fadd (fmul (w32 (s.fld (.AIN_SCALE_K n))) (modeValue (s.fld (.AIN_CFG_MODE n)) c)) (w32 (s.fld (.AIN_SCALE_B n)))

/-- The fault condition of a conversion of general input n (R305): v before saturation, c after it. -/
def State.faultOf (s : State) (n : Nat) (v c : Int) : Nat :=
  let mode := s.fld (.AIN_CFG_MODE n)
  if s.flag (.AIN_STAT_SETTLING n) then 6
  else if mode = 1 ∧ v * 250 < 36 * 8388608 then 1
  else if mode = 1 ∧ 21 * 8388608 < v * 25 then 2
  else if mode = 2 ∧ (v * 25 < -8388608 ∨ 22 * 8388608 < v * 25) then 3
  else if mode = 3 ∧ (v * 25 < -22 * 8388608 ∨ 22 * 8388608 < v * 25) then 3
  else if 4 ≤ mode ∧ 105 * 8388608 < v * 100 then 4
  else if 4 ≤ mode ∧ v * 400 < 15 * 8388608 then 5
  else if v ≠ c then 3
  else if s.flag (.AIN_STAT_LS_THERM n) ∨ s.flag (.AIN_STAT_LS_LIMIT n) then 7
  else 0

/-- The fault follows its filter (R305): settling at once, else set after FFILT conversions that find it, and cleared after FFILT that do
not. -/
def State.inputFault (s : State) (n : Nat) : State :=
  let x := s.ain n
  let now := s.fld (.AIN_STAT_FAULT n)
  if x.cond = now then s
  else if x.hold < max 1 (s.fld (.AIN_CFG_FFILT n)) ∧ max 1 (s.fld (.AIN_CFG_FFILT n)) ≤ x.away ∧ x.cond ≠ 6 then
    s.put (.AIN_STAT_FAULT n) 0
  else if x.cond = 6 ∨ max 1 (s.fld (.AIN_CFG_FFILT n)) ≤ x.hold then
    (let t := s.put (.AIN_STAT_FAULT n) x.cond
     if x.cond = 0 ∨ x.cond = 6 then t else t.raise 1 0x14 n 1 x.cond)
  else s

/-- A conversion of general input n: own value, fault (R305, R308). -/
def State.convertInput (s : State) (n : Nat) (v c : Int) : State :=
  let k := s.faultOf n v c
  let w := s.ownValue n c
  let set := s.fld (.AIN_STAT_FAULT n)
  let s1 := s.setAin n fun x =>
    { x with own := w, hold := if x.cond = k then x.hold + 1 else 1, cond := k, away := if set = k then 0 else x.away + 1 }
  (s1.sample 0x14 1 n (twos 32 ((fmt32.toInt 0 w.toNat).getD 0))).inputFault n

/-- A conversion of power input k goes to the energy block (R283, R308). -/
def State.convertPower (s : State) (k : Nat) (c : Int) : State :=
  let v := ratio32 (decide (c < 0)) (c.natAbs * 25) 16777216 0
  let below := decide (c * 100 < -((s.fld .NRG_ZC_HYST * 8388608 : Nat) : Int))
  s.setNrg fun x => { x with wave := Sparse.mod [] x.wave k fun l => ((s.now, v) :: l).take 32768,
                             armed := if below && decide (k < 4) then addOnce x.armed k else x.armed }

/-! ### The result queue (R311 to R313) -/

/-- An entry put into the queue, or lost. -/
def State.pushEntry (s : State) (e : DWord) : State :=
  if s.adc.queue.length < 4096 then
    let t := s.setAdc fun a => { a with queue := a.queue ++ [e] }
    (t.put .ADC_Q_STAT_FILL t.adc.queue.length).sample 0x13 1 0 t.adc.queue.length
  else
    let win := s.now / 1000000000
    let first := s.adc.lostWin != some win
    let t := (s.bump .ADC_Q_STAT_LOST).setAdc fun a => { a with lostWin := some win, lostCnt := if first then 1 else a.lostCnt + 1 }
    if first then t.raise 0 0x13 0 1 1 else t

/-- An entry of R311. -/
def entryWord (tag step us : Nat) (c : Int) (seq : Nat) (flt : Bool) : DWord :=
  BitVec.ofNat 64 (tag * 2 ^ 56 + step * 2 ^ 48 + us % 65536 * 2 ^ 32 + twos 24 c * 256 + seq * 64 + b2n flt * 32)

/-- The time mark that enters before the first entry after TIME passes 0; its STEP, SEQ and FLT the spec leaves open. -/
def State.timeMark (s : State) (us : Nat) : State :=
  let due := match s.adc.lastTime with | some t => decide (t / 65536 < us / 65536) | none => false
  let s1 := s.setAdc fun a => { a with lastTime := some us }
  if !due then s1
  else
    let f := s.freeVal
    let e := entryWord 0xFF (bitsOf f.toNat 5 0) us ((us / 65536 : Nat) : Int) (bitsOf f.toNat 7 6) (bitOf f.toNat 8)
    (s1.usedFree).pushEntry e

/-- A conversion's result enters the queue where its step asks for it, and the WK-4100 register (R313). -/
def State.result (s : State) (tag step : Nat) (c : Int) (seq : Nat) (flt queued : Bool) : State :=
  let us := s.now / 1000
  let s1 := if queued then (s.timeMark us).pushEntry (entryWord tag step us c seq flt) else s
  if s1.flag .ADC_CTRL_COMPAT ∧ s1.fld .ADC_COMPAT_TAG = tag then
    ((s1.putB .ADC_DATA_OVR (s1.flag .ADC_DATA_OVR || s1.flag .ADC_DATA_VALID)).putB .ADC_DATA_VALID true).put .ADC_DATA_VALUE (twos 24 c)
  else s1

/-! ### Sequences (R306, R307) -/

/-- MUX of a step, and whether it is queued. -/
def State.stepMux (s : State) (m n : Nat) : Nat := bitsOf (s.fld (.ADC_STEP_MUX m)) (4 * n + 3) (4 * n)

/-- Does a sequence not run: a reserved code in one of its steps? NSTEP has no value that passes step 64s + 63. -/
def State.seqBad (s : State) (q : Nat) : Bool :=
  (List.range (s.fld (.ADC_SEQ_NSTEP q) + 1)).any fun k => (List.range 8).any fun n => decide (7 ≤ s.stepMux (64 * q + k) n)

/-- A trigger of a sequence: it starts, or is counted where the sequence has not finished. -/
def State.triggerSeq (s : State) (q : Nat) : State :=
  if !s.flag .ADC_CTRL_EN ∨ s.seqBad q then s
  else if (Sparse.at none s.adc.seqs q).isSome then
    let v := bitsOf (s.fld .ADC_SEQ_OVR) (8 * q + 7) (8 * q)
    let win := s.now / 1000000000
    let first := s.adc.ovrWin != some win
    let t := (if v < 255 then s.put .ADC_SEQ_OVR (s.fld .ADC_SEQ_OVR + 2 ^ (8 * q)) else s).setAdc fun a =>
      { a with ovrWin := some win, ovrCnt := if first then 1 else a.ovrCnt + 1 }
    if first then t.raise 0 0x13 q 2 1 else t
  else s.setAdc fun a => { a with seqs := Sparse.put none a.seqs q (some 0), trigAt := Sparse.put 0 a.trigAt q s.now }

/-- Is an instant a trigger instant of a sequence (R307)? A free timer's instants lie anywhere on the grid. -/
def State.trigInstant (s : State) (q t : Nat) : Bool :=
  t % 1000 == 0 && match s.fld (.ADC_SEQ_TRIG q) with
    | 1 => t % (250000 / 2 ^ min 4 (s.fld (.ADC_SEQ_DIV q))) / 1000 == 0
    | 2 => t % (clampNat 10 1000000 (s.fld (.ADC_SEQ_PER q)) * 1000) == 0
    | 4 => true
    | _ => false

/-- The lowest sequence that is triggered and not finished, with its next step. -/
def State.nextConversion (s : State) : Option (Nat × Nat) :=
  [0, 1, 2, 3].findSome? fun q => (Sparse.at none s.adc.seqs q).map fun k => (q, k)

/-- The channel a core converts for a multiplexer code: TAG, and the element of AIN_OFS and AIN_GAIN if it has one. -/
def channelOf (n code : Nat) : Option (Nat × Option Nat) :=
  match code with
  | 1 => some (if n < 4 then (0x10 + n, some (16 + n)) else (0x14 + (n - 4), some (16 + n)))
  | 2 => some (2 * n, some (2 * n))
  | 3 => some (2 * n + 1, some (2 * n + 1))
  | 4 => some (0x20 + n, none)
  | 5 => some (0x28 + n, none)
  | 6 => some (0x30 + n, none)
  | _ => none

/-- One core's conversion in a step; the results of a core latched by an E2 carry FLT (R93; assumption 98). -/
def State.convertCore (s : State) (q k n : Nat) (r : Half) : State :=
  match channelOf n (s.stepMux (64 * q + k) n) with
  | none => s
  | some (tag, ch) =>
    if tag < 16 ∧ s.fld (.AIN_CFG_MODE tag) = 0 then s
    else
      let (v, c) := match ch with
        | some j => corrected r (signed 24 (s.fld (.AIN_OFS j))) (s.fld (.AIN_GAIN j))
        | none => corrected r 0 0x400000
      let flt := s.laneLatched 0x13 n || if tag < 16 then s.faultOf tag v c != 0 else v != c || (decide (tag < 0x18) && (c == -8388608 || r == 0x7FFF))
      let s1 := if tag < 16 then s.convertInput tag v c else if tag < 0x18 then s.convertPower (tag - 0x10) c else s
      s1.result tag k c q flt (s.flag (.ADC_STEP_FLAGS_QUEUE (64 * q + k)))

/-- A step converts on every core it selects, in ascending order. -/
def State.convertStep (s : State) (q k : Nat) (codes : List Half) : State :=
  let s1 := if k = 0 then s.sample 0x13 2 q ((s.now - Sparse.at 0 s.adc.trigAt q) / 1000) else s
  let s2 := forN 8 (fun n t => t.convertCore q k n (codes.getD n 0)) s1
  s2.setAdc fun a => { a with seqs := Sparse.put none a.seqs q (if k < s.fld (.ADC_SEQ_NSTEP q) then some (k + 1) else none) }

/-! ### Agreed inputs (R309, R310) -/

/-- The agreed value of a general input from the values of the members (R309). -/
def agreeInput (vs : List Word) : Word :=
  match vs with
  | [a, b] => fmul (fadd a b) 0x3F000000
  | l => w32 (pick floatKey false (l.map BitVec.toNat))

/-- The agreed fault (R309). -/
def agreeFault (fs : List Bool) : Bool := agreeFlag fs

/-- The voting siblings whose Health frame came since the last edge. -/
def State.inputSibs (s : State) : List Health :=
  s.votingSibs.filterMap fun k => if (s.peer k).fresh then (s.peer k).health else none

/-- Own values and fault codes as sent this tick; where none were sent, as they stand. -/
def State.ownInput (s : State) (n : Nat) : Word × Nat :=
  match s.adc.sent[n]? with
  | some e => e
  | none => ((s.ain n).own, s.fld (.AIN_STAT_FAULT n))

/-- The agreed value and fault of input n, and how many values made it. -/
def State.agreeAin (s : State) (n : Nat) : Word × Bool × Nat :=
  let hs := s.inputSibs
  let own := s.ownInput n
  let useOwn := s.voting || hs.isEmpty
  let vs := (if useOwn then [own.1] else []) ++ hs.map fun h => h.ain.getD n 0
  let fs := (if useOwn then [own.2 != 0] else []) ++ hs.map fun h => (h.aflt.getD n 0) != 0
  (agreeInput vs, agreeFault fs, vs.length)

/-- Input n's agreed word at an edge (R309, R310); an input latched by an E2 stands at its last good value, as one with FSUB set does (R93;
assumption 98). -/
def State.agreedInput (s : State) (n : Nat) : State × Word :=
  let w := s.fld .AIN_IMG_WADDR + n
  let mark := fun (t : State) (b : Bool) => if s.fld .AIN_IMG_WADDR = 0 then t else t.setSub w b
  if s.fld (.AIN_CFG_MODE n) = 0 then (mark (s.putB (.AIN_STAT_AGREED_FLT n) false) false, 0)
  else
    let agree := s.flag (.AIN_CFG_AGREE n)
    let a := s.agreeAin n
    let v := if agree then a.1 else (s.ain n).own
    let flt := if agree then a.2.1 else s.fld (.AIN_STAT_FAULT n) != 0
    let s1 := s.putB (.AIN_STAT_AGREED_FLT n) flt
    let s2 := if agree then s1.put .AIN_AGREE_N (min 3 a.2.2) else s1
    let d := (fmt32.toInt 0 (fmul (fsub (s.ain n).own v) 0x447A0000).toNat).getD 0
    let s3 := s2.sample 0x14 2 n (twos 32 d)
    if (flt ∧ s.flag (.AIN_CFG_FSUB n)) ∨ s.laneLatched 0x14 n then (mark s3 true, (s.ain n).kept)
    else
      let s4 := if flt then s3 else s3.setAin n fun x => { x with kept := v }
      (mark s4 false, v)

/-- The words of R309 at a base tick edge. -/
def State.agreeInputs (s : State) : State :=
  let w := s.fld .AIN_IMG_WADDR
  let r := (List.range 16).foldl (fun (a : State × List Word) n => let b := a.1.agreedInput n; (b.1, a.2 ++ [b.2])) (s, [])
  let own := (List.range 16).map fun n => if s.fld (.AIN_CFG_MODE n) = 0 then (0 : Word) else (s.ain n).own
  let bits := (List.range 16).foldl (fun acc n => acc + b2n (r.1.flag (.AIN_STAT_AGREED_FLT n)) * 2 ^ n +
    b2n (s.fld (.AIN_STAT_FAULT n) != 0) * 2 ^ (16 + n)) 0
  let t := if w = 0 then r.1 else r.1.reqWords 11 w (r.2 ++ own ++ [w32 bits])
  (t.setAdc fun a => { a with sent := [] }).bothPeers fun p => { p with fresh := false }

/-! ### Current outputs (R314 to R318) -/

/-- A commanded loop current clamped to AOU_LIM; none for a NaN, which takes the alarm level. -/
def State.loopCurrent (s : State) (n : Nat) (w : Word) : Option Word :=
  let lo := w32 (s.fld (.AOU_LIM_LO n))
  let hi := w32 (s.fld (.AOU_LIM_HI n))
  if fisNan w then none else some (fmin (fmax w lo) (if flt hi lo then lo else hi))

/-- A leg at its share of the alarm level. -/
def State.alarmLeg (s : State) (n : Nat) : State := s.driveLeg n (s.shareOf n (s.alarmLevel n)) 2

/-- A leg at its share of a commanded current. -/
def State.commandLeg (s : State) (n : Nat) (w : Word) : State :=
  match s.loopCurrent n w with
  | some v => s.driveLeg n (s.shareOf n v) 1
  | none => s.alarmLeg n

/-- A test code as a current: CODE × 24 mA / 65,536 (R318). -/
def codeCurrent (code : Nat) : Word := ratio32 false (24 * code) 65536 0

/-- A leg driven at a base tick edge (R16, R21, R93, R314, R318). -/
def State.driveCurrent (s : State) (n : Nat) : State :=
  if s.mode = .startUp then s
  else if s.laneLatched 0x15 n ∨ s.mode = .safe then s.alarmLeg n
  else if s.mode = .commission then
    (if s.flag (.AOU_TEST_EN n) then s.driveLeg n (codeCurrent (s.fld (.AOU_TEST_CODE n))) 1
     else match s.outWord (s.fld (.AOU_CFG_WADDR n)) with
       | some w => s.commandLeg n w
       | none => s.alarmLeg n)
  else match s.outWord (s.fld (.AOU_CFG_WADDR n)) with
    | some w => s.commandLeg n w
    | none => s

/-- Every leg driven. With LP absent nothing is (R425). -/
def State.driveCurrents (s : State) : State := if !s.field.lpOn then s else forN 8 (fun n t => t.driveCurrent n) s

/-- What the sense path measured of output n at a base tick: readback code, supply voltage in 0.125 V, voltage at AO_LX in mV. -/
def State.senseLeg (s : State) (n code sup lx : Nat) : State :=
  let t := ((s.put (.AOU_STAT_READBACK n) (min 65535 code)).put (.AOU_STAT_VSUP n) (min 255 sup)).put (.AOU_VLX_MV n) (min 65535 lx)
  (t.sample 0x15 1 n (code * 24000 / 65536)).sample 0x15 2 n (sup * 125 - lx)

def State.senseLegs (s : State) (sense : List (Nat × Nat × Nat)) : State :=
  if !s.field.lpOn then s else (sense.take 8).zipIdx.foldl (fun t e => t.senseLeg e.2 e.1.1 e.1.2.1 e.1.2.2) s

/-! ### Commands of the ADC and AIN pages -/

/-- SEQUENCE_TRIGGER (R307): a trigger instant of a sequence. -/
def execSequenceTrigger (seq : Fin 4) (ns : Nat) (s : State) : Host.Outcome State Fault Refusal :=
  coreAct s fun s =>
    let t := s.at ns
    if t.trigInstant seq.val t.now && t.field.lpOn then t.triggerSeq seq.val else t

/-- ADC_TRIG_EDGE (R307): a rising edge held for 100 ns, at an instant; the sequences with TRIG 3 start at the first grid instant
after it. -/
def execAdcTrigEdge (ns : Nat) (s : State) : Host.Outcome State Fault Refusal :=
  coreAct s fun s =>
    let t := s.at (ns / 1000 * 1000 + 1000)
    if t.field.lpOn then forN 4 (fun q u => if u.fld (.ADC_SEQ_TRIG q) = 3 then u.triggerSeq q else u) t else t

/-- CONVERSION (R306, R307): the next step, on a grid instant, with the code of each core. -/
def execConversion (ns : Nat) (codes : List Half) (s : State) : Host.Outcome State Fault Refusal :=
  coreAct s fun s =>
    let t := s.at (ns / 1000 * 1000)
    match t.nextConversion with
    | some (q, k) => if t.field.lpOn then t.convertStep q k codes else t
    | none => t

/-- One entry written into the ring. -/
def State.drainOne (s : State) : State :=
  match s.adc.queue with
  | [] => s
  | e :: r =>
    let len := 2 ^ s.fld .ADC_RING_LEN_LOG2
    let wr := s.fld .ADC_RING_WR
    let t := (s.setAdc fun a => { a with queue := r }).reqBytes 11 (s.fld .ADC_RING_BASE + 8 * (wr % len)) (leBytes 8 e.toNat)
    (t.put .ADC_RING_WR (wr + 1)).put .ADC_Q_STAT_FILL r.length

/-- QUEUE_DRAIN (R312): so many entries go to the ring, if one is declared and requester 11 is not masked. -/
def execQueueDrain (count : Fin 4097) (s : State) : Host.Outcome State Fault Refusal :=
  coreAct s fun s =>
    if s.fld .ADC_RING_LEN_LOG2 = 0 ∨ s.masked 11 then s else forN (min count.val s.adc.queue.length) (fun _ t => t.drainOne) s

/-- AIN_FAULT (R305). -/
def execAinFault (input : Fin 16) (s : State) : Host.Outcome State Fault Refusal := coreAct s fun s => s.inputFault input.val

/-- AIN_SETTLING_END (R303): 10 ms after a change of mode. -/
def execAinSettlingEnd (input : Fin 16) (s : State) : Host.Outcome State Fault Refusal :=
  coreAct s fun s =>
    let t := s.at (s.ain input.val).settleEnd
    if (t.ain input.val).settleEnd ≤ t.now then t.putB (.AIN_STAT_SETTLING input.val) false else s

/-- LOOP_SUPPLY_FAULT (R304): a loop supply in current limit, or off for temperature, beyond the fault filter; or no longer. -/
def execLoopSupplyFault (input : Fin 16) (thermal active : Bool) (s : State) : Host.Outcome State Fault Refusal :=
  coreAct s fun s =>
    let n := input.val
    let f := if thermal then Fd.AIN_STAT_LS_THERM n else .AIN_STAT_LS_LIMIT n
    let on := s.flag (.AIN_CFG_LS n) && s.fld (.AIN_CFG_MODE n) == 1 && s.field.lpOn
    if !active then s.putB f false
    else if !on ∨ s.flag f then s
    else (s.putB f true).raise 1 0x14 n 2 (if thermal then 2 else 1)

/-- ADC_DATA_READ (R313): VALID, OVR and VALUE as they were, then VALID and OVR clear. -/
def execAdcDataRead (s : State) : Host.Outcome State Fault Refusal :=
  coreAct s fun s =>
    if s.domainOff (pageDomain 0x13) then { s with readData := [0] }
    else { ((s.putB .ADC_DATA_VALID false).putB .ADC_DATA_OVR false) with readData := [s.reg 0x13080] }

/-! ### Commands of the AOU page -/

/-- COMPLIANCE (R316): the headroom of a leg has been below 2.0 V at 30 V for AOU_COMP_T, or back for it; its readback in µA. -/
def execCompliance (out : Fin 8) (set : Bool) (uA : Nat) (s : State) : Host.Outcome State Fault Refusal :=
  coreAct s fun s =>
    let n := out.val
    if !s.field.lpOn then s
    else if !set then (s.putB (.AOU_STAT_COMP n) false).putB (.AOU_STAT_OPEN n) false
    else
      let t := ((s.putB (.AOU_STAT_COMP n) true).putB (.AOU_STAT_OPEN n) (decide (uA < 500))).put (.AOU_STAT_READBACK n)
        (min 65535 (uA * 65536 / 24000))
      if s.flag (.AOU_STAT_COMP n) then t else t.raise 1 0x15 n 1 (min 0xFFFFFF uA)

/-- AOU_THERMAL (R317): the temperature of a stage in °C. -/
def execAouThermal (out : Fin 8) (deg : Nat) (s : State) : Host.Outcome State Fault Refusal :=
  coreAct s fun s =>
    let n := out.val
    let t := s.sample 0x15 3 n deg
    if !t.field.lpOn then t
    else if 115 ≤ deg then
      (if t.flag (.AOU_STAT_THERM n) then t else ((t.putB (.AOU_STAT_THERM n) true).setLeg n 0).raise 1 0x15 n 2 (min 0xFFFFFF deg))
    else if deg < 100 ∧ t.flag (.AOU_STAT_THERM n) then (t.putB (.AOU_STAT_THERM n) false).driveCurrent n
    else t

/-- AOU_TEST_WRITE (R318): it takes effect at the next base tick edge. -/
def execAouTestWrite (out : Fin 8) (value : Word) (s : State) : Host.Outcome State Fault Refusal :=
  let off := 0x100 + 4 * out.val
  hostAct 0x15 off s fun s =>
    if s.mode ≠ .commission then s.refuse 0x15 0x70 (0x15000 + off) else s.store (· == .rw) (0x15000 + off) value

end Sys2Proof.Machine
end

