-- ==== Sys2Proof/Machine/Stations.lean ====
section
/-! DEFINITION. Station frames received (R234 to R243), the states of the stations and their substitution (R244 to R246), the
Command frames (R247 to R249). -/

namespace Sys2Proof.Machine

/-! ### Points and stations (R242, R246) -/

/-- A point that takes its last value received (R242, R246): flags 1 forced or substitute at the station, 2 invalid. -/
def State.livePoint (s : State) (id n : Nat) : State :=
  match Sparse.at none (s.station id).vals n with
  | some (v, fl) => if fl = 2 then s.substPoint id n else s.putPoint id n v (fl == 1)
  | none => s.substPoint id n

/-- Every point of a station that is not Live is substituted; one entering Live leaves substitution (R246). -/
def State.substStation (s : State) (id : Nat) : State :=
  let x := s.station id
  if x.state ≠ 3 then
    (s.substAll id).setStation id fun y => { y with subst := true }
  else if x.subst then
    (forN (s.stnMeas id) (fun n t => t.livePoint id n) s).setStation id fun y => { y with subst := false }
  else s

/-! ### Receiving (R236, R237, R242) -/

/-- A bit of the station run: MEAS at 2 × id, JOIN at 2 × id + 1 (R243). -/
def runBit (m : Sparse Word) (k : Nat) : Bool := bitOf (Sparse.at 0 m (k / 32)).toNat (k % 32)
def State.setRun (s : State) (k : Nat) : State :=
  s.setStn fun x => { x with run := Sparse.mod 0 x.run (k / 32) fun w => w ||| (1#32 <<< (k % 32)) }

/-- A late frame, with its arrival after the start of its cycle (R242, R252); a retired station raises nothing (R246). -/
def State.lateFrame (s : State) (id us : Nat) : State :=
  let t := (s.bump .STN_LATE_FRAMES).setStn fun x => { x with late := x.late + 1 }
  if (s.station id).state = 5 then t else t.raise 0 0x0E id 4 us

/-- One entry of a Measurement frame: the value kept, and written unless its point is substituted (R242). -/
def State.measEntry (s : State) (id : Nat) (write : Bool) (e : List Byte) : State :=
  let n := fieldAt e 0 2
  let fl := byteAt e 2
  if s.stnMeas id ≤ n then s
  else
    let k := if bitOf fl 2 then 2 else if bitOf fl 0 || bitOf fl 1 then 1 else 0
    let s1 := s.setStation id fun x => { x with vals := Sparse.put none x.vals n (some (wordAt e 4, k)) }
    if write && !(s1.station id).subst then s1.livePoint id n else s1

/-- The entries of a payload: 8 bytes each, at most 178. -/
def entriesOf : Nat → List Byte → List (List Byte)
  | 0, _ => []
  | k + 1, l => if l.length < 8 then [] else l.take 8 :: entriesOf k (l.drop 8)

/-- An accepted Measurement frame (R239, R242); the snapshot has passed once its instant is over or SNAPSHOT_INSTANT has been worked (R15). -/
def State.measurement (s : State) (id cycle : Nat) (payload : List Byte) : State :=
  let us := (s.now - cycle) / 1000
  let idx := byteAt payload 0
  let cnt := byteAt payload 1
  let es := entriesOf 178 (payload.drop 4)
  let s0 := s.sample 0x0E 1 0 us
  if cycle = s.cycleStart then
    let at_ := cycle + s0.snapOffset
    let s1 := if at_ < s0.now ∨ s0.stn.snapAt = at_ then s0.lateFrame id us else s0
    let s2 := s1.setStation id fun x => { x with frames := addOnce x.frames idx, written := true }
    let s3 := es.foldl (fun t e => t.measEntry id true e) s2
    if (List.range cnt).all fun k => (s3.station id).frames.contains k then s3.setRun (2 * id) else s3
  else
    let s1 := s0.lateFrame id us
    es.foldl (fun t e => t.measEntry id (!(s.station id).written) e) s1

/-- The neighbour's CRC on a MAC (R251): over the chassis ID and port ID TLVs kept. -/
def State.neighbourCrc (s : State) (m : Nat) : Word := match (s.mac m).lldp with
  | some e => crc32 e.1
  | none => 0

/-- An accepted Join frame (R237, R240, R243, R251), with the addresses it came from. -/
def State.join (s : State) (id seq mac src ip : Nat) (tagged : Bool) (p : List Byte) : State :=
  let x := s.station id
  let boot := fieldAt p 8 4
  let newer := decide (x.boot < boot)
  let s1 := s.setStation id fun y => { y with
    uid := BitVec.ofNat 64 (fieldAt p 0 8), boot := max y.boot boot, last := if newer then seq else y.last,
    nMeas := fieldAt p 16 2, nCmd := fieldAt p 18 2, tagged := tagged, mac := src, ip := w32 ip, rxMac := mac,
    lldp := s.neighbourCrc mac }
  if newer ∨ x.state < 2 ∨ x.state = 5 then s1.setRun (2 * id + 1) else s1

/-- Is a sequence number newer (R237)? -/
def newerSeq (seq last : Nat) : Bool :=
  let d := (seq + 4294967296 - last) % 4294967296
  decide (1 ≤ d) && decide (d < 2147483648)

/-- A datagram for the station port, on a MAC of a station ring (R234, R236): discarded and counted, or accepted. A Join with a
higher BOOT_COUNT is not held to the sequence it restarts (R237); one whose payload is not 20 bytes (R240) counts as a wrong LEN
(assumption 96). -/
def State.stationFrame (s : State) (mac src ip : Nat) (bs : List Byte) : State :=
  if !s.flag .STN_CTRL_EN ∨ mac < 2 ∨ 5 < mac then s
  else
    let len := fieldAt bs 0x16 2
    let tagged := bitOf (byteAt bs 0x15) 3
    let id := fieldAt bs 6 2
    let seq := fieldAt bs 8 4
    let cycle := fieldAt bs 0x0C 8
    let kind := byteAt bs 0x14
    let body := bs.take (32 + len)
    let payload := body.drop 32
    let restart := kind == 2 && decide ((s.station id).boot < fieldAt payload 8 4)
    if bs.length < 32 ∨ 1432 < len ∨ (kind = 2 ∧ len ≠ 20) ∨ bs.length ≠ 32 + len + (if tagged then 8 else 0) then s.bump .STN_RX_OTHER
    else if wordAt bs 0x1C ≠ crc32 (bs.take 0x1C ++ payload) then s.bump .STN_RX_CRC
    else if bs.take 3 ≠ [0x57, 0x53, 0x01] ∨ byteAt bs 3 % 4 ≠ 0 ∨ fieldAt bs 4 2 ≠ s.stn.tripletId ∨ (kind ≠ 1 ∧ kind ≠ 2) ∨
        !s.stnEnabled id then s.bump .STN_RX_OTHER
    else if (s.stnTag id ∧ !tagged) ∨ (tagged ∧ bs.drop (32 + len) ≠ stationTag (s.stnKey id) body) then s.bump .STN_RX_TAG
    else if !restart ∧ !newerSeq seq (s.station id).last then s.bump .STN_RX_SEQ
    else if cycle ≠ s.cycleStart ∧ cycle + s.cycleNs ≠ s.cycleStart then s.bump .STN_LATE_FRAMES
    else
      let s1 := if restart then s else s.setStation id fun x => { x with last := seq }
      (if kind = 1 then s1.measurement id cycle payload else s1.join id seq mac src ip tagged payload).keepStation id

/-! ### Agreement on what was received (R243 to R245) -/

/-- The runs that count: in Run and Degraded those of the last agreement, elsewhere the member's own bits. -/
def State.runsInForce (s : State) : List (Sparse Word) := if s.live then s.stn.runs else [s.stn.run]

/-- How many members' runs count: in Run and Degraded those of the voting members, elsewhere the own alone. -/
def State.runVoters (s : State) : Nat := if s.live then s.voters else 1

/-- A bit as heard: set by two of three voting members, or by any of fewer (R243). -/
def State.heardBit (s : State) (k : Nat) : Bool :=
  decide ((if s.runVoters = 3 then 2 else 1) ≤ (s.runsInForce.filter fun m => runBit m k).length)

/-- A station gathered: MEAS set by every voting member (R243); a member whose run the agreement did not have has not set it. -/
def State.gatheredNow (s : State) (id : Nat) : Bool :=
  decide (max 1 s.runVoters ≤ (s.runsInForce.filter fun m => runBit m (2 * id)).length)

/-- Stations whose MEAS the member misses and both siblings hold. -/
def State.missed (s : State) : Nat :=
  match s.stn.runs with
  | [a, b, c] => ((List.range 1024).filter fun id =>
      s.stnEnabled id && !runBit a (2 * id) && runBit b (2 * id) && runBit c (2 * id)).length
  | _ => 0

/-- RX_MINORITY at a station cycle start (R245). -/
def State.rxMinority (s : State) : State :=
  let m := if s.live then s.missed else 0
  let run := if m = 0 then 0 else min 255 (s.fld .STN_RXMIN_RUN + 1)
  let t := (s.put .STN_RXMIN_MISSED m).put .STN_RXMIN_RUN run
  let due := decide (0 < m) && decide (max 1 (s.fld .STN_WATCH_MISS_N) ≤ run)
  let u := t.setStn fun x => { x with minority := due }
  if due && !s.stn.minority then u.raise 2 0x0E 0 5 m else u

/-! ### Evaluation at a station cycle start (R246) -/

/-- Is a station's STN_RETIRED bit set? -/
def State.retired (s : State) (id : Nat) : Bool := bitOf (s.fld (.STN_RETIRED_RET (id / 32))) (id % 32)

/-- The admission result of a station's last Join (R240, R246). -/
def State.admitResult (s : State) (id : Nat) : Nat :=
  let x := s.station id
  if s.stnUid id ≠ 0 ∧ s.stnUid id ≠ x.uid.toNat then 1
  else if x.nMeas ≠ s.stnMeas id ∨ x.nCmd ≠ s.stnCmd id then 2
  else if s.stnTag id ∧ !x.tagged then 4
  else 0

/-- An Admit frame, sent by a voting member from launch queue 1 (R240, R248, R366). -/
def State.sendAdmit (s : State) (id result : Nat) : State :=
  let c := s.cycleStart
  let s1 := s.setStation id fun x => { x with result := result }
  if !s.voting ∨ s.mode = .startUp then s
  else
    let payload := leBytes 8 (s.station id).uid.toNat ++ leBytes 4 (s.stnWord id 0x0C) ++ leBytes 4 (s.fld .STN_CYCLE_MS) ++
      leBytes 1 (s.stnWord id 0x1C) ++ leBytes 1 result ++ leBytes 2 0
    let frame := s.stnFrame id 0x11 0 (s.cycleSeq c + 32 + (s.station id).extra) c (s.stnTag id) payload
    ((s1.sendStation id 1 s.now frame).setStation id fun x => { x with extra := x.extra + 1 }).prepareSafe id

/-- A station's state set; the cycles heard count from here. -/
def State.stnState (s : State) (id st : Nat) : State := s.setStation id fun x => { x with state := st, heard := 0 }

/-- The transition of a station for the cycle just ended; its counts of cycles heard and unheard are those after it. The Join of a
retired station is answered with RESULT 3 and no event (R240, R246). -/
def State.transition (s : State) (id : Nat) (joined : Bool) : State :=
  let x := s.station id
  let restart := joined && decide (2 ≤ x.state)
  if s.retired id then (if x.state ≠ 5 then s.stnState id 5 else if joined then s.sendAdmit id 3 else s)
  else if x.state = 5 then s.stnState id 0
  else if x.state = 0 then (if joined then s.stnState id 1 else s)
  else if x.state = 1 then
    (let r := s.admitResult id
     if r = 0 then (s.stnState id 2).sendAdmit id 0 else (s.sendAdmit id r).raise 0 0x0E id 3 r)
  else if restart then
    (let t := s.stnState id 1
     if x.state = 3 then t.raise 1 0x0E id 2 x.boot else t)
  else if x.state = 3 then
    (if max 1 (s.fld .STN_WATCH_WATCH) ≤ x.unheard then (s.stnState id 4).raise 1 0x0E id 1 3 else s)
  else if 2 ≤ x.heard then s.setStation id fun y => { y with state := 3 }
  else s

/-- One station evaluated: counts, transition, substitution; its bits and frames of the next cycle begin empty. -/
def State.evaluate (s : State) (id : Nat) : State :=
  let meas := s.heardBit (2 * id)
  let s1 := s.setStation id fun x => { x with heard := if meas then min 255 (x.heard + 1) else 0,
                                              unheard := if meas then 0 else min 255 (x.unheard + 1), extra := 0 }
  let s2 := (s1.transition id (s.heardBit (2 * id + 1))).substStation id
  let s3 := s2.setStation id fun x => { x with frames := [], written := false }
  (if s3.commanded id ∧ (s3.station id).safe.isEmpty then s3.prepareSafe id else s3).keepStation id

/-- STN_COUNT0 and STN_COUNT1. -/
def State.countStations (s : State) : State :=
  let n := fun k => (s.stationIds.filter fun id => (s.station id).state == k).length
  (((s.put .STN_COUNT0_ABSENT (n 4)).put .STN_COUNT0_LIVE (n 3)).put .STN_COUNT1_RETIRED (n 5)).put .STN_COUNT1_PENDING (n 1 + n 2)

/-- The station manager at a station cycle start: hold words, receipt, every station in ascending number (R244 to R246). -/
def State.stationCycle (s : State) : State :=
  if !s.flag .STN_CTRL_EN then s
  else
    let s1 := s.stn.kept.foldl (fun t e => t.setWord (0xC4000 + e.1) e.2) s
    let holds := s.stn.kept.foldl (fun m e => Sparse.put false m e.1 true) s.stn.holds
    let s2 := ((s1.sample 0x0E 2 0 s.stn.late).setStn fun x =>
      { x with kept := [], holds := holds, build := none, late := 0 }).rxMinority
    let s3 := s.stationIds.foldl (fun t id => t.evaluate id) s2
    (s3.setStn fun x => { x with run := [], runs := [] }).countStations

/-! ### The snapshot (R15, R244) -/

/-- The input words of the stations that were not gathered, with their substitutes. -/
def State.snapSubst (s : State) : List (Nat × Word) :=
  ((s.stationIds.filter fun id => !s.gatheredNow id).flatMap fun id =>
    (List.range (s.stnMeas id)).map fun n => (s.pointWord id n, s.substitute id n))

/-- The values of the gathered stations, for their hold words. -/
def State.snapKept (s : State) : List (Nat × Word) :=
  ((s.stationIds.filter s.gatheredNow).flatMap fun id =>
    (List.range (s.stnMeas id)).map fun n => (s.pointHold id n, s.image (s.pointWord id n)))

/-- The gather unit's copy into context 0 at the snapshot instant. -/
def State.snapshot (s : State) : State :=
  if !s.flag .STN_CTRL_EN then s.gather 0 fun _ => none
  else
    let subs := s.snapSubst
    let s1 := s.gather 0 fun w => (subs.find? fun e => e.1 == w).map Prod.snd
    let s2 := s.stationIds.foldl (fun t id => t.setStation id fun x => { x with gathered := s.gatheredNow id }) s1
    s2.setStn fun x => { x with kept := s.snapKept }

/-! ### Commands to stations (R247 to R249) -/

/-- The value of a command point's SRC word for a build at base tick b. -/
def State.cmdValue (s : State) (w b : Nat) : Word :=
  if 0x40000 ≤ w ∧ w < 0x80000 then
    match (s.stn.voted.filter fun e => match e.2.1 with | some st => decide (st + 1 ≤ b) | none => false).getLast? with
    | some e => Sparse.at 0 e.2.2 w
    | none => s.image w
  else s.image w

/-- A station's command points of one class: point, flags, value. In Commission only those that are forced (R16). -/
def State.cmdPoints (s : State) (id b : Nat) (safety : Bool) : List (Nat × Nat × Word) :=
  ((List.range (s.stnCmd id)).filter fun n =>
    let r := (s.cmdRec id n 0).toNat
    bitOf r 24 == safety && (s.mode != .commission || s.forceFlag (bitsOf r 23 0))).map fun n =>
    let w := bitsOf (s.cmdRec id n 0).toNat 23 0
    (n, b2n (s.forceFlag w), s.cmdValue w b)

/-- A station's Command frames built and queued for launch (R247, R248); frames that pass their launch time count as late. -/
def State.buildStation (s : State) (id b : Nat) : State :=
  let c := s.cycleStart
  let us := max (s.fld .STN_TIMING_LAUNCH_US) (s.fld .STN_TIMING_BUILD_US + 100)
  let launch := c + us * 1000
  let plain := s.commandFrames id (s.cycleSeq c) c false (s.cmdPoints id b false)
  let fs := plain ++ s.commandFrames id (s.cycleSeq c + plain.length) c true (s.cmdPoints id b true)
  let one := fun (t : State) (f : List Byte) =>
    let u := if launch < t.now then t.bump .STN_LATE_CMD else t
    (u.sendStation id 1 launch f).sample 0x0E 3 0 (t.now - launch)
  (fs.foldl one s).prepareSafe id

/-- The build: each safe command prepared anew, and sent in Safe in place of the cycle's Command frames (R249); Command frames in Run and
Degraded and, of forced points, in Commission. -/
def State.buildCommands (s : State) (b : Nat) : State :=
  let ids := s.stationIds.filter s.commanded
  let s1 := ids.foldl (fun t id => t.prepareSafe id) (s.setStn fun x => { x with build := none })
  if s.mode = .safe then ids.foldl (fun t id => t.safeCommand id t.now) s1
  else if s.voting ∧ (s.live ∨ s.mode = .commission) then
    (ids.filter fun id => decide (0 < s.stnCmd id)).foldl (fun t id => t.buildStation id b) s1
  else s1

/-- Does the build wait: a cycle whose latch lies at or before tick b − 1 is not yet voted and stamped (R247)? -/
def State.buildWaits (s : State) (b : Nat) : Bool :=
  s.flag .SCN_STAT_RUN && (s.fld .SCN_STAT_PHASE == 5 || s.fld .SCN_STAT_PHASE == 6) && decide (s.scn.ownStamp + 1 ≤ b)

/-- A build that waited goes on once its cycle has been voted and stamped. -/
def State.buildPending (s : State) : State := match s.stn.build with
  | some b => if s.buildWaits b then s else s.buildCommands b
  | none => s

/-! ### Commands -/

/-- MEASUREMENT_FRAME (R234 to R242): a datagram for STN_PORT, the MAC it came in by, its sender's addresses. -/
def execMeasurementFrame (mac : Fin 8) (src : BitVec 48) (ip : Word) (datagram : List Byte) (s : State) :
    Host.Outcome State Fault Refusal :=
  coreAct s fun s => s.stationFrame mac.val src.toNat ip.toNat datagram

/-- JOIN_FRAME (R234 to R240). -/
def execJoinFrame (mac : Fin 8) (src : BitVec 48) (ip : Word) (datagram : List Byte) (s : State) :
    Host.Outcome State Fault Refusal :=
  coreAct s fun s => s.stationFrame mac.val src.toNat ip.toNat datagram

/-- COMMAND_BUILD (R79, R247): BUILD_US after the station cycle start, after the groups due then. -/
def execCommandBuild (s : State) : Host.Outcome State Fault Refusal :=
  coreAct s fun s =>
    let at_ := s.cycleStart + s.fld .STN_TIMING_BUILD_US * 1000
    let t := (s.at at_).dueGroups
    if !t.flag .STN_CTRL_EN ∨ t.now < at_ then t
    else
      let b := tickOf at_
      if t.buildWaits b then t.setStn fun x => { x with build := some b } else t.buildCommands b

end Sys2Proof.Machine
end

