-- ==== Sys2Proof/Machine/Lights.lean ====
section
/-! DEFINITION. Lighting zones and recipes (R254 to R263): checks, setpoints, light integrals, group reports. -/

namespace Sys2Proof.Machine

def State.setLum (s : State) (f : LumState → LumState) : State := { s with lum := f s.lum }

/-! ### Zones and recipes (R254, R255, R257) -/

/-- A word of zone z's table entry. -/
def State.zoneWord (s : State) (z k : Nat) : Word := s.word (s.fld .LUM_ZONE_BASE / 4 + 8 * z + k)
def State.zoneFlags (s : State) (z : Nat) : Nat := (s.zoneWord z 0).toNat
def State.zoneEn (s : State) (z : Nat) : Bool := s.fld .LUM_ZONE_BASE != 0 && bitOf (s.zoneFlags z) 0
def State.zoneChannels (s : State) (z : Nat) : Nat := bitsOf (s.zoneFlags z) 3 1 + 1
def State.zoneGroup (s : State) (z : Nat) : Nat := bitsOf (s.zoneFlags z) 9 4
def State.zoneRecipe (s : State) (z : Nat) : Nat := bitsOf (s.zoneFlags z) 15 10
def State.zoneStation (s : State) (z : Nat) : Nat := bitsOf (s.zoneFlags z) 25 16
def State.zoneArea (s : State) (z : Nat) : Word := s.zoneWord z 2
/-- A word of recipe n. -/
def State.recipeWord (s : State) (n k : Nat) : Word := s.word (s.fld .LUM_RECIPE_BASE / 4 + 1024 * n + k)
def State.recipePoints (s : State) (n : Nat) : Nat := (s.recipeWord n 0).toNat
def State.recipeT (s : State) (n p : Nat) : Nat := (s.recipeWord n (8 + 9 * p)).toNat
def State.recipeRatio (s : State) (n p c : Nat) : Word := s.recipeWord n (9 + 9 * p + c)

/-- A binary32 value from 0 to 1. -/
def unitValue (w : Word) : Bool := fisFin w && fle 0 w && fle w 0x3F800000

/-- The offset of the first field of an entry that fails R255. -/
def State.zoneFault (s : State) (z : Nat) : Option Nat :=
  if !s.stnEnabled (s.zoneStation z) then some 0
  else if !unitValue (s.zoneWord z 1) then some 4
  else if !fisFin (s.zoneArea z) ∨ !flt 0 (s.zoneArea z) then some 8
  else none

/-- Does a recipe pass its check (R257)? -/
def State.recipeOk (s : State) (n : Nat) : Bool :=
  let k := s.recipePoints n
  decide (1 ≤ k) && decide (k ≤ 96) && fisFin (s.recipeWord n 1) && fisFin (s.recipeWord n 2) && fle 0 (s.recipeWord n 1) &&
    fle (s.recipeWord n 1) (s.recipeWord n 2) && (List.range (min k 96)).all fun p =>
      decide (s.recipeT n p < 86400) && (p == 0 || decide (s.recipeT n (p - 1) < s.recipeT n p)) &&
        (List.range 8).all fun c => unitValue (s.recipeRatio n p c)

/-- Why a zone is not valid: the cause and DETAIL of its event (R273). -/
def State.zoneBad (s : State) (z : Nat) : Option (Nat × Nat) :=
  match s.zoneFault z with
  | some off => some (1, 32 * z + off)
  | none => if s.recipeOk (s.zoneRecipe z) then none else some (2, s.zoneRecipe z)

def State.zoneValid (s : State) (z : Nat) : Bool := s.zoneEn z && (s.zoneBad z).isNone
def State.validZones (s : State) : List Nat := (List.range 1024).filter s.zoneValid

/-- One zone's check at a station cycle start: its bit, and an E1 at the first start of an episode. -/
def State.checkZone (s : State) (z : Nat) : State :=
  let bit := fun (t : State) (b : Bool) => t.slotBit .LUM_ZONE_BAD z b
  match if s.zoneEn z then s.zoneBad z else none with
  | none => if Sparse.at (0, 0) s.lum.failing z = (0, 0) then s
      else (bit s false).setLum fun x => { x with failing := Sparse.put (0, 0) x.failing z (0, 0) }
  | some b =>
    let t := (bit s true).setLum fun x => { x with failing := Sparse.put (0, 0) x.failing z b }
    if Sparse.at (0, 0) s.lum.failing z = (0, 0) then t.raise 1 0x0F z b.1 b.2 else t

/-! ### Civil time and ratios (R258) -/

/-- Civil time of a station cycle, in s. -/
def State.civil (s : State) (cycle : Nat) : Int := ((cycle / 1000000000 : Nat) : Int) + signed 32 (s.fld .LUM_CIVIL_OFS)

/-- The day index. -/
def State.dayIndex (s : State) (cycle : Nat) : Int := (s.civil cycle - (s.fld .LUM_DAY_START : Int)) / 86400

/-- The ratio of channel c of recipe n at civil second σ: R_p + (R_q − R_p) × (σ′ − T_p) / (T_q − T_p), each operation in binary32, from
left to right (R192, R258). -/
def State.ratioAt (s : State) (n c sigma : Nat) : Word :=
  let k := s.recipePoints n
  if k = 1 then s.recipeRatio n 0 c
  else
    let p := match ((List.range k).filter fun j => decide (s.recipeT n j ≤ sigma)).getLast? with
      | some j => j
      | none => k - 1
    let q := if p + 1 = k then 0 else p + 1
    let tp := s.recipeT n p
    let tq := if s.recipeT n q ≤ tp then s.recipeT n q + 86400 else s.recipeT n q
    let sg := if sigma < tp then sigma + 86400 else sigma
    let rp := s.recipeRatio n p c
    fadd rp (fdiv (fmul (fsub (s.recipeRatio n q c) rp) (fofInt (sg - tp : Nat))) (fofInt (tq - tp : Nat)))

/-! ### Setpoints (R259) -/

/-- The word of a channel's setpoint. -/
def State.setpointWord (s : State) (z c : Nat) : Nat := s.fld .LUM_SP_BASE / 4 + 8 * z + c

/-- One channel's setpoint; whether the rate limited it. -/
def State.channelSet (s : State) (z c sigma : Nat) : Word × Bool :=
  let g := s.zoneGroup z
  let raw := s.fld (.LUM_GRP_INT g)
  let i : Word := w32 (Norm.f32Unit.apply 0 raw)
  let cap := ratio32 false (s.capOf (min 8 (s.fld .PMS_LEVEL_AGREED)) g) 255 0
  let target := fmin (fmax (fmul (fmul i (s.zoneWord z 1)) (s.ratioAt (s.zoneRecipe z) c sigma)) 0) 0x3F800000
  let prev := if Sparse.at false s.lum.started z then s.word (s.setpointWord z c) else target
  let rate := s.zoneWord z 3
  let lim := if flt 0 rate then fmin (fmax target (fsub prev rate)) (fadd prev rate) else target
  (fmin lim cap, lim != target)

/-- A zone's channels, in ascending number. -/
def State.computeZone (s : State) (z sigma : Nat) : State × Nat :=
  let r := (List.range (s.zoneChannels z)).foldl (fun (a : State × Nat) c =>
    let x := s.channelSet z c sigma
    (a.1.reqWrite 11 (s.setpointWord z c) x.1, a.2 + b2n x.2)) (s, 0)
  (r.1.setLum fun x => { x with started := Sparse.put false x.started z true }, r.2)

/-- Does the sequencer run (R260)? -/
def State.sequencing (s : State) : Bool := s.flag .LUM_CTRL_EN && (s.live || s.mode == .commission)

/-- The sequencer at a station cycle start (R255, R259). -/
def State.sequence (s : State) : State :=
  if !s.sequencing then s
  else
    let s1 := forN 1024 (fun z t => t.checkZone z) s
    let sigma := (s1.civil s1.cycleStart % 86400).toNat
    let zs := s1.validZones
    let r := zs.foldl (fun (a : State × Nat) z => let b := a.1.computeZone z sigma; (b.1, a.2 + b.2)) (s1, 0)
    (r.1.put .LUM_STAT_ZONES zs.length).sample 0x0F 2 0 r.2

/-! ### The light integral (R261, R262) -/

/-- The byte address of a zone's record: the integral in binary64, yesterday's value in binary32, then DLI_VALID in bit 31 over
SUBST_S in ms. -/
def State.dliAt (s : State) (z : Nat) : Nat := s.fld .LUM_DLI_BASE + 16 * z
def State.dli (s : State) (z : Nat) : DWord := BitVec.ofNat 64 (leNat (s.bytes (s.dliAt z) 8))
def State.dliTail (s : State) (z : Nat) : Nat := (s.word (s.dliAt z / 4 + 3)).toNat
def State.dliValid (s : State) (z : Nat) : Bool := bitOf (s.dliTail z) 31
def State.substMs (s : State) (z : Nat) : Nat := s.dliTail z % 2147483648

/-- A zone's record written. -/
def State.putDli (s : State) (z : Nat) (v : DWord) (yesterday : Word) (tail : Nat) : State :=
  s.reqBytes 11 (s.dliAt z) (leBytes 8 v.toNat ++ wordBytes yesterday ++ leBytes 4 tail)

/-- A new day for a zone. -/
def State.newDay (s : State) (z : Nat) : State := s.putDli z 0 (narrow (s.dli z)) 2147483648

/-- The PPFD of a zone under the rule of R244, and whether it is a substitute. -/
def State.zonePpfd (s : State) (z : Nat) : Word × Bool :=
  let w := bitsOf (s.zoneWord z 4).toNat 23 0
  let id := s.zoneStation z
  if !s.flag .STN_CTRL_EN ∨ s.gatheredNow id then (s.image w, s.subFlag w)
  else match (List.range (s.stnMeas id)).find? fun n => s.pointWord id n == w with
    | some n => (s.substitute id n, true)
    | none => (s.image w, true)

/-- A zone's light of one station cycle added. -/
def State.addLight (s : State) (z : Nat) : State :=
  let p := s.zonePpfd z
  let ms := s.fld .STN_CYCLE_MS
  let fin := fisFin p.1
  let x := ddiv (dmul (widen p.1) (ddiv (dofInt ms) (dofInt 1000))) (dofInt 1000000)
  let v := if fin then dadd (s.dli z) x else s.dli z
  let tail := if p.2 || !fin then min 2147483647 (s.substMs z + ms) else s.substMs z
  s.putDli z v (s.word (s.dliAt z / 4 + 2)) (tail + 2147483648 * b2n (s.dliValid z))

/-- The light integral at a snapshot instant (R261); on a new day every zone's integral moves, whether or not it is enabled (R262). -/
def State.lightIntegral (s : State) : State :=
  if !s.sequencing ∨ s.fld .LUM_DLI_BASE = 0 then s
  else
    let d := s.dayIndex s.cycleStart
    let new := match s.lum.day with | some e => decide (e < d) | none => false
    let s1 := s.setLum fun x => { x with day := some (match x.day with | some e => max e d | none => d) }
    let s2 := if new then forN 1024 (fun z t => t.newDay z) s1 else s1
    s2.validZones.foldl (fun t z => t.addLight z) s2

/-! ### Group reports (R263) -/

/-- A mean of zones weighted by area, computed in binary64. -/
def State.areaMean (s : State) (zs : List Nat) (f : Nat → DWord) : Word :=
  let a := dsum (zs.map fun z => widen (s.zoneArea z))
  narrow (ddiv (dsum (zs.map fun z => dmul (f z) (widen (s.zoneArea z)))) a)

/-- The eight words of a group. -/
def State.groupWords (s : State) (all : List Nat) (g : Nat) : List Word :=
  let zs := all.filter fun z => s.zoneGroup z == g
  let remain := 86400 - ((s.civil s.cycleStart - (s.fld .LUM_DAY_START : Int)) % 86400).toNat
  let flags := b2n (zs.all s.dliValid) + 2 * b2n (zs.any fun z => decide (0 < s.substMs z))
  let head : List Word := if zs.isEmpty then [0, 0, 0, 0, 0] else
    let dli := s.areaMean zs s.dli
    let lo := s.areaMean zs fun z => widen (s.recipeWord (s.zoneRecipe z) 1)
    let hi := s.areaMean zs fun z => widen (s.recipeWord (s.zoneRecipe z) 2)
    [dli, lo, hi, fmax 0 (fsub lo dli), fmax 0 (fsub dli hi)]
  let area : Word := if zs.isEmpty then 0 else narrow (dsum (zs.map fun z => widen (s.zoneArea z)))
  head ++ [fofInt (remain : Nat), area, w32 flags]

/-- The group reports at a station cycle start. -/
def State.groupReports (s : State) : State :=
  if !s.sequencing ∨ s.fld .LUM_RPT_WADDR = 0 then s
  else
    let all := s.validZones
    forN 64 (fun g t =>
      let ws := s.groupWords all g
      let deficit := (fmt32.toInt 0 (fmul (ws.getD 3 0) 0x447A0000).toNat).getD 0
      (t.reqWords 11 (s.fld .LUM_RPT_WADDR + 8 * g) ws).sample 0x0F 3 g deficit.toNat) s

end Sys2Proof.Machine
end

