-- ==== Sys2Proof/Machine/Vote.lean ====
section
/-! DEFINITION. The scan cycle from its latch to its vote (R50 to R54, R58, R209, R210, R212, R440, R441), what follows a vote, and
the force key (R230). -/

namespace Sys2Proof.Machine

/-! ### The images of a cycle -/

/-- Does a sibling's complete image of a cycle lie here? -/
def State.holds (s : State) (k ref : Nat) : Bool := (s.peer k).complete && (s.peer k).cycle == ref

/-- The words a sibling's image carries. -/
def Peer.carried (p : Peer) : Sparse Word := p.image.filterMap fun e => e.2.map fun v => (e.1, v)

/-- The value of a word in a sibling's image: a word it does not carry is 0 there. -/
def Peer.value (p : Peer) (w : Nat) : Word := (Sparse.at none p.image w).getD 0

/-- Addresses in ascending order without repeats. -/
def mergeKeys : List Nat → List Nat → Nat → List Nat
  | l, r, 0 => l ++ r
  | [], r, _ => r
  | l, [], _ => l
  | a :: l, b :: r, n + 1 => if a < b then a :: mergeKeys l (b :: r) n else if b < a then b :: mergeKeys (a :: l) r n
      else a :: mergeKeys l r n

/-- The addresses that any of some images carries. -/
def imageKeys (ms : List (Sparse Word)) : List Nat :=
  ms.foldl (fun acc m => mergeKeys acc (m.map Prod.fst) (acc.length + m.length)) []

/-- The first address at which two images differ. -/
def firstDiff (a b : Sparse Word) : Option Nat := (imageKeys [a, b]).find? fun w => Sparse.at 0 a w != Sparse.at 0 b w

/-- The image hash of a sibling as received: 0 where the image is incomplete (R40). -/
def State.peerHash (s : State) (k : Nat) : DWord := if s.holds k s.scn.cycle then imageHash (s.peer k).carried else 0

/-- The Vote frame's payload (R40). -/
def State.votePayload (s : State) : List Byte :=
  let diff := fun k => if s.holds k s.scn.cycle then firstDiff s.scn.image (s.peer k).carried else none
  let mask := b2n (diff 0).isSome + 2 * b2n (diff 1).isSome + 4 * b2n (!s.holds 0 s.scn.cycle) + 8 * b2n (!s.holds 1 s.scn.cycle)
  leBytes 8 s.scn.hash.toNat ++ leBytes 8 (s.peerHash 0).toNat ++ leBytes 8 (s.peerHash 1).toNat ++ leBytes 4 mask ++
    leBytes 4 ((diff 0).getD 0) ++ leBytes 4 ((diff 1).getD 0)

/-! ### The vote -/

/-- What a word's vote gives: its value, the position outvoted (0 none), whether the images differ beyond a majority. -/
structure WordVote where
  value : Word
  out : Nat
  split : Bool
  deriving DecidableEq, Repr

/-- What a word takes that no majority decides: its safe value where a safety-flagged point holds it, else its last voted value
(R53, R58, R440). -/
def State.splitValue (s : State) (w : Nat) : Word := (s.safetyPoint w).getD (Sparse.at 0 s.scn.voted w)

/-- The vote of a word from the images of some positions (R50, R53, R58, R440). -/
def State.voteWord (s : State) (l : List (Nat × Word)) (w : Nat) : WordVote :=
  match l with
  | [(_, a)] => ⟨a, 0, false⟩
  | [(_, a), (_, b)] => if a = b then ⟨a, 0, false⟩ else ⟨s.splitValue w, 0, true⟩
  | [(p, a), (q, b), (r, c)] =>
    if a = b then ⟨a, if a = c then 0 else r, false⟩
    else if a = c then ⟨a, q, false⟩
    else if b = c then ⟨b, p, false⟩
    else ⟨s.splitValue w, 0, true⟩
  | _ => ⟨Sparse.at 0 s.scn.voted w, 0, false⟩

/-- The images that take part: the member's own while it votes, and those of the voting siblings that are complete. -/
def State.voteImages (s : State) : List (Nat × Sparse Word) :=
  (if s.voting || s.alone then [(s.pos, s.scn.image)] else []) ++
    (s.votingSibs.filter fun k => s.holds k s.scn.cycle).map fun k => (sibPos s.pos k, (s.peer k).carried)

/-- The votes of every word that an image, or the last voted image, carries. -/
def State.wordVotes (s : State) (ims : List (Nat × Sparse Word)) : List (Nat × WordVote) :=
  (imageKeys (s.scn.voted :: ims.map Prod.snd)).map fun w => (w, s.voteWord (ims.map fun e => (e.1, Sparse.at 0 e.2 w)) w)

/-- The positions whose cycle counts as mismatching (R50, R53, R54, R58, R440). -/
def State.mismatched (s : State) (ims : List (Nat × Sparse Word)) (vs : List (Nat × WordVote)) : List Nat :=
  let missing := (s.votingSibs.filter fun k => !s.holds k s.scn.cycle).map fun k => sibPos s.pos k
  let split := vs.any fun v => v.2.split
  missing ++ ((ims.map Prod.fst).filter fun p => split || vs.any fun v => v.2.out == p)

/-- A position's window takes this cycle, and its count shows (R52). -/
def State.countCycle (s : State) (p : Nat) (bad : Bool) : State :=
  if p = 0 then s else
    let w := (Sparse.at 0 s.sib.windows p <<< 1) ||| (if bad then 1#64 else 0#64)
    let t := { s with sib := { s.sib with windows := Sparse.put 0 s.sib.windows p w } }
    let n := popCount 64 w.toNat
    match p with
    | 1 => t.put .WIR_MISMATCH_CNT_CNT_A n
    | 2 => t.put .WIR_MISMATCH_CNT_CNT_B n
    | _ => t.put .WIR_MISMATCH_CNT_CNT_C n

/-- The mismatching cycles of a position among the last 64. -/
def State.misCount (s : State) (p : Nat) : Nat := popCount 64 (Sparse.at 0 s.sib.windows p).toNat

/-- The last mismatching cycle as WIR_MISMATCH_LAST and WIR_MISMATCH_CYC show it. -/
def State.showMismatch (s : State) (p w : Nat) : State :=
  ((s.put .WIR_MISMATCH_LAST_POS p).put .WIR_MISMATCH_LAST_ADDR w).put .WIR_MISMATCH_CYC s.scn.cycle

/-- Bit p − 1 for each position of a list. -/
def posBits (ps : List Nat) : Nat := ps.foldl (fun acc p => acc ||| 2 ^ (p - 1)) 0

/-- The positions of a role whose count is above the limit. -/
def State.beyondLimit (s : State) (role : Nat) : List Nat :=
  [1, 2, 3].filter fun p => s.role p == role && decide (s.fld .WIR_MISMATCH_LIMIT < s.misCount p)

/-- Has the third voting member told its own conclusion on position p for the cycle last counted (R57 step 1)? Its Vote frame of that
cycle does so: it names the image of p that the sender has compared, and the counts follow from the images (assumption 21). -/
def State.thirdTold (s : State) (p : Nat) : Bool :=
  s.votingSibs.all fun k => sibPos s.pos k == p || match (s.peer k).vote with
    | some m => m.cycle == s.sib.winCyc
    | none => false

/-- With three voters the one sibling above the limit is sidelined once both other members have reached that conclusion (R52, R57). -/
def State.sidelineBeyond (s : State) : State :=
  match s.beyondLimit 3 with
  | [p] => if s.voters = 3 ∧ p ≠ s.pos ∧ s.thirdTold p = true then s.sideline p 1 else s
  | _ => s

/-- What counts above the limit bring (R52, R53, R61): two of three voters together are an E4, one sibling is sidelined; a joiner above
it ends its rejoin. -/
def State.judgeCounts (s : State) : State :=
  let voters := s.beyondLimit 3
  let s1 := if s.voters = 3 ∧ 2 ≤ voters.length then s.raise 4 0x05 0 9 (posBits voters) else s.sidelineBeyond
  if (s.beyondLimit 2).isEmpty then s1 else s1.rejoinFail 3

/-! ### Votes and hashes (R51) -/

/-- The two hashes reported of a position's image for the last voted cycle: by each of the two others, once all votes are held. -/
def State.reports (s : State) (p : Nat) : Option (DWord × DWord) :=
  match s.sib.ownVote, (s.peer 0).vote, (s.peer 1).vote with
  | some o, some a, some b =>
    if o.cycle ≠ s.sib.winCyc ∨ a.cycle ≠ o.cycle ∨ b.cycle ≠ o.cycle then none
    else if p = s.pos then some (a.dn, b.up)
    else if p = sibPos s.pos 0 then some (o.up, b.dn)
    else some (o.dn, a.up)
  | _, _, _ => none

/-- A position whose image its two siblings received differently has mismatched in that cycle. -/
def State.judgeHashes (s : State) : State :=
  let bad := [1, 2, 3].filter fun p => s.role p == 3 && !(Sparse.at 0 s.sib.windows p).getLsbD 0 && match s.reports p with
    | some (x, y) => x != y
    | none => false
  if bad.isEmpty ∨ s.voters ≠ 3 ∨ !s.flag .SCN_STAT_RUN then s
  else
    let mark := fun (t : State) p =>
      let w := Sparse.at 0 t.sib.windows p ||| 1#64
      let u := t.setSib fun x => { x with windows := Sparse.put 0 x.windows p w }
      match p with
      | 1 => u.put .WIR_MISMATCH_CNT_CNT_A (popCount 64 w.toNat)
      | 2 => u.put .WIR_MISMATCH_CNT_CNT_B (popCount 64 w.toNat)
      | _ => u.put .WIR_MISMATCH_CNT_CNT_C (popCount 64 w.toNat)
    let t := bad.foldl mark s
    ((t.put .WIR_MISMATCH_LAST_POS (bad.headD 0)).put .WIR_MISMATCH_CYC t.sib.winCyc).judgeCounts

/-- The mismatch counts of a cycle: every voting position, and a shadow's, whose image is compared but has no part in the vote
(R54, R60). -/
def State.countCycles (s : State) (bad : List Nat) (voted : Sparse Word) : State :=
  let shadowBad := fun p => match sibOf s.pos p with
    | some k => s.holds k s.scn.cycle && (firstDiff voted (s.peer k).carried).isSome
    | none => (firstDiff voted s.scn.image).isSome
  let s1 := [1, 2, 3].foldl (fun t p =>
    if t.role p = 3 then t.countCycle p (bad.contains p)
    else if t.role p = 2 then t.countCycle p (shadowBad p) else t) s
  { s1 with sib := { s1.sib with winCyc := s.scn.cycle } }

/-- A member whose own word was outvoted re-aligns the enclosing 256-byte regions of its output region (R50). -/
def State.realign (s : State) (ws : List Nat) (voted : Sparse Word) : State :=
  let blocks := ws.foldl (fun acc w => addOnce acc (w / 64)) []
  blocks.foldl (fun t b => t.reqWords 5 (64 * b) ((List.range 64).map fun j => Sparse.at 0 voted (64 * b + j))) s

/-- The voted image and the votes it came from, with the points latched by R58 at their safe values. -/
def State.ballot (s : State) : Sparse Word × List (Nat × Sparse Word) × List (Nat × WordVote) :=
  let ims := s.voteImages
  let vs := s.wordVotes ims
  let base := vs.foldl (fun m v => Sparse.put 0 m v.1 v.2.value) []
  (s.sib.disagree.foldl (fun m w => Sparse.put 0 m w ((s.safetyPoint w).getD (Sparse.at 0 m w))) base, ims, vs)

/-- What the disagreements of a cycle raise and latch: the E2 of R53, the E1 of R58 and R440, the latches of R58. -/
def State.disagreements (s : State) (three : Bool) (vs : List (Nat × WordVote)) : State :=
  match vs.find? fun v => v.2.split with
  | none => s
  | some v =>
    if three then s.raise 2 0x05 0 0x0C v.1
    else
      let safety := (vs.filter fun v => v.2.split && (s.safetyPoint v.1).isSome).map Prod.fst
      let latch := if s.voters = 2 then { s with sib := { s.sib with disagree := safety.foldl addOnce s.sib.disagree } } else s
      match if s.voters = 2 then vs.find? fun v => v.2.split && (s.safetyPoint v.1).isNone else some v with
      | some u => latch.raise 1 0x05 0 0x0D u.1
      | none => latch

/-- The vote of a cycle: its frame, the voted image, re-alignment, counts, disagreements; the siblings' Vote frames of the cycle may
have come before it (R51). -/
def State.voteCycle (s : State) : State :=
  let msg : VoteMsg := { cycle := s.scn.cycle, own := s.scn.hash, up := s.peerHash 0, dn := s.peerHash 1, mask := 0, firstUp := 0,
                         firstDn := 0 }
  let s00 := { s with sib := { s.sib with ownVote := some msg } }
  let s0 : State := if s00.alone && s00.voting then s00 else s00.sendBoth 2 s.scn.cycle true s.votePayload
  let (voted, ims, vs) := s0.ballot
  let bad := s0.mismatched ims vs
  let own := (vs.filter fun v => v.2.out == s0.pos && s0.pos != 0).map Prod.fst
  let s1 := (s0.realign own voted).setScn fun x => { x with voted := voted }
  let s2 := if s1.pos = 0 then s1 else s1.countCycles bad voted
  let s3 : State := match bad, vs.find? fun v => v.2.split || v.2.out != 0 with
    | [], _ => s2
    | _, some v => s2.showMismatch v.2.out v.1
    | p :: _, none => s2.showMismatch p 0
  let s4 : State := if s3.voting then s3.disagreements (ims.length == 3) vs else s3
  if s4.pos = 0 then s4 else s4.judgeCounts.judgeHashes

/-! ### After the vote -/

/-- The outputs receive the voted image: those on the base tick grid wait for their edge, trip elements follow at once (R314, R328,
R335); the station manager keeps the last four (R247). -/
def State.publishVote (s : State) : State :=
  let before := (List.range 8).filter s.tripCmd
  let keep := fun (l : List (Nat × Option Nat × Sparse Word)) => l.drop (l.length - 3) ++ [(s.scn.cycle, none, s.scn.voted)]
  let s1 := s.setStn fun x => { x with voted := keep x.voted }
  if !s.live ∨ !s.voting then s1
  else
    { s1 with field := { s1.field with outPend := s1.field.outPend ++ [(s.now, s.scn.voted)], cmdBefore := before } }.driveTrips

/-- A shadow cycle completed (R60 step 6). -/
def State.shadowCycle (s : State) : State :=
  if s.fld .SIB_REJOIN_STAT_PHASE = 4 then s.bump .SIB_REJOIN_STAT_SHADOW_DONE else s

/-- Phase 6 of any cycle: the scan state stands, registers and monitors follow (R209, R233). -/
def State.writeScan (s : State) : State :=
  let us := (s.now - s.scn.startAt) / 1000
  let p3 := (s.scn.p4At - s.scn.p3At) / 1000
  let s1 := ((s.put .SCN_CYC_LAST_US (min 131071 us)).put .SCN_P3_LAST_US (min 131071 p3)).put .SCN_STAT_PHASE
    (if s.flag .SCN_STAT_RUN then 6 else 0)
  let s2 := { s1 with sed := { s1.sed with cycMax := max s1.sed.cycMax us }, scn := { s1.scn with saved := s1.scn.mem } }
  ((s2.sample 0x0D 1 0 us).sample 0x0D 2 0 p3).endSelection.keepScan

/-- Phase 6 of a completed cycle: the device watchdog is served besides (R90). -/
def State.phase6 (s : State) : State :=
  let t := s.writeScan
  { t with scn := { t.scn with served := t.scn.cycle } }.shadowCycle.countReps

/-- Phases 5 and 6 of a cycle whose images are held, or whose timeout has passed (R54, R81, R209). The last cycle before the engine
stops votes and commits nothing (R100). -/
def State.finishCycle (s : State) : State :=
  if !s.flag .SCN_STAT_RUN then s.writeScan
  else
    let s1 := s.voteCycle
    if !s1.flag .SCN_STAT_RUN then s1.writeScan
    else
      let s2 := s1.phase5Groups
      if !s2.flag .SCN_STAT_RUN then s2.writeScan else if s2.scn.zero then s2 else s2.publishVote.phase6

/-- Phase 4 (R212, R215): the latch, the image with its forces, the frames; phase 5 waits. The last cycle before the engine stops
sends no frames and ends (R100). -/
def State.phase4 (s : State) : State :=
  let s1 := s.takeLatch
  let im := s1.composed
  let s2 := s1.setScn fun x => { x with image := im, hash := imageHash im, p4At := s.now, imageAt := s.now }
  if !s.flag .SCN_STAT_RUN then (s2.putB .SCN_STAT_ERRTASK false).writeScan
  else
    let s3 := (if s2.alone && s2.voting then s2 else s2.sendImage s2.scn.cycle im).put .SCN_STAT_PHASE 5
    if !s3.alone && s3.siblingsReady s3.scn.cycle then s3.sample 0x0D 3 0 0 else s3

/-- A cycle starts with the siblings' images of one cycle alone taking part in its agreement. -/
def State.startWith (s : State) (ref num : Nat) (useOwn : Bool) : State :=
  ((s.bothPeers fun q => { q with complete := q.complete && q.cycle == ref }).startCycle num useOwn).buildPending

/-- A cycle that starts from the member's own latch alone (R210). -/
def State.startOwn (s : State) (num : Nat) : State :=
  ((s.bothPeers fun q => { q with complete := false }).startCycle num true).buildPending

/-- The cycle of a voting sibling's complete image that lies beyond a number. -/
def State.laterCycle (s : State) (n : Nat) : Option Nat :=
  (s.votingSibs.find? fun k => (s.peer k).complete && decide (n < (s.peer k).cycle) && (s.peer k).cycle != zeroRef).map
    fun k => (s.peer k).cycle

/-- A joiner's view of the output region before its first shadow cycle: what its siblings' images of the cycle before vote (R215,
R441). -/
def State.shadowView (s : State) (ref : Nat) : State :=
  let t := s.setScn fun x => { x with cycle := ref, voted := [] }
  t.setScn fun x => { x with voted := t.ballot.1 }

/-- Is the engine a joiner's that waits for its siblings' numbering (R441)? -/
def State.shadowWaits (s : State) : Bool :=
  s.mode == .startUp && s.fld .SYS_MODE_STARTUP == 7 && s.fld .SCN_STAT_PHASE == 0

/-- The next cycle starts, if what it waits for is held (R54, R210, R441). -/
def State.nextCycle (s : State) : State :=
  if !s.flag .SCN_STAT_RUN then s
  else if s.shadowWaits then
    (match s.votingSibs.find? fun k => (s.peer k).complete && (s.peer k).cycle != zeroRef with
     | some k => (s.shadowView (s.peer k).cycle).startWith (s.peer k).cycle ((s.peer k).cycle + 1) true
     | none => s)
  else if s.scn.zero ∧ s.fld .SCN_STAT_PHASE = 0 then
    (let t := s.zeroLatch
     if t.siblingsReady zeroRef then t.startWith zeroRef 0 true else t)
  else if s.fld .SCN_STAT_PHASE ≠ 6 then s
  else if s.scn.waitAlign then
    (match s.laterCycle s.scn.overrun with
     | some m => s.startWith m (m + 1) false
     | none => if s.alone then s.takeLatch.startOwn (s.scn.overrun + 1) else s)
  else s.startWith s.scn.cycle (s.scn.cycle + 1) true

/-- SIB_CYC_TMO passes: the cycle votes what it holds, or starts with what it holds (R54, R210, R440, R441). -/
def State.cycleTimeout (s : State) : State :=
  if s.now < s.scn.imageAt + s.fld .SIB_CYC_TMO * 1000 then s
  else if s.fld .SCN_STAT_PHASE = 5 then s.finishCycle
  else if !s.flag .SCN_STAT_RUN then s
  else if s.scn.zero ∧ s.fld .SCN_STAT_PHASE = 0 ∧ !s.shadowWaits then s.zeroLatch.startWith zeroRef 0 true
  else if s.scn.waitAlign ∧ s.fld .SCN_STAT_PHASE = 6 then s.takeLatch.startOwn (s.scn.overrun + 1)
  else s

/-! ### Commands -/

/-- SCAN_CYCLE_START (R54, R209): phase 1 of the next cycle, at an instant. -/
def execScanCycleStart (ns : Nat) (s : State) : Host.Outcome State Fault Refusal := coreAct s fun s => (s.at ns).nextCycle

/-- CYCLE_IMAGE_TIMEOUT (R54, R440). -/
def execCycleImageTimeout (ns : Nat) (s : State) : Host.Outcome State Fault Refusal := coreAct s fun s => (s.at ns).cycleTimeout

/-- CYCLE_ZERO_LATCH (R441): the latch for cycle 0, taken and sent once, at the instant where the numbering restarts; where the row has
not come, the start of cycle 0 takes it (assumption 95). -/
def execCycleZeroLatch (s : State) : Host.Outcome State Fault Refusal :=
  coreAct s fun s => if s.flag .SCN_STAT_RUN ∧ s.scn.zero ∧ s.fld .SCN_STAT_PHASE = 0 ∧ !s.shadowWaits then s.zeroLatch else s

/-- PHASE_4 (R212, R215): phase 3 has ended. -/
def execPhase4 (ns : Nat) (s : State) : Host.Outcome State Fault Refusal :=
  coreAct s fun s =>
    let t := s.at ns
    if t.fld .SCN_STAT_PHASE = 3 then t.phase4 else t

/-- VOTE (R50, R81): in phase 5, with the images of every voting sibling and their hashes of the groups armed in the cycle. -/
def execVote (ns : Nat) (s : State) : Host.Outcome State Fault Refusal :=
  coreAct s fun s =>
    let t := s.at ns
    if t.fld .SCN_STAT_PHASE = 5 ∧ ((t.siblingsReady t.scn.cycle && t.hashesReady) = true ∨ t.flag .SCN_STAT_RUN = false) then t.finishCycle else t

/-- SCAN_CYCLE_OVERRUN (R210): the cycle in progress has lasted longer than SCN_CYC_MAX. -/
def execScanCycleOverrun (ns : Nat) (s : State) : Host.Outcome State Fault Refusal :=
  coreAct s fun s =>
    let t := s.at ns
    let ph := t.fld .SCN_STAT_PHASE
    if 1 ≤ ph ∧ ph ≤ 5 ∧ t.scn.startAt + t.fld .SCN_CYC_MAX * 1000 < t.now then
      t.endCycle 1 (min 0xFFFFFF ((t.now - t.scn.startAt) / 1000))
    else t

/-- SCN_FORCE_KEY_WRITE (R230). -/
def execScnForceKeyWrite (value : Word) (s : State) : Host.Outcome State Fault Refusal :=
  hostAct 0x0D 0x54 s fun s =>
    if s.scn.forceKey = some value then
      (s.putB .SCN_STAT_KEY_OK true).setScn fun x => { x with keyUntil := s.now + s.fld .SCN_KEY_TTL * 1000000000 }
    else s.putB .SCN_STAT_KEY_OK false

/-- FORCE_KEY_EXPIRY (R230): SCN_KEY_TTL seconds after the last correct write. -/
def execForceKeyExpiry (s : State) : Host.Outcome State Fault Refusal :=
  coreAct s fun s =>
    let t := s.at s.scn.keyUntil
    if t.flag .SCN_STAT_KEY_OK ∧ t.scn.keyUntil ≤ t.now then t.putB .SCN_STAT_KEY_OK false else s

end Sys2Proof.Machine
end

