-- ==== Sys2Proof/Machine/ScanCode.lean ====
section
/-! DEFINITION. Scan code (R208, R217 to R225): the instructions, one meaning each, over shared reads and writes of the program
state. An instruction takes effect where the engine runs a program and the word at its program counter is that instruction's. -/

namespace Sys2Proof.Machine

/-- The word of an instruction (R217). -/
def scanWord (op : Nat) (d a : BitVec 6) (b : BitVec 14) : Word := BitVec.ofNat 6 op ++ d ++ a ++ b

/-! ### The program state -/

/-- The next instruction's place: the prefix has served (R217). -/
def State.goto (s : State) (pc : Nat) : State := s.setScn fun x => { x with pc := pc, pfx := none }
def State.next (s : State) : State := s.goto (s.scn.pc + 1)

/-- Register Wn (R218). -/
def State.wreg (s : State) (n : BitVec 6) : Word := Sparse.at 0 s.scn.w n.toNat
def State.setW (s : State) (n : BitVec 6) (v : Word) : State := s.setScn fun x => { x with w := Sparse.put 0 x.w n.toNat v }
def State.setBA (s : State) (v : Bool) : State := s.setScn fun x => { x with ba := v }
def State.setFS (s : State) (f sf : Bool) : State := s.setScn fun x => { x with f := f, sf := sf }

/-- The payload of the prefix before this instruction, 0 without one (R217). -/
def State.pfxVal (s : State) : Nat := (s.scn.pfx.getD 0).toNat

/-- An index register's value: A = 0 means none (R217). -/
def State.index (s : State) (a : BitVec 6) : Nat := if a = 0 then 0 else (s.wreg a).toNat

/-- The effective word address (R217). -/
def State.effAdr (s : State) (a : BitVec 6) (b : BitVec 14) : Nat := (s.pfxVal * 16384 + b.toNat + s.index a) % 16777216

/-- The local word addressed by LDL and STL (R217, R219). -/
def State.localAdr (s : State) (a : BitVec 6) (b : BitVec 14) : Nat := (s.pfxVal % 2 * 16384 + b.toNat + s.index a) % 32768

/-- Operand B′ of an integer instruction (R217). -/
def State.opB (s : State) (b : BitVec 14) : Word := if b.msb then (b.setWidth 13).signExtend 32 else s.wreg (b.setWidth 6)

/-- Operand B′ of a float instruction (R217). -/
def State.opBf (s : State) (b : BitVec 14) : Word := if b.msb then fofInt (b.setWidth 13).toInt else s.wreg (b.setWidth 6)

/-- Is B malformed as an operand: a register form with B[12:6] not 0 (R217, R222)? -/
def badB (b : BitVec 14) : Bool := !b.msb && decide (64 ≤ b.toNat)

/-- OVF sets (R218, R220). -/
def State.setOvf (s : State) (o : Bool) : State := if o then s.putB .SCN_STAT_OVF true else s

/-- The word's own fault ends the cycle (R222), with the word's address as DETAIL. -/
def State.badOpcode (s : State) : State := s.endCycle 2 s.scn.pc
def State.badStack (s : State) : State := s.endCycle 3 s.scn.pc
def State.codeEnd (s : State) : State := s.endCycle 4 s.scn.pc

/-- A jump, beyond the last word of code the end of the cycle (R222). -/
def State.jump (s : State) (pc : Nat) : State := if s.scn.code.length ≤ pc then s.codeEnd else s.goto pc

/-! ### The image -/

/-- An unlatched item was read: the sticky bit, and one E1 in a cycle (R221). -/
def State.unlatched (s : State) (item : Nat) : State :=
  let t := s.putB .SCN_STAT_UNLATCHED true
  if s.scn.unlatchedRaised then t else (t.setScn fun x => { x with unlatchedRaised := true }).raise 1 0x0D 0 6 item

/-- The agreed value of a latched item, if the latch list holds it (R221). -/
def State.latched (s : State) (src adr : Nat) : Option Latched :=
  match s.scn.latchList.findIdx? fun e => e.src == src && e.adr == adr with
  | some i => some (s.scn.agreed.getD i {})
  | none => none

/-- The program's view of an output word: the last voted value with the stores of this cycle (R215). -/
def State.viewWord (s : State) (w : Nat) : Word := (Sparse.at none s.scn.stores w).getD (Sparse.at 0 s.scn.voted w)

/-- A load of an image word: value, with F and S (R221). The latch list entry of the shed level's run gives the agreed level (R270). -/
def State.loadWord (s : State) (w : Nat) : State × Word :=
  let fs := s.scn.forces
  if w = levelWord then
    match s.latched 0 w with
    | some _ => (s.setFS false false, w32 (s.fld .PMS_LEVEL_AGREED))
    | none => ((s.unlatched w).setFS false false, 0)
  else if w < 0x40000 then
    match s.latched 0 w with
    | some l => (s.setFS (forced fs w) l.sub, applyForces fs w l.lo)
    | none => ((s.unlatched w).setFS false false, 0)
  else if w < 0x80000 then (s.setFS (forced fs w) false, applyForces fs w (s.viewWord w))
  else (s.setFS false false, s.reqRead w)

/-- A loaded image bit, inverted if D[5] (R219). -/
def imageBit (d : BitVec 6) (v : Word) : Bool := v.getLsbD (d.toNat % 32) != d.msb

/-- A store outside the output region is discarded (R216). -/
def State.badStore (s : State) (w : Nat) : State := (s.refuse 0x0D 0x65 w).raise 1 0x0D 0 5 w

/-- Is a word one of the output region (R216)? -/
def inOutput (w : Nat) : Bool := decide (0x40000 ≤ w) && decide (w < 0x80000)

/-- A stored word: the output region and the program's view of it (R215, R216). -/
def State.storeImage (s : State) (w : Nat) (v : Word) : State :=
  if inOutput w then (s.reqWrite 5 w v).setScn fun x => { x with stores := Sparse.put none x.stores w (some v) } else s.badStore w

/-- A word with one bit set to a value. -/
def withBit (v : Word) (k : Nat) (b : Bool) : Word := if b then v ||| (1#32 <<< k) else v &&& ~~~(1#32 <<< k)

/-- A stored bit: the other bits of the word stay, in the region and in the view (R216, R219). -/
def State.storeBit (s : State) (w k : Nat) (b : Bool) : State :=
  if inOutput w then
    (s.reqWrite 5 w (withBit (s.word w) k b)).setScn fun x =>
      { x with stores := Sparse.put none x.stores w (some (withBit (s.viewWord w) k b)) }
  else s.badStore w

/-- A load that forms BA (R219). -/
def State.loadBit (s : State) (d a : BitVec 6) (b : BitVec 14) (f : Bool → Bool → Bool) : State :=
  let r := s.loadWord (s.effAdr a b)
  (r.1.setBA (f s.scn.ba (imageBit d r.2))).next

/-- An agreed item other than an input word; 0 and UNLATCHED where the latch list lacks it (R221). -/
def State.readItem (s : State) (d : BitVec 6) (src adr : Nat) (f : Latched → Word) : State :=
  match s.latched src adr with
  | some l => (s.setW d (f l)).next
  | none => ((s.unlatched adr).setW d 0).next

/-! ### Arithmetic -/

/-- An instruction whose result goes to WD from WA and B′. -/
def State.binOp (s : State) (d a : BitVec 6) (b : BitVec 14) (f : Word → Word → Word) : State :=
  if badB b then s.badOpcode else (s.setW d (f (s.wreg a) (s.opB b))).next

/-- The same for a float instruction. -/
def State.floatOp (s : State) (d a : BitVec 6) (b : BitVec 14) (f : Word → Word → Word) : State :=
  if badB b then s.badOpcode else (s.setW d (f (s.wreg a) (s.opBf b))).next

/-- An integer result with saturation at the int32 limits (R220). -/
def satWord (i : Int) : Word × Bool :=
  if i < -2147483648 then (0x80000000, true) else if 2147483647 < i then (0x7FFFFFFF, true) else (BitVec.ofInt 32 i, false)

/-- DIV (R220): truncating; by 0 the limit of the dividend's sign, 0 for 0 / 0. -/
def divWord (x y : Word) : Word × Bool :=
  if y = 0 then (if x = 0 then 0 else if x.msb then 0x80000000 else 0x7FFFFFFF, true)
  else satWord (x.toInt.tdiv y.toInt)

/-- A saturating integer instruction. -/
def State.satOp (s : State) (d a : BitVec 6) (b : BitVec 14) (f : Word → Word → Word × Bool) : State :=
  if badB b then s.badOpcode
  else
    let r := f (s.wreg a) (s.opB b)
    ((s.setW d r.1).setOvf r.2).next

/-- Does a comparison hold: 0 EQ, 1 NE, 2 LT, 3 LE, 4 GT, 5 GE, from the equality and order of the operands (R219)? -/
def condHolds (cond : Nat) (eq lt gt : Bool) : Bool :=
  match cond with
  | 0 => eq
  | 1 => !eq
  | 2 => lt
  | 3 => lt || eq
  | 4 => gt
  | 5 => gt || eq
  | _ => false

/-- FCVT to an integer: to nearest with ties to even, saturating; NaN gives 0 (R219). -/
def floatToInt (w : Word) : Word × Bool :=
  if fisNan w then (0, true)
  else match fmt32.toInt 0 w.toNat with
    | some i => satWord i
    | none => (if w.msb then 0x80000000 else 0x7FFFFFFF, true)

/-! ### Timers and counters (R223) -/

/-- Elapsed ms of a timer at the agreed time t. -/
def Timer.elapsed (x : Timer) (preset t : Nat) : Nat := min preset ((t - x.start) / 4)

/-- A TMR instruction on its timer. -/
def Timer.step (x0 : Timer) (mode : Nat) (reset : Bool) (preset t : Nat) (ba : Bool) : Timer :=
  let x := if reset then { x0 with on := false, et := 0, q := false } else x0
  let y : Timer := match mode with
    | 0 =>
      if ba then
        let z := if x.on then x else { x with on := true, start := t }
        { z with et := z.elapsed preset t, q := decide (z.elapsed preset t = preset) }
      else { x with on := false, et := 0, q := false }
    | 1 =>
      if ba then { x with on := false, et := 0, q := true }
      else if x.q then
        let z := if x.on then x else { x with on := true, start := t }
        let done := decide (z.elapsed preset t = preset)
        { z with et := z.elapsed preset t, q := !done, on := !done }
      else x
    | _ =>
      let z := if ba && !x.edge && !x.q then { x with on := true, start := t, et := 0, q := true } else x
      if z.on then
        let done := decide (z.elapsed preset t = preset)
        { z with et := z.elapsed preset t, q := !done, on := !done }
      else z
  { y with edge := ba }

/-- A CTR instruction on its counter, with its Q. -/
def Counter.step (x : Counter) (mode : Nat) (op : Word) (ba : Bool) : Counter × Bool :=
  let rise := ba && !x.edge
  match mode with
  | 0 => let cv := if rise then (satWord (x.cv.toInt + 1)).1 else x.cv
         (⟨cv, ba⟩, op.sle cv)
  | 1 => let cv := if rise then (satWord (x.cv.toInt - 1)).1 else x.cv
         (⟨cv, ba⟩, cv.sle 0)
  | 2 => (⟨0, ba⟩, false)
  | _ => (⟨op, ba⟩, false)

def State.setMem (s : State) (f : ScanMem → ScanMem) : State := s.setScn fun x => { x with mem := f x.mem }

/-! ### Meanings: bits and the image -/

/-- An instruction in its place: the engine runs a program, and the word at the program counter is this one (R217). A passing
comparison clears the lockstep test's failure bit (R208). -/
def State.atWord (s : State) (op : Nat) (d a : BitVec 6) (b : BitVec 14) : Bool :=
  s.inProgram && s.scn.code[s.scn.pc]? == some (scanWord op d a b)

def scanOp (op : Nat) (d a : BitVec 6) (b : BitVec 14) (s : State) (f : State → State) : Host.Outcome State Fault Refusal :=
  coreAct s fun s => if s.atWord op d a b then
    f (if s.flag .WIR_ST_STAT_LOCKSTEP_FAIL then s.putB .WIR_ST_STAT_LOCKSTEP_FAIL false else s) else s

def State.opNop (s : State) : State := s.next
def State.opLdb (s : State) (d a : BitVec 6) (b : BitVec 14) : State := s.loadBit d a b fun _ x => x
def State.opAndb (s : State) (d a : BitVec 6) (b : BitVec 14) : State := s.loadBit d a b and
def State.opOrb (s : State) (d a : BitVec 6) (b : BitVec 14) : State := s.loadBit d a b or
def State.opXorb (s : State) (d a : BitVec 6) (b : BitVec 14) : State := s.loadBit d a b xor
def State.opStb (s : State) (d a : BitVec 6) (b : BitVec 14) : State :=
  (s.storeBit (s.effAdr a b) (d.toNat % 32) s.scn.ba).next
def State.opSrb (s : State) (d a : BitVec 6) (b : BitVec 14) : State :=
  (if s.scn.ba then s.storeBit (s.effAdr a b) (d.toNat % 32) (!d.msb) else s).next
def State.opTstw (s : State) (a : BitVec 6) (b : BitVec 14) : State := (s.setBA ((s.wreg a).getLsbD (b.toNat % 32))).next
def State.opPutb (s : State) (d : BitVec 6) (b : BitVec 14) : State :=
  (s.setW d (withBit (s.wreg d) (b.toNat % 32) s.scn.ba)).next
def State.opNotb (s : State) : State := (s.setBA (!s.scn.ba)).next
def State.opEdge (s : State) (d : BitVec 6) (b : BitVec 14) : State :=
  let n := b.toNat % 1024
  let e := Sparse.at false s.scn.mem.edges n
  let ba := s.scn.ba
  ((s.setMem fun m => { m with edges := Sparse.put false m.edges n ba }).setBA (if d.getLsbD 0 then !ba && e else ba && !e)).next
def State.opLdw (s : State) (d a : BitVec 6) (b : BitVec 14) : State :=
  let r := s.loadWord (s.effAdr a b)
  (r.1.setW d r.2).next
def State.opStw (s : State) (d a : BitVec 6) (b : BitVec 14) : State := (s.storeImage (s.effAdr a b) (s.wreg d)).next
def State.opLdl (s : State) (d a : BitVec 6) (b : BitVec 14) : State :=
  (s.setW d (Sparse.at 0 s.scn.mem.locals (s.localAdr a b))).next
def State.opStl (s : State) (d a : BitVec 6) (b : BitVec 14) : State :=
  (s.setMem fun m => { m with locals := Sparse.put 0 m.locals (s.localAdr a b) (s.wreg d) }).next

/-! ### Meanings: words -/

/-- The immediate of LDI (R217, R219). -/
def State.immed (s : State) (b : BitVec 14) : Word :=
  match s.scn.pfx with
  | some p => (p ++ b : BitVec 24).signExtend 32
  | none => b.signExtend 32

def State.opLdi (s : State) (d : BitVec 6) (b : BitVec 14) : State := (s.setW d (s.immed b)).next
def State.opLdhi (s : State) (d a : BitVec 6) (b : BitVec 14) : State :=
  if 16 ≤ a.toNat then s.badOpcode else (s.setW d ((a.setWidth 4 ++ b ++ (s.wreg d).setWidth 14 : BitVec 32))).next
def State.opSel (s : State) (d a : BitVec 6) (b : BitVec 14) : State := s.binOp d a b fun x y => if s.scn.ba then x else y
def State.opAnd (s : State) (d a : BitVec 6) (b : BitVec 14) : State := s.binOp d a b fun x y => x &&& y
def State.opOr (s : State) (d a : BitVec 6) (b : BitVec 14) : State := s.binOp d a b fun x y => x ||| y
def State.opXor (s : State) (d a : BitVec 6) (b : BitVec 14) : State := s.binOp d a b fun x y => x ^^^ y
def State.opShl (s : State) (d a : BitVec 6) (b : BitVec 14) : State := s.binOp d a b fun x y => x <<< (y.toNat % 32)
def State.opShr (s : State) (d a : BitVec 6) (b : BitVec 14) : State := s.binOp d a b fun x y => x >>> (y.toNat % 32)
def State.opSar (s : State) (d a : BitVec 6) (b : BitVec 14) : State := s.binOp d a b fun x y => x.sshiftRight (y.toNat % 32)
def State.opAdd (s : State) (d a : BitVec 6) (b : BitVec 14) : State := s.satOp d a b fun x y => satWord (x.toInt + y.toInt)
def State.opSub (s : State) (d a : BitVec 6) (b : BitVec 14) : State := s.satOp d a b fun x y => satWord (x.toInt - y.toInt)
def State.opMul (s : State) (d a : BitVec 6) (b : BitVec 14) : State := s.satOp d a b fun x y => satWord (x.toInt * y.toInt)
def State.opDiv (s : State) (d a : BitVec 6) (b : BitVec 14) : State := s.satOp d a b divWord
def State.opCmp (s : State) (d a : BitVec 6) (b : BitVec 14) : State :=
  if badB b then s.badOpcode
  else
    let x := s.wreg a
    let y := s.opB b
    (s.setBA (condHolds (d.toNat % 8) (x == y) (x.slt y) (y.slt x))).next
def State.opFadd (s : State) (d a : BitVec 6) (b : BitVec 14) : State := s.floatOp d a b fadd
def State.opFsub (s : State) (d a : BitVec 6) (b : BitVec 14) : State := s.floatOp d a b fsub
def State.opFmul (s : State) (d a : BitVec 6) (b : BitVec 14) : State := s.floatOp d a b fmul
def State.opFdiv (s : State) (d a : BitVec 6) (b : BitVec 14) : State := s.floatOp d a b fdiv
def State.opFcvt (s : State) (d a : BitVec 6) (b : BitVec 14) : State :=
  if b.getLsbD 0 then
    let r := floatToInt (s.wreg a)
    ((s.setW d r.1).setOvf r.2).next
  else (s.setW d (fofInt (s.wreg a).toInt)).next
def State.opFlim (s : State) (d a : BitVec 6) (b : BitVec 14) : State :=
  s.floatOp d a b fun x y => fmin (fmax (s.wreg d) x) y
def State.opFcmp (s : State) (d a : BitVec 6) (b : BitVec 14) : State :=
  if badB b then s.badOpcode
  else
    let x := s.wreg a
    let y := s.opBf b
    (s.setBA (condHolds (d.toNat % 8) (feq x y) (flt x y) (flt y x))).next

/-! ### Meanings: control -/

/-- Does a jump's condition hold (R219)? -/
def State.jumpCond (s : State) (c : Nat) : Bool :=
  match c with
  | 0 => true
  | 1 => s.scn.ba
  | 2 => !s.scn.ba
  | 3 => s.scn.f
  | 4 => s.scn.sf
  | 5 => s.flag .SCN_STAT_OVF
  | _ => false

def State.opJmp (s : State) (d : BitVec 6) (b : BitVec 14) : State :=
  if s.jumpCond (d.toNat % 8) then s.jump (s.scn.pc + 1 + b.toNat) else s.next
def State.opLpb (s : State) (a : BitVec 6) (b : BitVec 14) : State :=
  if 4 ≤ s.scn.loops.length then s.badStack
  else
    let n := max 1 (if a = 0 then b.toNat else min (s.wreg a).toNat 65535)
    (s.setScn fun x => { x with loops := (n, x.pc + 1) :: x.loops }).next
def State.opLpe (s : State) : State :=
  match s.scn.loops with
  | [] => s.badStack
  | (n, p) :: r => if 1 < n then (s.setScn fun x => { x with loops := (n - 1, p) :: r }).goto p
      else (s.setScn fun x => { x with loops := r }).next
def State.opCall (s : State) (b : BitVec 14) : State :=
  let p := s.pfxVal % 4 * 16384 + b.toNat
  if 8 ≤ s.scn.calls.length then s.badStack
  else if s.scn.code.length ≤ p then s.codeEnd
  else (s.setScn fun x => { x with calls := (x.pc + 1) :: x.calls }).goto p
def State.opRet (s : State) : State :=
  match s.scn.calls with
  | [] => s.badStack
  | p :: r => (s.setScn fun x => { x with calls := r }).goto p

/-! ### Meanings: timers, counters, agreed items -/

def State.opTmr (s : State) (d a : BitVec 6) (b : BitVec 14) : State :=
  let n := b.toNat % 1024
  if d.toNat % 4 = 3 then s.badOpcode
  else
    let x := (Sparse.at {} s.scn.mem.timers n).step (d.toNat % 4) (d.getLsbD 2) (s.wreg a).toNat s.cycleTime s.scn.ba
    ((s.setMem fun m => { m with timers := Sparse.put {} m.timers n x }).setBA x.q).next
def State.opCtr (s : State) (d a : BitVec 6) (b : BitVec 14) : State :=
  let n := b.toNat % 1024
  let r := (Sparse.at {} s.scn.mem.counters n).step (d.toNat % 4) (s.wreg a) s.scn.ba
  ((s.setMem fun m => { m with counters := Sparse.put {} m.counters n r.1 }).setBA r.2).next
def State.opTcrd (s : State) (d a : BitVec 6) (b : BitVec 14) : State :=
  let n := b.toNat % 1024
  (s.setW d (if a.getLsbD 0 then (Sparse.at {} s.scn.mem.counters n).cv else w32 (Sparse.at {} s.scn.mem.timers n).et)).next
def State.opRdl (s : State) (d a : BitVec 6) (b : BitVec 14) : State :=
  let item := a.toNat % 8
  if 6 ≤ item then s.badOpcode else s.readItem d 1 (b.toNat % 512 * 8 + item) fun l => l.lo
def State.opRds (s : State) (d a : BitVec 6) (b : BitVec 14) : State :=
  s.readItem d 2 (a.toNat % 4 * 32 + b.toNat % 32) fun l => l.lo
def State.opRdq (s : State) (d a : BitVec 6) (b : BitVec 14) : State :=
  let acc := b.toNat % 256
  if a.toNat % 4 = 3 then s.badOpcode
  else s.readItem d 3 acc fun l => match a.toNat % 4 with
    | 0 => l.lo
    | 1 => l.hi
    | _ => accEng (l.hi ++ l.lo) (s.accU acc)
def State.opRaise (s : State) (d a : BitVec 6) (b : BitVec 14) : State :=
  if d.toNat % 4 = 3 then s.badOpcode
  else ((s.condition (b.toNat % 4096) (d.toNat % 4) 0xFF 0x0D0000 (s.wreg a).toNat).dropCheck).next

/-! ### Meanings: groups and the error task -/

def State.opSelect (s : State) (b : BitVec 14) : State :=
  (((s.putB .SCN_GRP_VALID true).put .SCN_GRP_GROUP (b.toNat % 16)).setBA true).next
def State.opOpen (s : State) (d3 : BitVec 3) (a : BitVec 6) (b : BitVec 14) : State :=
  let g := b.toNat % 16
  let kind := d3.toNat
  if kind = 5 ∧ a = 63 then s.badOpcode
  else
    let r := s.openGroup g 0x0D
    if !r.2 then (r.1.setBA false).next
    else
      let t := r.1.put (.TXN_GRP_CFG_KIND g) kind
      let u := if kind = 3 then t.put (.TXN_GRP_CFG_SLOT g) ((s.wreg a).toNat % 512)
        else if kind = 5 then t.put64 (0x8100 + 8 * g) (0x8104 + 8 * g) ((s.wreg a).toNat + 4294967296 * (s.wreg (a + 1)).toNat)
        else t
      (u.setBA true).next
def State.opArm (s : State) (b : BitVec 14) : State :=
  let r := s.armGroup (b.toNat % 16) 0x0D
  (r.1.setBA r.2).next
def State.opAbort (s : State) (b : BitVec 14) : State := ((s.abortCmd (b.toNat % 16)).setBA true).next

/-- A staging instruction (R224): with no group selected it is refused (R73, code 0x10). -/
def State.scanStage (s : State) (t : Target) (v : Word) : State × Bool :=
  if s.flag .SCN_GRP_VALID then s.stage (s.fld .SCN_GRP_GROUP) t v false 0x0D
  else (s.refuse 0x0D 0x10 t.adr, false)
def State.opStg (s : State) (d a : BitVec 6) (b : BitVec 14) : State :=
  let r := s.scanStage ⟨true, s.effAdr a b⟩ (s.wreg d)
  (r.1.setBA r.2).next
def State.opRstg (s : State) (d : BitVec 6) (b : BitVec 14) : State :=
  let adr := (s.pfxVal % 4 * 16384 + b.toNat) * 4
  if hasAcc .rws adr ∧ !s.domainOff (pageDomain (adr / 0x1000)) then
    let r := s.scanStage ⟨false, adr⟩ (s.wreg d)
    (r.1.setBA r.2).next
  else (s.setBA false).next

/-- A field of the event being served (R219, ERD). -/
def Event.word (e : Event) (field : Nat) : Word :=
  match field with
  | 0 => w32 (b2n e.esc * 2147483648 + e.cls * 16777216 + e.src)
  | 1 => w32 (e.cause * 16777216 + e.detail)
  | 2 => w32 e.time
  | _ => w32 (e.time / 4294967296)
def State.opErd (s : State) (d a : BitVec 6) : State :=
  match s.scn.serving with
  | some e => (s.setW d (e.word (a.toNat % 4))).next
  | none => (s.usedFree.setW d (s.freeVal.setWidth 32)).next

/-- The call in progress returns: its event's handling completes, and phase 2 goes on (R95, R225). -/
def State.opEret (s : State) : State :=
  match s.scn.serving with
  | none => s.badOpcode
  | some e =>
    let t := ((s.putB .SCN_STAT_ERRTASK false).bump .SCN_ERRTASK_CALLS).setScn fun x => { x with serving := none, pfx := none }
    (if t.slot e.cls = some e then t.completeClass e.cls else t).phase2

def State.opPfx (s : State) (p : BitVec 10) : State :=
  s.setScn fun x => { x with pc := x.pc + 1, pfx := some p }

/-! ### Every word -/

/-- Is a word malformed (R222), whatever the state? -/
def badWord (w : Word) : Bool :=
  let op := bitsOf w.toNat 31 26
  let d := bitsOf w.toNat 25 20
  let a := bitsOf w.toNat 19 14
  let usesB := (0x11 ≤ op && op ≤ 0x1E) || op == 0x20 || op == 0x21 || op == 0x33 || op == 0x34
  (0x35 ≤ op && op ≤ 0x3E) || (op == 0x3F && bitsOf w.toNat 25 10 != 0) || (usesB && badB (w.setWidth 14)) ||
    (op == 0x10 && 16 ≤ a) || (op == 0x2E && (4 ≤ d % 8 || (d % 8 == 1 && d / 8 == 5 && a == 63))) ||
    (op == 0x2A && 6 ≤ a % 8) || (op == 0x2C && a % 4 == 3) || ((op == 0x2D || op == 0x27) && d % 4 == 3)

/-- The effect of the instruction a word spells, where it is no store, no staging and no transfer (R219). -/
def State.plainEffect (s : State) (w : Word) : State :=
  let d : BitVec 6 := (w >>> 20).setWidth 6
  let a : BitVec 6 := (w >>> 14).setWidth 6
  let b : BitVec 14 := w.setWidth 14
  match bitsOf w.toNat 31 26 with
  | 0x01 => s.opLdb d a b
  | 0x02 => s.opAndb d a b
  | 0x03 => s.opOrb d a b
  | 0x04 => s.opXorb d a b
  | 0x0A => s.opEdge d b
  | 0x0B => s.opLdw d a b
  | 0x16 => s.opAdd d a b
  | 0x17 => s.opSub d a b
  | 0x18 => s.opMul d a b
  | 0x19 => s.opDiv d a b
  | 0x1F => s.opFcvt d a b
  | 0x27 => s.opTmr d a b
  | 0x28 => s.opCtr d a b
  | 0x2A => s.opRdl d a b
  | 0x2B => s.opRds d a b
  | 0x2C => s.opRdq d a b
  | 0x2D => s.opRaise d a b
  | 0x3F => s.opPfx (w.setWidth 10)
  | _ => s.next

/-- Does a word's instruction write WD? -/
def writesW (op : Nat) : Bool :=
  op == 0x08 || op == 0x0B || op == 0x0D || (0x0F ≤ op && op ≤ 0x19) || (0x1B ≤ op && op ≤ 0x20) || (0x29 ≤ op && op ≤ 0x2C) ||
    op == 0x31 || op == 0x33 || op == 0x34

/-- Does it write BA? -/
def writesBA (op : Nat) : Bool :=
  (1 ≤ op && op ≤ 4) || op == 0x07 || op == 0x09 || op == 0x0A || op == 0x1A || op == 0x21 || op == 0x27 || op == 0x28 ||
    (0x2E ≤ op && op ≤ 0x30)

/-- Does it set the program counter? -/
def transfers (op : Nat) : Bool := (0x22 ≤ op && op ≤ 0x26) || op == 0x32

/-- What a differing instruction leaves (R208): no store and no staged write takes effect, and the results the cores differ in,
of which the spec does not say which core's stands, are free: WD, BA, the program counter of a transfer. -/
def State.differs (s : State) (w : Word) : State :=
  let op := bitsOf w.toNat 31 26
  let t := s.plainEffect w
  let t1 := if writesW op then (t.setW ((w >>> 20).setWidth 6) (t.freeVal.setWidth 32)).usedFree else t
  let t2 := if writesBA op then (t1.setBA (t1.freeVal.getLsbD 0)).usedFree else t1
  if transfers op then (t2.goto (t2.freeVal.toNat % (s.scn.code.length + 1))).usedFree else t2

/-- LOCKSTEP_MISMATCH (R208): at the instruction in its place. -/
def execLockstepMismatch (s : State) : Host.Outcome State Fault Refusal :=
  coreAct s fun s =>
    match if s.inProgram then s.scn.code[s.scn.pc]? else none with
    | none => s
    | some w => ((s.differs w).putB .WIR_ST_STAT_LOCKSTEP_FAIL true).raise 3 0x0D 0 7 s.scn.pc

/-- RESERVED_OPCODE (R222): a reserved opcode or a malformed instruction at its place; ERET outside the error task is one. -/
def execReservedOpcode (word : Word) (s : State) : Host.Outcome State Fault Refusal :=
  coreAct s fun s =>
    if s.inProgram ∧ s.scn.code[s.scn.pc]? = some word ∧
        (badWord word = true ∨ (bitsOf word.toNat 31 26 = 0x32 ∧ s.scn.serving.isNone = true)) then s.badOpcode else s

/-- STACK_FAULT (R222): the instruction at its place overflows or underflows a stack. -/
def execStackFault (s : State) : Host.Outcome State Fault Refusal :=
  coreAct s fun s =>
    match if s.inProgram then s.scn.code[s.scn.pc]? else none with
    | none => s
    | some w =>
      let full : Bool := match bitsOf w.toNat 31 26 with
        | 0x23 => decide (4 ≤ s.scn.loops.length)
        | 0x24 => s.scn.loops.isEmpty
        | 0x25 => decide (8 ≤ s.scn.calls.length)
        | 0x26 => s.scn.calls.isEmpty
        | _ => false
      if full then s.badStack else s

/-- CODE_END (R222): execution beyond the last code word, or a jump or call at its place that leads there. -/
def execCodeEnd (s : State) : Host.Outcome State Fault Refusal :=
  coreAct s fun s =>
    if !s.inProgram then s
    else match s.scn.code[s.scn.pc]? with
      | none => s.codeEnd
      | some w =>
        let d := bitsOf w.toNat 25 20
        let b := bitsOf w.toNat 13 0
        let len := s.scn.code.length
        let beyond : Bool := match bitsOf w.toNat 31 26 with
          | 0x22 => s.jumpCond (d % 8) && decide (len ≤ s.scn.pc + 1 + b)
          | 0x25 => decide (s.scn.calls.length < 8) && decide (len ≤ s.pfxVal % 4 * 16384 + b)
          | _ => false
        if beyond then s.codeEnd else s

/-! ### The commands -/

/-- NOP (R219). -/
def execNop (d a : BitVec 6) (b : BitVec 14) (s : State) : Host.Outcome State Fault Refusal :=
  scanOp 0x00 d a b s fun s => s.opNop

/-- LDB (R219). -/
def execLdb (d a : BitVec 6) (b : BitVec 14) (s : State) : Host.Outcome State Fault Refusal :=
  scanOp 0x01 d a b s fun s => s.opLdb d a b

/-- ANDB (R219). -/
def execAndb (d a : BitVec 6) (b : BitVec 14) (s : State) : Host.Outcome State Fault Refusal :=
  scanOp 0x02 d a b s fun s => s.opAndb d a b

/-- ORB (R219). -/
def execOrb (d a : BitVec 6) (b : BitVec 14) (s : State) : Host.Outcome State Fault Refusal :=
  scanOp 0x03 d a b s fun s => s.opOrb d a b

/-- XORB (R219). -/
def execXorb (d a : BitVec 6) (b : BitVec 14) (s : State) : Host.Outcome State Fault Refusal :=
  scanOp 0x04 d a b s fun s => s.opXorb d a b

/-- STB (R219). -/
def execStb (d a : BitVec 6) (b : BitVec 14) (s : State) : Host.Outcome State Fault Refusal :=
  scanOp 0x05 d a b s fun s => s.opStb d a b

/-- SRB (R219). -/
def execSrb (d a : BitVec 6) (b : BitVec 14) (s : State) : Host.Outcome State Fault Refusal :=
  scanOp 0x06 d a b s fun s => s.opSrb d a b

/-- TSTW (R219). -/
def execTstw (d a : BitVec 6) (b : BitVec 14) (s : State) : Host.Outcome State Fault Refusal :=
  scanOp 0x07 d a b s fun s => s.opTstw a b

/-- PUTB (R219). -/
def execPutb (d a : BitVec 6) (b : BitVec 14) (s : State) : Host.Outcome State Fault Refusal :=
  scanOp 0x08 d a b s fun s => s.opPutb d b

/-- NOTB (R219). -/
def execNotb (d a : BitVec 6) (b : BitVec 14) (s : State) : Host.Outcome State Fault Refusal :=
  scanOp 0x09 d a b s fun s => s.opNotb

/-- EDGE (R219). -/
def execEdge (d a : BitVec 6) (b : BitVec 14) (s : State) : Host.Outcome State Fault Refusal :=
  scanOp 0x0A d a b s fun s => s.opEdge d b

/-- LDW (R219, R221). -/
def execLdw (d a : BitVec 6) (b : BitVec 14) (s : State) : Host.Outcome State Fault Refusal :=
  scanOp 0x0B d a b s fun s => s.opLdw d a b

/-- STW (R219, R216). -/
def execStw (d a : BitVec 6) (b : BitVec 14) (s : State) : Host.Outcome State Fault Refusal :=
  scanOp 0x0C d a b s fun s => s.opStw d a b

/-- LDL (R219). -/
def execLdl (d a : BitVec 6) (b : BitVec 14) (s : State) : Host.Outcome State Fault Refusal :=
  scanOp 0x0D d a b s fun s => s.opLdl d a b

/-- STL (R219). -/
def execStl (d a : BitVec 6) (b : BitVec 14) (s : State) : Host.Outcome State Fault Refusal :=
  scanOp 0x0E d a b s fun s => s.opStl d a b

/-- LDI (R219). -/
def execLdi (d a : BitVec 6) (b : BitVec 14) (s : State) : Host.Outcome State Fault Refusal :=
  scanOp 0x0F d a b s fun s => s.opLdi d b

/-- LDHI (R219). -/
def execLdhi (d a : BitVec 6) (b : BitVec 14) (s : State) : Host.Outcome State Fault Refusal :=
  scanOp 0x10 d a b s fun s => s.opLdhi d a b

/-- SEL (R219). -/
def execSel (d a : BitVec 6) (b : BitVec 14) (s : State) : Host.Outcome State Fault Refusal :=
  scanOp 0x11 d a b s fun s => s.opSel d a b

/-- AND (R219). -/
def execAnd (d a : BitVec 6) (b : BitVec 14) (s : State) : Host.Outcome State Fault Refusal :=
  scanOp 0x12 d a b s fun s => s.opAnd d a b

/-- OR (R219). -/
def execOr (d a : BitVec 6) (b : BitVec 14) (s : State) : Host.Outcome State Fault Refusal :=
  scanOp 0x13 d a b s fun s => s.opOr d a b

/-- XOR (R219). -/
def execXor (d a : BitVec 6) (b : BitVec 14) (s : State) : Host.Outcome State Fault Refusal :=
  scanOp 0x14 d a b s fun s => s.opXor d a b

/-- SHL (R219). -/
def execShl (d a : BitVec 6) (b : BitVec 14) (s : State) : Host.Outcome State Fault Refusal :=
  scanOp 0x15 d a b s fun s => s.opShl d a b

/-- SHR (R219). -/
def execShr (d a : BitVec 6) (b : BitVec 14) (s : State) : Host.Outcome State Fault Refusal :=
  scanOp 0x33 d a b s fun s => s.opShr d a b

/-- SAR (R219). -/
def execSar (d a : BitVec 6) (b : BitVec 14) (s : State) : Host.Outcome State Fault Refusal :=
  scanOp 0x34 d a b s fun s => s.opSar d a b

/-- ADD (R219, R220). -/
def execAdd (d a : BitVec 6) (b : BitVec 14) (s : State) : Host.Outcome State Fault Refusal :=
  scanOp 0x16 d a b s fun s => s.opAdd d a b

/-- SUB (R219, R220). -/
def execSub (d a : BitVec 6) (b : BitVec 14) (s : State) : Host.Outcome State Fault Refusal :=
  scanOp 0x17 d a b s fun s => s.opSub d a b

/-- MUL (R219, R220). -/
def execMul (d a : BitVec 6) (b : BitVec 14) (s : State) : Host.Outcome State Fault Refusal :=
  scanOp 0x18 d a b s fun s => s.opMul d a b

/-- DIV (R219, R220). -/
def execDiv (d a : BitVec 6) (b : BitVec 14) (s : State) : Host.Outcome State Fault Refusal :=
  scanOp 0x19 d a b s fun s => s.opDiv d a b

/-- CMP (R219). -/
def execCmp (d a : BitVec 6) (b : BitVec 14) (s : State) : Host.Outcome State Fault Refusal :=
  scanOp 0x1A d a b s fun s => s.opCmp d a b

/-- FADD (R219, R220). -/
def execFadd (d a : BitVec 6) (b : BitVec 14) (s : State) : Host.Outcome State Fault Refusal :=
  scanOp 0x1B d a b s fun s => s.opFadd d a b

/-- FSUB (R219, R220). -/
def execFsub (d a : BitVec 6) (b : BitVec 14) (s : State) : Host.Outcome State Fault Refusal :=
  scanOp 0x1C d a b s fun s => s.opFsub d a b

/-- FMUL (R219, R220). -/
def execFmul (d a : BitVec 6) (b : BitVec 14) (s : State) : Host.Outcome State Fault Refusal :=
  scanOp 0x1D d a b s fun s => s.opFmul d a b

/-- FDIV (R219, R220). -/
def execFdiv (d a : BitVec 6) (b : BitVec 14) (s : State) : Host.Outcome State Fault Refusal :=
  scanOp 0x1E d a b s fun s => s.opFdiv d a b

/-- FCVT (R219). -/
def execFcvt (d a : BitVec 6) (b : BitVec 14) (s : State) : Host.Outcome State Fault Refusal :=
  scanOp 0x1F d a b s fun s => s.opFcvt d a b

/-- FLIM (R219, R220). -/
def execFlim (d a : BitVec 6) (b : BitVec 14) (s : State) : Host.Outcome State Fault Refusal :=
  scanOp 0x20 d a b s fun s => s.opFlim d a b

/-- FCMP (R219). -/
def execFcmp (d a : BitVec 6) (b : BitVec 14) (s : State) : Host.Outcome State Fault Refusal :=
  scanOp 0x21 d a b s fun s => s.opFcmp d a b

/-- JMP (R219). -/
def execJmp (d a : BitVec 6) (b : BitVec 14) (s : State) : Host.Outcome State Fault Refusal :=
  scanOp 0x22 d a b s fun s => s.opJmp d b

/-- LPB (R219). -/
def execLpb (d a : BitVec 6) (b : BitVec 14) (s : State) : Host.Outcome State Fault Refusal :=
  scanOp 0x23 d a b s fun s => s.opLpb a b

/-- LPE (R219). -/
def execLpe (d a : BitVec 6) (b : BitVec 14) (s : State) : Host.Outcome State Fault Refusal :=
  scanOp 0x24 d a b s fun s => s.opLpe

/-- CALL (R219). -/
def execCall (d a : BitVec 6) (b : BitVec 14) (s : State) : Host.Outcome State Fault Refusal :=
  scanOp 0x25 d a b s fun s => s.opCall b

/-- RET (R219). -/
def execRet (d a : BitVec 6) (b : BitVec 14) (s : State) : Host.Outcome State Fault Refusal :=
  scanOp 0x26 d a b s fun s => s.opRet

/-- TMR (R219, R223). -/
def execTmr (d a : BitVec 6) (b : BitVec 14) (s : State) : Host.Outcome State Fault Refusal :=
  scanOp 0x27 d a b s fun s => s.opTmr d a b

/-- CTR (R219, R223). -/
def execCtr (d a : BitVec 6) (b : BitVec 14) (s : State) : Host.Outcome State Fault Refusal :=
  scanOp 0x28 d a b s fun s => s.opCtr d a b

/-- TCRD (R219). -/
def execTcrd (d a : BitVec 6) (b : BitVec 14) (s : State) : Host.Outcome State Fault Refusal :=
  scanOp 0x29 d a b s fun s => s.opTcrd d a b

/-- RDL (R219). -/
def execRdl (d a : BitVec 6) (b : BitVec 14) (s : State) : Host.Outcome State Fault Refusal :=
  scanOp 0x2A d a b s fun s => s.opRdl d a b

/-- RDS (R219). -/
def execRds (d a : BitVec 6) (b : BitVec 14) (s : State) : Host.Outcome State Fault Refusal :=
  scanOp 0x2B d a b s fun s => s.opRds d a b

/-- RDQ (R219). -/
def execRdq (d a : BitVec 6) (b : BitVec 14) (s : State) : Host.Outcome State Fault Refusal :=
  scanOp 0x2C d a b s fun s => s.opRdq d a b

/-- RAISE (R219). -/
def execRaise (d a : BitVec 6) (b : BitVec 14) (s : State) : Host.Outcome State Fault Refusal :=
  scanOp 0x2D d a b s fun s => s.opRaise d a b

/-- STG (R219). -/
def execStg (d a : BitVec 6) (b : BitVec 14) (s : State) : Host.Outcome State Fault Refusal :=
  scanOp 0x2F d a b s fun s => s.opStg d a b

/-- RSTG (R219). -/
def execRstg (d a : BitVec 6) (b : BitVec 14) (s : State) : Host.Outcome State Fault Refusal :=
  scanOp 0x30 d a b s fun s => s.opRstg d b

/-- ERD (R219). -/
def execErd (d a : BitVec 6) (b : BitVec 14) (s : State) : Host.Outcome State Fault Refusal :=
  scanOp 0x31 d a b s fun s => s.opErd d a

/-- ERET (R219, R225). -/
def execEret (d a : BitVec 6) (b : BitVec 14) (s : State) : Host.Outcome State Fault Refusal :=
  scanOp 0x32 d a b s fun s => s.opEret

/-- GRP_SELECT (R224). -/
def execGrpSelect (d3 : BitVec 3) (a : BitVec 6) (b : BitVec 14) (s : State) : Host.Outcome State Fault Refusal :=
  scanOp 0x2E (d3 ++ 0#3) a b s fun s => s.opSelect b

/-- GRP_OPEN (R224). -/
def execGrpOpen (d3 : BitVec 3) (a : BitVec 6) (b : BitVec 14) (s : State) : Host.Outcome State Fault Refusal :=
  scanOp 0x2E (d3 ++ 1#3) a b s fun s => s.opOpen d3 a b

/-- GRP_ARM (R224). -/
def execGrpArm (d3 : BitVec 3) (a : BitVec 6) (b : BitVec 14) (s : State) : Host.Outcome State Fault Refusal :=
  scanOp 0x2E (d3 ++ 2#3) a b s fun s => s.opArm b

/-- GRP_ABORT (R224). -/
def execGrpAbort (d3 : BitVec 3) (a : BitVec 6) (b : BitVec 14) (s : State) : Host.Outcome State Fault Refusal :=
  scanOp 0x2E (d3 ++ 3#3) a b s fun s => s.opAbort b

/-- PFX (R217). -/
def execPfx (payload : BitVec 10) (s : State) : Host.Outcome State Fault Refusal :=
  scanOp 0x3F 0 0 (payload.setWidth 14) s fun s => s.opPfx payload

end Sys2Proof.Machine
end

