-- ==== Sys2Proof/Decode.lean ====
section
/-! DEFINITION. The command table gives its rows no bits, so no word spells a command. What words do spell is scan code (R217, R219):
the encoder and the decoder of its instructions. -/

namespace Sys2Proof

/-- No row of the command table has bits. -/
def decodeTableWord (_nbits _w : Nat) : Option Instr := none

/-- The word of a scan code instruction; none for a command that is none (R217, R219). -/
def scanEncode (i : Instr) : Option Word :=
  match i with
  | .mainSupplyReturn => none
  | .mainSupplyLoss => none
  | .springPowerOn => none
  | .resetNLow => none
  | .wakeNLow => none
  | .freezeNLow => none
  | .sysSwrstWrite _ => none
  | .sysBootCtrlGo => none
  | .powerGoodFilterExpiry _ _ _ _ _ _ => none
  | .joinWaitExpiry => none
  | .deviceWatchdogExpiry => none
  | .weirWatchdogReset => none
  | .lockWatchdogExpiry _ => none
  | .fieldLinkWatchdogExpiry => none
  | .clockMonitorWindow _ => none
  | .weirPeriodicTest _ => none
  | .configurationRehash _ => none
  | .solverLaneTest _ _ => none
  | .converterReferenceCheck _ _ => none
  | .basinScrub _ _ => none
  | .eventRaise _ _ _ _ _ => none
  | .handlerComplete => none
  | .errInjectWrite _ => none
  | .errLogPop => none
  | .junctionTemperature _ _ => none
  | .pllUnlock _ => none
  | .yarnanSignalDetect _ _ => none
  | .linkTrainingTimeout _ _ => none
  | .linkSilenceTimeout _ _ => none
  | .linkFaultTimeout _ _ => none
  | .idleSequence _ _ _ => none
  | .cycleImageFrame _ _ _ _ _ _ _ => none
  | .voteFrame _ _ _ _ _ _ _ => none
  | .groupHashFrame _ _ _ _ _ _ _ => none
  | .timeFrame _ _ _ _ _ _ _ _ => none
  | .healthFrame _ _ _ _ _ _ _ _ => none
  | .bulkFrame _ _ _ _ _ _ _ => none
  | .frameRelay _ _ _ _ _ _ _ _ => none
  | .healthFrameSend _ => none
  | .timeExchangeComplete _ => none
  | .siblingLost _ _ => none
  | .isolationFrame _ _ => none
  | .isolationLineTimeout _ => none
  | .legDeviation _ _ => none
  | .bulkCopyComplete => none
  | .bulkCopyTimeout _ => none
  | .rejoinImageReceived _ _ => none
  | .shadowComplete => none
  | .autoRejoinAdmission _ _ => none
  | .txnOpen _ => none
  | .txnArm _ => none
  | .txnAbort _ => none
  | .txnStageDataWrite _ => none
  | .rwsWrite _ _ => none
  | .txnGrpCfgWrite _ _ => none
  | .groupBoundary _ => none
  | .groupApply _ => none
  | .outcomeCompare _ => none
  | .outcomeRepeatEnd _ => none
  | .basinRequest _ _ _ => none
  | .basinLockAcquire _ _ => none
  | .basinLockRelease _ _ _ => none
  | .bsnRankWrite _ _ => none
  | .requesterMask _ => none
  | .monSnap _ => none
  | .monClr _ => none
  | .monSelWrite _ _ => none
  | .monAllSnap => none
  | .monAllClr => none
  | .monAllArm => none
  | .monArmedSnapshot => none
  | .baseTick _ => none
  | .stationCycleStart => none
  | .snapshotInstant => none
  | .solverTrigger _ => none
  | .solverRunStart _ => none
  | .contextPreempt _ => none
  | .contextResume _ => none
  | .gatherStep _ => none
  | .kernelStep _ => none
  | .productStep _ => none
  | .factorStep _ => none
  | .solveStep _ => none
  | .reduceStep _ => none
  | .residTest _ => none
  | .loopTest _ => none
  | .meritTest _ => none
  | .baddataTest _ => none
  | .infeasTest _ => none
  | .scatterStep _ => none
  | .barrierAgreed _ => none
  | .barrierTimeout _ => none
  | .syncWaitExpiry _ => none
  | .testGeneratorEnd _ => none
  | .captureDone _ => none
  | .saturationWindowEnd _ => none
  | .scanCycleStart _ => none
  | .cycleImageTimeout _ => none
  | .cycleZeroLatch => none
  | .phase4 _ => none
  | .vote _ => none
  | .scanCycleOverrun _ => none
  | .lockstepMismatch => none
  | .nop d a b => some (Machine.scanWord 0x00 d a b)
  | .ldb d a b => some (Machine.scanWord 0x01 d a b)
  | .andb d a b => some (Machine.scanWord 0x02 d a b)
  | .orb d a b => some (Machine.scanWord 0x03 d a b)
  | .xorb d a b => some (Machine.scanWord 0x04 d a b)
  | .stb d a b => some (Machine.scanWord 0x05 d a b)
  | .srb d a b => some (Machine.scanWord 0x06 d a b)
  | .tstw d a b => some (Machine.scanWord 0x07 d a b)
  | .putb d a b => some (Machine.scanWord 0x08 d a b)
  | .notb d a b => some (Machine.scanWord 0x09 d a b)
  | .edge d a b => some (Machine.scanWord 0x0A d a b)
  | .ldw d a b => some (Machine.scanWord 0x0B d a b)
  | .stw d a b => some (Machine.scanWord 0x0C d a b)
  | .ldl d a b => some (Machine.scanWord 0x0D d a b)
  | .stl d a b => some (Machine.scanWord 0x0E d a b)
  | .ldi d a b => some (Machine.scanWord 0x0F d a b)
  | .ldhi d a b => some (Machine.scanWord 0x10 d a b)
  | .sel d a b => some (Machine.scanWord 0x11 d a b)
  | .and d a b => some (Machine.scanWord 0x12 d a b)
  | .or d a b => some (Machine.scanWord 0x13 d a b)
  | .xor d a b => some (Machine.scanWord 0x14 d a b)
  | .shl d a b => some (Machine.scanWord 0x15 d a b)
  | .shr d a b => some (Machine.scanWord 0x33 d a b)
  | .sar d a b => some (Machine.scanWord 0x34 d a b)
  | .add d a b => some (Machine.scanWord 0x16 d a b)
  | .sub d a b => some (Machine.scanWord 0x17 d a b)
  | .mul d a b => some (Machine.scanWord 0x18 d a b)
  | .div d a b => some (Machine.scanWord 0x19 d a b)
  | .cmp d a b => some (Machine.scanWord 0x1A d a b)
  | .fadd d a b => some (Machine.scanWord 0x1B d a b)
  | .fsub d a b => some (Machine.scanWord 0x1C d a b)
  | .fmul d a b => some (Machine.scanWord 0x1D d a b)
  | .fdiv d a b => some (Machine.scanWord 0x1E d a b)
  | .fcvt d a b => some (Machine.scanWord 0x1F d a b)
  | .flim d a b => some (Machine.scanWord 0x20 d a b)
  | .fcmp d a b => some (Machine.scanWord 0x21 d a b)
  | .jmp d a b => some (Machine.scanWord 0x22 d a b)
  | .lpb d a b => some (Machine.scanWord 0x23 d a b)
  | .lpe d a b => some (Machine.scanWord 0x24 d a b)
  | .call d a b => some (Machine.scanWord 0x25 d a b)
  | .ret d a b => some (Machine.scanWord 0x26 d a b)
  | .tmr d a b => some (Machine.scanWord 0x27 d a b)
  | .ctr d a b => some (Machine.scanWord 0x28 d a b)
  | .tcrd d a b => some (Machine.scanWord 0x29 d a b)
  | .rdl d a b => some (Machine.scanWord 0x2A d a b)
  | .rds d a b => some (Machine.scanWord 0x2B d a b)
  | .rdq d a b => some (Machine.scanWord 0x2C d a b)
  | .raise d a b => some (Machine.scanWord 0x2D d a b)
  | .grpSelect d a b => some (Machine.scanWord 0x2E (d ++ 0#3) a b)
  | .grpOpen d a b => some (Machine.scanWord 0x2E (d ++ 1#3) a b)
  | .grpArm d a b => some (Machine.scanWord 0x2E (d ++ 2#3) a b)
  | .grpAbort d a b => some (Machine.scanWord 0x2E (d ++ 3#3) a b)
  | .stg d a b => some (Machine.scanWord 0x2F d a b)
  | .rstg d a b => some (Machine.scanWord 0x30 d a b)
  | .erd d a b => some (Machine.scanWord 0x31 d a b)
  | .eret d a b => some (Machine.scanWord 0x32 d a b)
  | .pfx p => some (Machine.scanWord 0x3F 0 0 (p.setWidth 14))
  | .reservedOpcode _ => none
  | .stackFault => none
  | .codeEnd => none
  | .scnForceKeyWrite _ => none
  | .forceKeyExpiry => none
  | .measurementFrame _ _ _ _ => none
  | .joinFrame _ _ _ _ => none
  | .commandBuild => none
  | .zeroCrossing _ => none
  | .zeroCrossingTimeout _ _ => none
  | .fixedWindowEnd => none
  | .underfrequency _ => none
  | .feederOverload _ => none
  | .blackout _ => none
  | .energyInterval => none
  | .periodicSave => none
  | .powerFailDetect _ _ _ => none
  | .springPulseCount _ _ => none
  | .pulseOutputEnd _ => none
  | .sequenceTrigger _ _ => none
  | .adcTrigEdge _ => none
  | .conversion _ _ => none
  | .queueDrain _ => none
  | .ainFault _ => none
  | .ainSettlingEnd _ => none
  | .loopSupplyFault _ _ _ => none
  | .adcDataRead => none
  | .compliance _ _ _ => none
  | .aouThermal _ _ => none
  | .aouTestWrite _ _ => none
  | .dioSample _ => none
  | .filteredStateChange _ => none
  | .wireBreak _ _ => none
  | .overload _ _ => none
  | .overloadRetry _ => none
  | .overtemp _ _ => none
  | .readback _ => none
  | .openWire _ => none
  | .dioTestWrite _ _ => none
  | .pulseTestSlot _ _ _ _ => none
  | .pulseTestReclose _ _ => none
  | .pathOpen _ _ _ => none
  | .trpPtCmd _ => none
  | .trpPtCmdEnd _ => none
  | .springTick => none
  | .sprTickLoRead => none
  | .sprSnap _ => none
  | .xtalStop => none
  | .cellLow _ => none
  | .railSwitch _ => none
  | .ptpIncFracWrite _ => none
  | .ptpStepHiWrite _ => none
  | .syncMessage _ _ _ => none
  | .holdover _ => none
  | .ppsInEdge _ => none
  | .ppsOut _ => none
  | .launchDue _ _ => none
  | .ethernetFrame _ _ _ _ => none
  | .arpRequest _ _ => none
  | .icmpEcho _ _ _ => none
  | .igmpQuery _ _ => none
  | .lldpdu _ _ _ => none
  | .lldpTtlExpiry _ _ => none
  | .lldpTransmit _ => none
  | .prpSupervision _ => none
  | .linkDown _ => none
  | .ethTxCmd _ _ => none
  | .canFrameReceived _ _ _ _ _ _ _ _ _ _ _ => none
  | .canTransmitEnd _ _ _ _ => none
  | .busOff _ _ _ => none
  | .busOffRecovery _ => none
  | .canRxPop _ _ => none
  | .canTxGo _ _ => none
  | .serTxCmd _ _ => none
  | .serTransmitEnd _ => none
  | .serByteReceived _ _ _ _ _ _ => none
  | .bar2Access _ _ _ => none
  | .hifRearm _ => none
  | .hostSpiTransaction _ _ _ => none
  | .ospRead => none
  | .ospProgram => none
  | .ospErase => none
  | .ospDone _ => none
  | .bmiPoll _ => none
  | .bmiXfer _ => none
  | .recordProduce _ _ _ _ => none
  | .recordDurable => none
  | .summaryInterval => none
  | .healthRecord => none
  | .batchMove _ => none
  | .foldRelease => none
  | .sedRdGo => none
  | .sedRdDone => none
  | .domainIdle _ => none
  | .domainWake _ => none
  | .bankLightSleep _ => none
  | .dailyPlan _ _ _ _ _ _ => none
  | .crystalHourlyMean _ _ => none
  | .extest _ _ => none
  | .idcode => none
  | .samplePreload _ _ => none
  | .frzRd _ => none
  | .frzSeek _ _ => none
  | .bypass _ _ => none
  | .pageLock _ => none
  | .pageUnlock _ => none
  | .cntClr _ => none
  | .rcRead _ => none
  | .w1cWrite _ _ => none
  | .loWordRead _ => none
  | .registerWrite _ _ => none
  | .lpSupplyLoss => none
  | .lpSupplyReturn => none
  | .vresReady => none
  | .ethTransmitEnd _ => none
  | .ethLinkUp _ _ => none
  | .serTxTimeReached _ _ => none
  | .bmiTransferEnd _ _ => none

/-- The instruction of a word of scan code; none where R222 ends the cycle with an OPCODE E2 (R219). -/
def scanDecode (w : Word) : Option Instr :=
  let d : BitVec 6 := (w >>> 20).setWidth 6
  let a : BitVec 6 := (w >>> 14).setWidth 6
  let b : BitVec 14 := w.setWidth 14
  let d3 : BitVec 3 := (w >>> 23).setWidth 3
  if Machine.badWord w then none
  else match (w >>> 26).toNat with
  | 0x00 => some (.nop d a b)
  | 0x01 => some (.ldb d a b)
  | 0x02 => some (.andb d a b)
  | 0x03 => some (.orb d a b)
  | 0x04 => some (.xorb d a b)
  | 0x05 => some (.stb d a b)
  | 0x06 => some (.srb d a b)
  | 0x07 => some (.tstw d a b)
  | 0x08 => some (.putb d a b)
  | 0x09 => some (.notb d a b)
  | 0x0A => some (.edge d a b)
  | 0x0B => some (.ldw d a b)
  | 0x0C => some (.stw d a b)
  | 0x0D => some (.ldl d a b)
  | 0x0E => some (.stl d a b)
  | 0x0F => some (.ldi d a b)
  | 0x10 => some (.ldhi d a b)
  | 0x11 => some (.sel d a b)
  | 0x12 => some (.and d a b)
  | 0x13 => some (.or d a b)
  | 0x14 => some (.xor d a b)
  | 0x15 => some (.shl d a b)
  | 0x16 => some (.add d a b)
  | 0x17 => some (.sub d a b)
  | 0x18 => some (.mul d a b)
  | 0x19 => some (.div d a b)
  | 0x1A => some (.cmp d a b)
  | 0x1B => some (.fadd d a b)
  | 0x1C => some (.fsub d a b)
  | 0x1D => some (.fmul d a b)
  | 0x1E => some (.fdiv d a b)
  | 0x1F => some (.fcvt d a b)
  | 0x20 => some (.flim d a b)
  | 0x21 => some (.fcmp d a b)
  | 0x22 => some (.jmp d a b)
  | 0x23 => some (.lpb d a b)
  | 0x24 => some (.lpe d a b)
  | 0x25 => some (.call d a b)
  | 0x26 => some (.ret d a b)
  | 0x27 => some (.tmr d a b)
  | 0x28 => some (.ctr d a b)
  | 0x29 => some (.tcrd d a b)
  | 0x2A => some (.rdl d a b)
  | 0x2B => some (.rds d a b)
  | 0x2C => some (.rdq d a b)
  | 0x2D => some (.raise d a b)
  | 0x2E => match d.toNat % 8 with
    | 0 => some (.grpSelect d3 a b)
    | 1 => some (.grpOpen d3 a b)
    | 2 => some (.grpArm d3 a b)
    | 3 => some (.grpAbort d3 a b)
    | _ => none
  | 0x2F => some (.stg d a b)
  | 0x30 => some (.rstg d a b)
  | 0x31 => some (.erd d a b)
  | 0x32 => some (.eret d a b)
  | 0x33 => some (.shr d a b)
  | 0x34 => some (.sar d a b)
  | 0x3F => some (.pfx (w.setWidth 10))
  | _ => none

end Sys2Proof
end

