-- ==== Sys2Proof/Machine/Carried.lean ====
section
/-! DEFINITION. What a joiner's blocks take from the Basin that a Bulk copy has brought (R60). -/

namespace Sys2Proof.Machine

/-- The list of delta messages last applied, from each context's Basin state (R143). -/
def State.recallLasts (s : State) : State :=
  forN 4 (fun n t =>
    let p := Sparse.at 0 t.slv.places (4 + n)
    if p = 0 then t else t.put (.SLV_DQ_LAST n) ((t.word (p / 4)).toNat % 65536)) s

/-- The zones whose prev stands in the Basin: those that the voting members compute (R259; assumption 43). -/
def State.recallZones (s : State) : State :=
  s.setLum fun x => { x with started := (s.validZones).foldl (fun (m : Sparse Bool) z => Sparse.put false m z true) [] }

/-- The force table acts as it stands in the copy (R226, R228; assumption 94). -/
def State.recallForces (s : State) : State := (s.setScn fun x => { x with forcePend := [] }).actForces s.validForces

/-- The blocks of a joiner take over what the copied Basin holds: scan state (R218), loop states (R192), LAST and BOOT_COUNT of each
station (R237), the lists applied (R143), prev of the zones (R259), forces (R226), accumulators (R297). -/
def State.takeCarried (s : State) : State :=
  let s1 := forN 512 (fun n t => t.recallSlot n) s.recallScan
  let s2 := s1.stationIds.foldl (fun t id => t.recallStation id) s1
  (s2.recallLasts.recallZones.recallForces).adoptAccs

end Sys2Proof.Machine
end

