-- ==== Sys2Proof/Machine/Triplet.lean ====
section
/-! DEFINITION. The triplet (R37 to R69, R437): the links and their frames, agreement, loss, isolation lines, the rejoin. A received
frame stands as its fields; link 0 is SIB_UP, 1 SIB_DN. -/

namespace Sys2Proof.Machine

/-! ### Links (R42) -/

/-- A link enters a state, at the present instant. -/
def State.setLink (s : State) (k st : Nat) : State :=
  (s.put (.SIB_LINK_STAT_STATE k) st).setSib fun x =>
    { x with training := Sparse.put 0 x.training k 0, since := Sparse.put 0 x.since k s.now }

/-- A link goes Down: no partner announces itself over it. -/
def State.linkDown (s : State) (k : Nat) : State :=
  ((s.setLink k 0).put (.SIB_LINK_STAT_REFUSE k) 0).put (.SIB_LINK_STAT_PARTNER k) 0

/-- How long a link has been in its state. -/
def State.linkAge (s : State) (k : Nat) : Nat := s.now - Sparse.at 0 s.sib.since k

/-- A valid frame or idle sequence on a link. -/
def State.linkHeard (s : State) (k : Nat) : State := s.setSib fun x => { x with heard := Sparse.put 0 x.heard k s.now }

/-- A discarded frame (R41, R42): counted; an error burst in Up is a Fault; a discarded Cycle image frame leaves its sender's image
incomplete. -/
def State.badFrame (s : State) (k kind : Nat) (flags : Byte) : State :=
  let recent := (Sparse.at [] s.sib.crcBurst k).filter fun t => decide (s.now < t + 1000000)
  let burst := (s.now :: recent).take 16
  let s1 := (s.bump (.SIB_LINK_STAT_CRC_ERR k)).setSib fun x =>
    { x with crcBurst := Sparse.put [] x.crcBurst k burst, training := Sparse.put 0 x.training k 0 }
  let s2 := if kind = 1 then s1.setPeer ((sibOf s.pos (flags.toNat / 64)).getD k) fun p => { p with broken := true } else s1
  if s2.link k = 2 ∧ 16 ≤ burst.length then s2.setLink k 4 else s2

/-- Is a frame to be discarded (R41)? -/
def badYarnan (kind : Nat) (flags : Byte) (seq : Word) (ref : DWord) (payload : List Byte) (crc : Word) : Bool :=
  crc != crc32 (crcBytes kind flags.toNat payload.length seq.toNat ref.toNat payload) || decide (2048 < payload.length) ||
    kind == 0 || decide (6 < kind)

/-- A valid frame from sibling k has arrived, directly or relayed (R43, R55). -/
def State.sibHeard (s : State) (k : Nat) (relayed : Bool) : State :=
  (s.setPeer k fun p => { p with lost := false, heardAt := s.now }).put (.SIB_PEER_REACH k) (if relayed then 2 else 1)

/-- A frame's delivery: over an Up link, from a sibling, for this member; direct frames come from the link's own sibling, relayed ones
from the other (R42, R43). -/
def State.deliver (s : State) (link : Nat) (flags : Byte) (f : Nat → State → State) : State :=
  match sibOf s.pos (flags.toNat / 64) with
  | none => s
  | some k =>
    let relayed := flags.getLsbD 3
    if s.link link ≠ 2 ∨ bitsOf flags.toNat 5 4 ≠ s.pos ∨ relayed = (k == link) then s
    else f k (s.sibHeard k relayed)

/-- A frame of a kind other than Health arrives at an instant. -/
def State.receive (s : State) (link ns kind : Nat) (flags : Byte) (seq : Word) (ref : DWord) (payload : List Byte) (crc : Word)
    (f : Nat → State → State) : State :=
  let t := s.at ns
  if t.pos = 0 ∨ t.link link = 0 ∨ t.link link = 4 then t
  else if badYarnan kind flags seq ref payload crc then t.badFrame link kind flags
  else (t.linkHeard link).deliver link flags f

/-! ### Agreement on configuration and version (R46) -/

/-- One subject of R46 compared among the voting members: own value, each voting sibling's value if known. Of three the minority is
sidelined, a member never itself; otherwise an E4. -/
def State.compareSubject {α : Type} [DecidableEq α] (s : State) (own : α) (val : Nat → Option α) (cause e4 : Nat) : State :=
  if s.pos = 0 ∨ s.role s.pos ≠ 3 then s
  else match s.votingSibs.map fun k => (k, val k) with
    | [(i, some a), (j, some b)] =>
      if a = own ∧ b = own then s
      else if a = own then s.sideline (sibPos s.pos j) cause
      else if b = own then s.sideline (sibPos s.pos i) cause
      else if a = b then s
      else if s.pends 4 then s else s.raise 4 0x05 0 e4 7
    | [(i, some a)] => if a = own ∨ s.pends 4 then s else s.raise 4 0x05 0 e4 (posBits [s.pos, sibPos s.pos i])
    | _ => s

def State.compareConfig (s : State) : State := s.compareSubject s.fp (fun k => (s.peer k).health.map fun h => h.fp) 3 6
def State.compareVersion (s : State) : State := s.compareSubject ownClass (fun k => (s.peer k).health.map fun h => h.compat) 4 7

/-! ### A sibling's Health frame (R39, R40) -/

/-- The payload read. -/
def parseHealth (p : List Byte) : Health :=
  { role := byteAt p 0, mode := byteAt p 1 % 16, startup := byteAt p 1 / 16, pend := byteAt p 2 % 8, links := byteAt p 3,
    compat := fieldAt p 4 2, exit := bitOf (byteAt p 6) 0, imageVer := wordAt p 8, fp := BitVec.ofNat 128 (fieldAt p 12 16),
    legs := (List.range 8).map fun n => BitVec.ofNat 16 (fieldAt p (28 + 2 * n) 2),
    ain := (List.range 16).map fun n => wordAt p (48 + 4 * n), aflt := (p.drop 112).take 16, can := p.getD 128 0 }

/-- The joiner of a rejoin in progress has raised an E2 or higher since its last Health frame (R61). -/
def State.joinerError (s : State) (k : Nat) (old : Option Health) (h : Health) : State :=
  let ph := s.fld .SIB_REJOIN_STAT_PHASE
  let new := match old with
    | some o => decide (o.pend < h.pend)
    | none => false
  if s.role s.pos = 3 ∧ 2 ≤ ph ∧ ph ≤ 4 ∧ s.fld .SIB_REJOIN_ADMIT_POS = sibPos s.pos k ∧ 2 ≤ h.pend ∧ new = true then s.rejoinFail 4
  else s

/-- The role a sibling announces, as this member takes it (R46, R47, R57, R60, R61): a voting member keeps its own conclusions; a sibling
that has left the set of its own, has an E3 pending (R102), or begins again, is sidelined first. -/
def State.learnRole (s : State) (k : Nat) (h : Health) : State :=
  let p := sibPos s.pos k
  let cur := s.role p
  let ph := s.fld .SIB_REJOIN_STAT_PHASE
  if s.role s.pos ≠ 3 then (if cur = 3 ∧ h.role = 4 ∧ 2 ≤ ph then s.rejoinFail 5 else s).setRole p h.role
  else match cur with
    | 3 => if h.role = 4 ∨ h.pend = 3 then (s.sideline p 6).soleVoter p else if h.role = 1 then (s.sideline p 5).setRole p 1 else s
    | 2 => if h.pend = 3 then s.sideline p 6 else if h.role = 1 ∨ h.role = 4 then (s.rejoinFail 3).setRole p h.role else s
    | 1 => if h.pend = 3 then s.sideline p 6 else if h.role = 2 ∧ 3 ≤ ph ∧ ph ≤ 4 then s.setRole p 2 else if h.role = 4 then s.setRole p 4 else s
    | 4 => if h.pend = 3 then s else if h.role = 1 then s.setRole p 1 else if h.role = 2 ∧ 3 ≤ ph ∧ ph ≤ 4 then s.setRole p 2 else s
    | _ => if h.role = 1 ∨ h.role = 4 then s.setRole p h.role else s

/-- Do both isolation lines validly assert all eight bits? -/
def State.isolated (s : State) : Bool :=
  !s.flag .WIR_ISO_STAT_UP_LINE_FAIL && !s.flag .WIR_ISO_STAT_DN_LINE_FAIL && s.fld .WIR_ISO_STAT_IN_UP == 0xFF &&
    s.fld .WIR_ISO_STAT_IN_DN == 0xFF

/-- The cause of the own sidelining as this member can see it (R46, R48, R52, R57). -/
def State.ownCause (s : State) : Nat :=
  let differ := fun (f : Health → Bool) => [0, 1].all fun k => match (s.peer k).health with | some h => f h | none => false
  if s.fld .WIR_MISMATCH_LIMIT < s.misCount s.pos then 1
  else if s.fld .SIB_TIME_STAT_EVT = 3 then 2
  else if differ fun h => h.fp != s.fp then 3
  else if differ fun h => h.compat != ownClass then 4
  else 5

/-- A member learns that it has been sidelined (R57): in Run, from both siblings' Health frames in Degraded; in another mode, from
both isolation lines. -/
def State.learnOwn (s : State) : State :=
  if s.pos = 0 ∨ s.role s.pos ≠ 3 ∨ s.voters ≠ 3 ∨ s.mode = .startUp then s
  else
    let seen := if s.mode = .run then [0, 1].all fun k => match (s.peer k).health with
        | some h => h.mode == 3 && !(s.peer k).lost
        | none => false
      else s.isolated
    if seen then s.sideline s.pos s.ownCause else s

/-- An E4 that a voting sibling announces puts this member into Safe (R91, R99). -/
def State.siblingE4 (s : State) (k : Nat) (h : Health) : State :=
  if h.pend = 4 ∧ s.role s.pos = 3 ∧ s.role (sibPos s.pos k) = 3 ∧ s.mode ≠ .safe ∧ s.mode ≠ .startUp then (s.enterSafe 4 4 9 0x050000).discardEvents
  else s

/-- The image of a joiner agrees: the Bulk copy begins (R60). -/
def State.imageAgreed (s : State) (k : Nat) : State :=
  if s.role s.pos = 3 ∧ s.fld .SIB_REJOIN_STAT_PHASE = 2 ∧ s.fld .SIB_REJOIN_ADMIT_POS = sibPos s.pos k ∧
      s.flag (.SIB_PEER_CFG_AGREE k) = true then
    (s.put .SIB_REJOIN_STAT_PHASE 3).setSib fun x => { x with bulkAt := s.now }
  else s

/-- The two others' link as a sibling sees it: once it is Up again, nothing is forwarded for it (R43). -/
def State.relayEnds (s : State) (k : Nat) (h : Health) : State :=
  if (if k = 0 then h.links % 8 else h.links / 8 % 8) = 2 then s.putB (.SIB_LINK_STAT_RELAYING (1 - k)) false else s

/-- A Health frame of sibling k delivered. -/
def State.takeHealth (s : State) (k : Nat) (p : List Byte) : State :=
  let h := parseHealth p
  let s1 := (s.setPeer k fun x => { x with health := some h, fresh := true }).joinerError k (s.peer k).health h
  let s2 := ((s1.put (.SIB_PEER_COMPAT k) h.compat).putB (.SIB_PEER_VER_AGREE k) (h.compat == ownClass)).putB (.SIB_PEER_CFG_AGREE k)
    (h.fp == s.fp)
  ((((((s2.relayEnds k h).learnRole k h).compareVersion).siblingE4 k h).imageAgreed k).learnOwn).joinCheck

/-- What a partner's direct Health frame says of the wiring: 0 the expected sibling, else a reason of R42. -/
def State.refusal (s : State) (link : Nat) (origin : Nat) : Nat :=
  if origin = 0 then 3 else if origin = s.pos then 2 else if origin ≠ sibPos s.pos link then 1 else 0

/-- A direct Health frame trains or refuses the link (R42); delay is the one-way delay measured at training (R44). -/
def State.trainLink (s : State) (link origin delay : Nat) : State :=
  let t := s.put (.SIB_LINK_STAT_PARTNER link) origin
  let r := t.refusal link origin
  if r ≠ 0 then
    let u := t.put (.SIB_LINK_STAT_REFUSE link) r
    if t.link link = 3 then u else (u.setLink link 3).raise 2 0x06 0 1 (256 * link + r)
  else if t.link link = 1 then
    let n := Sparse.at 0 t.sib.training link + 1
    if n < 3 then t.setSib fun x => { x with training := Sparse.put 0 x.training link n }
    else (t.setLink link 2).put (.SIB_LINK_DELAY link) delay
  else t

/-! ### Votes (R40) -/

/-- The payload of a Vote frame read (R40). -/
def parseVote (ref : Nat) (p : List Byte) : VoteMsg :=
  { cycle := ref, own := BitVec.ofNat 64 (fieldAt p 0 8), up := BitVec.ofNat 64 (fieldAt p 8 8), dn := BitVec.ofNat 64 (fieldAt p 16 8),
    mask := fieldAt p 24 4, firstUp := fieldAt p 28 4, firstDn := fieldAt p 32 4 }

/-! ### Time (R48, R49) -/

/-- An integer as a field of a width, saturating. -/
def satField (w : Nat) (i : Int) : Nat := twos w (clampInt (-(2 ^ (w - 1))) (2 ^ (w - 1) - 1) i)

/-- The mean of two readings' offsets, cut down to whole units. -/
def meanOf (a b : Int × Int) : Int × Int := ((a.1 + b.1) / 2, (a.2 + b.2) / 2)

/-- Does an offset lie beyond SIB_TIME_BOUND? -/
def State.outOfBound (s : State) (o : Int × Int) : Bool :=
  decide (s.fld .SIB_TIME_BOUND_NS < o.1.natAbs) || decide (s.fld .SIB_TIME_BOUND_TICKS < o.2.natAbs)

/-- The voting siblings whose Time frame of the exchange is held, with their offsets. -/
def State.heldOffsets (s : State) (ref : Nat) : List (Nat × (Int × Int)) :=
  s.votingSibs.filterMap fun k => if (s.peer k).offRef = ref then (s.peer k).offset.map fun o => (k, o) else none

/-- The common offset applied: PTP time at the next base tick edge, the Spring count at its next tick edge. -/
def State.applyOffset (s : State) (m : Int × Int) : State :=
  let s1 := { s with sib := { s.sib with phaseAdj := m.1 },
                     time := { s.time with medianPend := if m.2 = 0 then none else some m.2 } }
  (s1.put .SIB_TIME_DEV (twos 32 (-m.1))).put .SIB_TIME_STAT_TICK_DEV (satField 8 (-m.2))

/-- Own and siblings' time events counted (R48, R49): dev is the reading compared with the bound, m the common offset. -/
def State.countTime (s : State) (dev m : Int × Int) (offs : List (Nat × (Int × Int))) : State :=
  let ev := s.outOfBound dev
  let s1 := if ev then
      (((s.put .SIB_TIME_STAT_EVT (min 3 (s.fld .SIB_TIME_STAT_EVT + 1))).bump .SIB_TIME_STAT_EVT_TOTAL).raise 0 0x06 s.pos 4
        (satField 24 (-m.1)))
    else s.put .SIB_TIME_STAT_EVT 0
  offs.foldl (fun t e =>
    let bad := t.outOfBound (e.2.1 - m.1, e.2.2 - m.2)
    let n := if bad then min 3 (Sparse.at 0 t.sib.timeEvts e.1 + 1) else 0
    (t.putB (.SIB_PEER_TIME_OK e.1) (!bad)).setSib fun x => { x with timeEvts := Sparse.put 0 x.timeEvts e.1 n }) s1

/-- The positions whose count of events has reached 3. -/
def State.timeMinorities (s : State) : List Nat :=
  (if s.fld .SIB_TIME_STAT_EVT = 3 then [s.pos] else []) ++
    (s.votingSibs.filter fun k => Sparse.at 0 s.sib.timeEvts k == 3).map fun k => sibPos s.pos k

/-- Two positions that reach 3 together are an E4; one alone is sidelined, not by itself (R48), and only where the third member's Time
frame of the exchange was held, so that it has come to the same conclusion (R57 step 1; assumption 21). -/
def State.judgeTime (s : State) (third : Bool) : State :=
  match s.timeMinorities with
  | [] => s
  | [p] => if p = s.pos ∨ third = false then s else s.sideline p 2
  | ps => if s.pends 4 then s else s.raise 4 0x05 0 8 (posBits ps)

/-- The exchange of a station cycle ends. -/
def State.timeExchange (s : State) (ref : Nat) : State :=
  let offs := s.heldOffsets ref
  let done := (s.setSib fun x => { x with timeRef := none }).bothPeers fun p => { p with offset := none }
  if s.role s.pos ≠ 3 then
    match offs with
    | [(_, a)] => done.applyOffset a
    | [(_, a), (_, b)] => done.applyOffset (meanOf a b)
    | _ => done
  else match s.votingSibs.length, offs with
    | 2, [(i, a), (j, b)] =>
      let m := (median3 0 a.1 b.1, median3 0 a.2 b.2)
      ((done.applyOffset m).countTime m m [(i, a), (j, b)]).judgeTime true
    | 2, [(i, a)] => let m := meanOf (0, 0) a; ((done.applyOffset m).countTime m m [(i, a)]).judgeTime false
    | 1, [(i, a)] =>
      let m := meanOf (0, 0) a
      let t := ((done.applyOffset m).countTime a m []).putB (.SIB_PEER_TIME_OK i) (!s.outOfBound a)
      if t.fld .SIB_TIME_STAT_EVT = 3 ∧ !t.pends 4 then t.raise 4 0x05 0 8 (posBits [s.pos, sibPos s.pos i]) else t
    | _, _ => done

/-! ### Loss (R55, R56) -/

/-- Has a sibling shown that it has stopped: its isolation line stopped or asserting all bits, or its exit announced (R56)? -/
def State.hasStopped (s : State) (k : Nat) : Bool :=
  (if k = 0 then s.flag .WIR_ISO_STAT_UP_LINE_FAIL || s.fld .WIR_ISO_STAT_IN_UP == 0xFF
   else s.flag .WIR_ISO_STAT_DN_LINE_FAIL || s.fld .WIR_ISO_STAT_IN_DN == 0xFF) ||
    match (s.peer k).health with
    | some h => h.exit
    | none => false

/-- A sibling is lost. An E4 leaves the roles as they are (R99). -/
def State.loseSibling (s : State) (k : Nat) : State :=
  let p := sibPos s.pos k
  let s1 := (s.setPeer k fun x => { x with lost := true, lostAt := s.now }).put (.SIB_PEER_REACH k) 0
  let joiner := s.fld .SIB_REJOIN_ADMIT_POS = p ∧ (s.role p = 1 ∨ s.role p = 2 ∨ s.role p = 4)
  if s.role p ≠ 3 then
    let s2 := if joiner then s1.rejoinFail 6 else s1
    if s2.role p = 4 then s2 else s2.setRole p 0
  else if s.role s.pos ≠ 3 ∨ s.votingSibs.length = 2 then s1.sideline p 5
  else if (s.peer (1 - k)).lost ∧ s.now ≤ (s.peer (1 - k)).lostAt + s.fld .SIB_LOST_T_LOST * 1000 then
    (s1.sideline p 5).sideline s.pos 8
  else if s.flag .SYS_BOOT_STAT_SIMPLEX_SURVIVE && s.hasStopped k then
    ((s1.sideline p 5).putB .WIR_VOTE_STAT_SIMPLEX true).isoSwitches
  else s1.raise 4 0x05 0 0x0A p

/-! ### Isolation (R65 to R67) -/

/-- Does a sibling ask for leg n by itself, for deviation, and not for all eight legs of a member that it no longer counts as Voting
(R66, R67; assumption 22)? -/
def State.legAsked (s : State) (n : Nat) : Bool :=
  (!s.flag .WIR_ISO_STAT_UP_LINE_FAIL && s.fld .WIR_ISO_STAT_IN_UP != 0xFF && bitOf (s.fld .WIR_ISO_STAT_IN_UP) n) ||
    (!s.flag .WIR_ISO_STAT_DN_LINE_FAIL && s.fld .WIR_ISO_STAT_IN_DN != 0xFF && bitOf (s.fld .WIR_ISO_STAT_IN_DN) n)

/-- The switches follow the lines; a voting member reports each leg that has been isolated for deviation (R67): the cause and DETAIL
of that E1 the spec does not give. -/
def State.isoUpdate (s : State) : State :=
  let old := s.fld .WIR_ISO_STAT_SW_OPEN
  let t := s.isoSwitches
  let lines := !s.flag .WIR_ISO_STAT_UP_LINE_FAIL || !s.flag .WIR_ISO_STAT_DN_LINE_FAIL
  if s.pos ≠ 0 ∧ s.role s.pos = 3 ∧ lines = true then
    forN 8 (fun n u => if bitOf (t.fld .WIR_ISO_STAT_SW_OPEN) n && !bitOf old n && t.legAsked n then
      u.usedFree.raise 1 0x15 n (bitsOf u.freeVal.toNat 31 24) (bitsOf u.freeVal.toNat 23 0) else u) t
  else t

/-- A line's mask and whether it fails. -/
def State.setLine (s : State) (line mask : Nat) (fail : Bool) : State :=
  if line = 0 then (s.put .WIR_ISO_STAT_IN_UP mask).putB .WIR_ISO_STAT_UP_LINE_FAIL fail
  else (s.put .WIR_ISO_STAT_IN_DN mask).putB .WIR_ISO_STAT_DN_LINE_FAIL fail

/-- Leg n of sibling k as this member's count of base ticks off its share judges it (R65). -/
def State.legDeviates (s : State) (k n : Nat) : State :=
  if s.role (sibPos s.pos k) = 3 ∧ max 1 (s.fld .WIR_LEG_DEV_FILT) ≤ Sparse.at 0 (s.peer k).legCnt n then
    s.setSib fun x => { x with deviates := addOnce x.deviates (8 * k + n) }
  else s

/-- Is a readback more than 0.32 mA off this member's own share of the output? -/
def State.offShare (s : State) (n : Nat) (code : Half) : Bool :=
  flt 0x3EA3D70A (fabs (fsub (ratio32 false (24 * code.toNat) 65536 0) (s.legCurrent n)))

/-- The share of an output that this member's own leg sources stands for its siblings' too: driven from the voted image, or at the
alarm level (R64, R98). -/
def State.shareKnown (s : State) (n : Nat) : Bool :=
  s.flag (.AOU_CFG_CTRL_EN n) && (s.fld (.AOU_STAT_STATE n) == 1 || s.fld (.AOU_STAT_STATE n) == 2) && !s.flag (.AOU_TEST_EN n)

/-- The legs of the voting siblings judged at a base tick by the readbacks of their Health frames (R65). A leg whose readback is back
at its share no longer deviates. A Health frame carries no compliance flag: that the loop is at fault the member takes from its own
AOU_STAT.COMP of the output, a choice of the model (assumption 87). -/
def State.judgeLegs (s : State) : State :=
  if s.pos = 0 ∨ s.role s.pos ≠ 3 then s else
    [0, 1].foldl (fun t k => match (t.peer k).health with
      | none => t
      | some h =>
        if !(t.peer k).fresh ∨ t.role (sibPos t.pos k) ≠ 3 then t
        else forN 8 (fun n u =>
          let off := u.shareKnown n && !u.flag (.AOU_STAT_COMP n) && u.offShare n (h.legs.getD n 0)
          let c := if off then Sparse.at 0 (u.peer k).legCnt n + 1 else 0
          let v := if off then u else u.setSib fun x => { x with deviates := x.deviates.filter (· != 8 * k + n) }
          (v.setPeer k fun p => { p with legCnt := Sparse.put 0 p.legCnt n c }).legDeviates k n) t) s

/-- The mask for sibling k (R66): all bits towards one that is not Voting; none in start-up while no voting set stands (R26). -/
def State.isoMask (s : State) (k : Nat) : Nat :=
  if s.role (sibPos s.pos k) ≠ 3 then (if s.mode = .startUp ∧ !s.setExists then 0 else 0xFF)
  else (List.range 8).foldl (fun acc n => if s.sib.deviates.contains (8 * k + n) then acc + 2 ^ n else acc) 0

/-- The 20 bits of an isolation frame, the first sent lowest: start bit 0, position, mask, complement, stop bit 1 (R66). -/
def isoFrame (pos mask : Nat) : BitVec 20 :=
  BitVec.ofNat 20 (2 * (pos % 4) + 8 * (mask % 256) + 2048 * (255 - mask % 256) + 524288)

/-- The isolation frames of a base tick; a sibling that no longer votes is judged anew when it returns. -/
def State.sendIso (s : State) : State :=
  if s.pos = 0 then s else
    let keep := s.sib.deviates.filter fun d => s.role (sibPos s.pos (d / 8)) == 3
    let t := s.setSib fun x => { x with deviates := keep, isoMiss := Sparse.mod 0 (Sparse.mod 0 x.isoMiss 0 (· + 1)) 1 (· + 1) }
    let u := (t.put .WIR_ISO_OUT_OUT_UP (t.isoMask 0)).put .WIR_ISO_OUT_OUT_DN (t.isoMask 1)
    (u.send (.iso 0 (isoFrame s.pos (t.isoMask 0)))).send (.iso 1 (isoFrame s.pos (t.isoMask 1)))

/-! ### Rejoin (R59 to R61) -/

/-- May this member rejoin: Joining, or Sidelined with no E3 of its own pending (R59)? -/
def State.mayRejoin (s : State) : Bool := s.role s.pos == 1 || (s.role s.pos == 4 && !s.pends 3 && s.mode == .safe)

/-- The Bulk copy begins on the joiner. -/
def State.bulkBegins (s : State) : State :=
  ((s.put .SIB_REJOIN_STAT_PHASE 3).put .SIB_REJOIN_STAT_FAIL 0).setSib fun x => { x with bulkAt := s.now }

/-- The words of a Bulk frame written as requester 10: the copy reaches every region that is not RO, transactional ones too. The joiner
has the RO regions from its own image, and the sibling sends them with the rest: a word of theirs, or outside every region, is discarded
with its E1 where it would change, once a frame (R60, R109; assumption 24). -/
def State.bulkWords (s : State) (w : Nat) (vs : List Word) : State :=
  let takes := fun (t : State) (a : Nat) => match t.attrs a with
    | some (_, ro) => !ro
    | none => false
  let r := vs.foldl (fun (a : State × Nat × Option Nat) v =>
    if takes a.1 a.2.1 then (a.1.setWord a.2.1 v, a.2.1 + 1, a.2.2)
    else (a.1, a.2.1 + 1, if a.2.2.isNone && a.1.word a.2.1 != v then some a.2.1 else a.2.2)) (s, w, none)
  match r.2.2 with
  | some a => ({ r.1 with bsn := { r.1.bsn with discards := r.1.bsn.discards ++ [(10, a)] } }).discardEvents
  | none => r.1

/-- A Bulk frame from sibling k (R39, R60). -/
def State.takeBulk (s : State) (k ref : Nat) (p : List Byte) : State :=
  let begins := s.fld .SIB_REJOIN_STAT_PHASE ≠ 3 ∧ s.fld .SIB_REJOIN_STAT_PHASE ≠ 4 ∧ s.flag (.SIB_PEER_CFG_AGREE k) = true
  if !s.mayRejoin ∨ s.role (sibPos s.pos k) ≠ 3 ∨ 0x4000000 < ref + p.length then s
  else if begins then s.bulkBegins.bulkWords (ref / 4) (bytesWords p)
  else if s.fld .SIB_REJOIN_STAT_PHASE = 3 then s.bulkWords (ref / 4) (bytesWords p)
  else s

/-- Half of the Basin, 32 MiB, as Bulk frames for sibling k (R60 step 4). -/
def State.sendHalf (s : State) (k half : Nat) : State :=
  forN 16384 (fun i t => let a := 0x2000000 * half + 2048 * i; t.sendSib k 6 a (i == 16383) (t.bytes a 2048)) s

/-- What a voting member sends the joiner: banks 0 to 7 as its up sibling, banks 8 to 15 as its down sibling, both if it votes
alone; the frames stand for the copy with the writes mirrored, as it is complete. -/
def State.sendBulk (s : State) (k : Nat) : State :=
  let low := s.alone || k == 1
  let high := s.alone || k == 0
  let t := if low then s.sendHalf k 0 else s
  if high then t.sendHalf k 1 else t

/-- The shadow period begins on the joiner (R60 steps 4 and 5). -/
def State.beginShadow (s : State) : State :=
  let s1 := ((s.takeCarried.takeRole 2).put .SIB_REJOIN_STAT_PHASE 4).put .SIB_REJOIN_STAT_SHADOW_DONE 0
  let s2 := ({ s1 with mode := .startUp }.put .SYS_MODE_STARTUP 7).takeLatch
  let s3 := (s2.setScn fun x => { x with zero := false, waitAlign := false, serving := none, imageAt := s.now }).setSib fun x =>
    { x with windows := [] }
  let s4 := ((s3.putB .SCN_STAT_RUN true).put .SCN_STAT_PHASE 0).setReg 0x5048 0
  s4.enabledSlots.foldl (fun t n => match t.cfgFault n with
    | none => t.slotBit .LOP_RUNNING_RUN n true
    | some _ => { t with lop := { t.lop with check := addOnce t.lop.check n } }) s4

/-- The joiner has been voted in (R60 step 7): it takes the mode of the set. -/
def State.joinVoted (s : State) : State :=
  let s1 := ((s.setRole s.pos 3).put .SIB_REJOIN_STAT_PHASE 5).put .SYS_MODE_STARTUP 0
  let sibMode := (s.votingSibs.findSome? fun k => (s.peer k).health.map fun h => h.mode).getD 3
  let old := modeCode s.mode
  match sibMode with
  | 1 => ({ s1 with mode := .commission }.commissionField).modeRecord old 1 6 0
  | 4 => ({ s1 with mode := .safe }.stopScan.safeField).modeRecord old 4 6 0
  | _ => let m := s1.runMode; ({ s1 with mode := m }).modeRecord old (modeCode m) 6 0

/-- The outcome frame of the vote-in group, on a joiner whose shadow is complete (R60, R82, R437). -/
def State.learnVoteIn (s : State) (g role : Nat) (h : BitVec 128) : State :=
  if s.role s.pos = 2 ∧ g = s.wgrpNo ∧ role = 2 ∧ h ≠ 0 ∧ s.fld .SIB_REJOIN_SHADOW_CYC ≤ s.fld .SIB_REJOIN_STAT_SHADOW_DONE then s.joinVoted
  else s

/-- The image for a joiner has arrived (R60 steps 2 and 3). -/
def State.rejoinImage (s : State) (hdr body : List Byte) : State :=
  let s0 := if s.fld .SIB_REJOIN_STAT_PHASE = 2 then s else (s.put .SIB_REJOIN_STAT_PHASE 2).put .SIB_REJOIN_STAT_FAIL 0
  let st := s.fld .SYS_MODE_STARTUP
  match s0.loadImage (fun o n => ((hdr.take 256 ++ body).drop o).take n) 4 with
  | (t, false) => t.rejoinFail 1
  | (t, true) =>
    let s1 := t.put .SYS_MODE_STARTUP st
    let s2 := [0, 1].foldl (fun u k => u.putB (.SIB_PEER_CFG_AGREE k) (match (u.peer k).health with
      | some h => h.fp == u.fp
      | none => false)) s1
    let s3 := if s2.flag .SIB_CTRL_STORE_IMG then s2.xWrite 0 (hdr.take 256 ++ body) else s2
    if s3.votingSibs.any fun k => s3.flag (.SIB_PEER_CFG_AGREE k) then s3.bulkBegins else s3.rejoinFail 1

/-! ### Commands: links -/

/-- YARNAN_SIGNAL_DETECT (R42). -/
def execYarnanSignalDetect (link : Fin 2) (ns : Nat) (s : State) : Host.Outcome State Fault Refusal :=
  coreAct s fun s => let t := s.at ns; if t.pos ≠ 0 ∧ t.link link.val = 0 then t.setLink link.val 1 else t

/-- LINK_TRAINING_TIMEOUT (R42): 1 ms in Training without success leads Down. R42 names 3 failed trainings too, as a cause of Down;
the model leaves for Down at the first and keeps no count of them, its choice (assumption 83). -/
def execLinkTrainingTimeout (link : Fin 2) (ns : Nat) (s : State) : Host.Outcome State Fault Refusal :=
  coreAct s fun s => let t := s.at ns; if t.link link.val = 1 ∧ 1000000 ≤ t.linkAge link.val then t.linkDown link.val else t

/-- LINK_SILENCE_TIMEOUT (R42): 100 µs without a valid frame or idle sequence; a Refused link too leaves its state so. -/
def execLinkSilenceTimeout (link : Fin 2) (ns : Nat) (s : State) : Host.Outcome State Fault Refusal :=
  coreAct s fun s =>
    let t := s.at ns
    if (t.link link.val = 2 ∨ t.link link.val = 3) ∧ Sparse.at 0 t.sib.heard link.val + 100000 ≤ t.now then t.linkDown link.val else t

/-- LINK_FAULT_TIMEOUT (R42): 10 ms in Fault. -/
def execLinkFaultTimeout (link : Fin 2) (ns : Nat) (s : State) : Host.Outcome State Fault Refusal :=
  coreAct s fun s => let t := s.at ns; if t.link link.val = 4 ∧ 10000000 ≤ t.linkAge link.val then t.setLink link.val 1 else t

/-- IDLE_SEQUENCE (R42): a 16-byte word, its CRC-16 in the last two bytes, low byte first; a valid one proves the partner alive. -/
def execIdleSequence (link : Fin 2) (ns : Nat) (bytes : List Byte) (s : State) : Host.Outcome State Fault Refusal :=
  coreAct s fun s =>
    let t := s.at ns
    if t.pos ≠ 0 ∧ t.link link.val ≠ 0 ∧ bytes.length = 16 ∧ (crc16 (bytes.take 14)).toNat = fieldAt bytes 14 2 then
      t.linkHeard link.val else t

/-! ### Commands: frames -/

/-- The wait for the siblings' images ends as the last of them is complete (R233). -/
def State.imagesHeld (old s : State) : State :=
  if s.fld .SCN_STAT_PHASE = 5 ∧ !s.alone ∧ old.siblingsReady s.scn.cycle = false ∧ s.siblingsReady s.scn.cycle = true then
    s.sample 0x0D 3 0 (s.now - s.scn.imageAt)
  else s

/-- CYCLE_IMAGE_FRAME (R39, R212, R441): words of the output region are image words, all others belong to the latch. -/
def execCycleImageFrame (link : Fin 2) (ns : Nat) (flags : Byte) (seq : Word) (ref : DWord) (payload : List Byte) (crc : Word)
    (s : State) : Host.Outcome State Fault Refusal :=
  coreAct s fun s => s.receive link.val ns 1 flags seq ref payload crc fun k t =>
    State.imagesHeld t <| t.setPeer k fun p =>
      let q := if p.cycle = ref.toNat then p else { p with cycle := ref.toNat, image := [], latch := [], complete := false }
      (unpackRuns payload.length payload).foldl (fun (p : Peer) e =>
        if inOutput e.1 then { p with image := Sparse.put none p.image e.1 (some e.2) }
        else { p with latch := Sparse.put none p.latch e.1 (some e.2) })
        { q with complete := q.complete || (flags.getLsbD 2 && !q.broken) }

/-- VOTE_FRAME (R40, R51). -/
def execVoteFrame (link : Fin 2) (ns : Nat) (flags : Byte) (seq : Word) (ref : DWord) (payload : List Byte) (crc : Word)
    (s : State) : Host.Outcome State Fault Refusal :=
  coreAct s fun s => s.receive link.val ns 2 flags seq ref payload crc fun k t =>
    (t.setPeer k fun p => { p with vote := some (parseVote ref.toNat payload) }).judgeHashes.sidelineBeyond

/-- GROUP_HASH_FRAME (R46, R80, R82, R83). -/
def execGroupHashFrame (link : Fin 2) (ns : Nat) (flags : Byte) (seq : Word) (ref : DWord) (payload : List Byte) (crc : Word)
    (s : State) : Host.Outcome State Fault Refusal :=
  coreAct s fun s => s.receive link.val ns 3 flags seq ref payload crc fun k t =>
    let fp := BitVec.ofNat 128 (fieldAt payload 16 16)
    let h := BitVec.ofNat 128 (fieldAt payload 0 16)
    let g := bitsOf ref.toNat 63 60
    let role := bitsOf ref.toNat 59 58
    let t1 := ((t.setPeer k fun p => { p with health := p.health.map fun h => { h with fp := fp } }).putB (.SIB_PEER_CFG_AGREE k)
      (fp == t.fp)).compareConfig
    (t1.groupMessage k g role (ref.toNat % 2 ^ 58) h).learnVoteIn g role h

/-- TIME_FRAME (R44, R48): the sibling's offset from the own readings at arrival. delay is what the round trip measures on every
1,024th frame; the second hop of a relayed frame is not measured here, and its delay is free. -/
def execTimeFrame (link : Fin 2) (ns : Nat) (delay : Half) (flags : Byte) (seq : Word) (ref : DWord) (payload : List Byte) (crc : Word)
    (s : State) : Host.Outcome State Fault Refusal :=
  coreAct s fun s => s.receive link.val ns 4 flags seq ref payload crc fun k t =>
    let relayed := flags.getLsbD 3
    let t1 := if seq.toNat % 1024 = 0 ∧ !relayed then t.put (.SIB_LINK_DELAY link.val) delay.toNat else t
    let hop := if relayed then t1.freeVal.toNat % 65536 else 0
    let t2 := if relayed then t1.usedFree else t1
    let d := t2.fld (.SIB_LINK_DELAY link.val) + hop
    let o := ((fieldAt payload 0 8 : Int) - ((t2.now : Int) - d), (fieldAt payload 8 6 : Int) - (t2.time.count : Int))
    t2.setPeer k fun p => { p with offset := some o, offRef := ref.toNat }

/-- HEALTH_FRAME (R39, R40, R42, R46, R57); delay is the one-way delay measured where this frame ends the training (R44). -/
def execHealthFrame (link : Fin 2) (ns : Nat) (delay : Half) (flags : Byte) (seq : Word) (ref : DWord) (payload : List Byte) (crc : Word)
    (s : State) : Host.Outcome State Fault Refusal :=
  coreAct s fun s =>
    let l := link.val
    let t := s.at ns
    if t.pos = 0 ∨ t.link l = 0 ∨ t.link l = 4 then t
    else if badYarnan 5 flags seq ref payload crc then t.badFrame l 5 flags
    else
      let u := if flags.getLsbD 3 then t.linkHeard l else (t.linkHeard l).trainLink l (flags.toNat / 64) delay.toNat
      u.deliver l flags fun k v => v.takeHealth k payload

/-- BULK_FRAME (R39, R60). -/
def execBulkFrame (link : Fin 2) (ns : Nat) (flags : Byte) (seq : Word) (ref : DWord) (payload : List Byte) (crc : Word)
    (s : State) : Host.Outcome State Fault Refusal :=
  coreAct s fun s => s.receive link.val ns 6 flags seq ref payload crc fun k t => t.takeBulk k ref.toNat payload

/-- FRAME_RELAY (R43): a direct frame of one sibling for the other goes on over the other link. -/
def execFrameRelay (link : Fin 2) (ns : Nat) (kind flags : Byte) (seq : Word) (ref : DWord) (payload : List Byte) (crc : Word)
    (s : State) : Host.Outcome State Fault Refusal :=
  coreAct s fun s =>
    let l := link.val
    let t := s.at ns
    if t.pos = 0 ∨ t.link l ≠ 2 then t
    else if badYarnan kind.toNat flags seq ref payload crc then t.badFrame l kind.toNat flags
    else
      let u := t.linkHeard l
      if flags.toNat / 64 = sibPos u.pos l ∧ bitsOf flags.toNat 5 4 = sibPos u.pos (1 - l) ∧ flags.getLsbD 3 = false ∧
          u.link (1 - l) = 2 then
        (u.putB (.SIB_LINK_STAT_RELAYING (1 - l)) true).send
          (.yarnan (1 - l) { kind := kind.toNat, flags := flags ||| 8#8, seq := seq, ref := ref, payload := payload, crc := crc })
      else u

/-- HEALTH_FRAME_SEND (R37, R39, R309): 150 µs after a base tick edge; the own input values of the tick are those sent. -/
def execHealthFrameSend (ns : Nat) (s : State) : Host.Outcome State Fault Refusal :=
  coreAct s fun s =>
    let t := s.at ns
    (t.setAdc fun a => { a with sent := t.ownAins }).sendHealth (t.role t.pos == 4)

/-- TIME_EXCHANGE_COMPLETE (R48, R49): the Time frame of every voting sibling is held, or SIB_CYC_TMO has passed. -/
def execTimeExchangeComplete (ns : Nat) (s : State) : Host.Outcome State Fault Refusal :=
  coreAct s fun s =>
    let t := s.at ns
    match t.sib.timeRef with
    | none => t
    | some r =>
      if (t.heldOffsets r).length = t.votingSibs.length ∨ t.sib.timeSent + t.fld .SIB_CYC_TMO * 1000 ≤ t.now then t.timeExchange r
      else t

/-- SIBLING_LOST (R55, R56): no valid frame from a sibling for SIB_LOST_T. -/
def execSiblingLost (sib : Fin 2) (ns : Nat) (s : State) : Host.Outcome State Fault Refusal :=
  coreAct s fun s =>
    let k := sib.val
    let t := s.at ns
    if t.pos ≠ 0 ∧ (t.peer k).lost = false ∧ (t.peer k).heardAt + t.fld .SIB_LOST_T_LOST * 1000 ≤ t.now then t.loseSibling k else t

/-! ### Commands: isolation -/

/-- ISOLATION_FRAME (R66): the 20 bits of a line's frame, the first sent lowest; line 0 is ISO_IN_UP. -/
def execIsolationFrame (line : Fin 2) (frame : BitVec 20) (s : State) : Host.Outcome State Fault Refusal :=
  coreAct s fun s =>
    let l := line.val
    let n := frame.toNat
    let mask := bitsOf n 10 3
    let ok := n % 2 = 0 ∧ bitsOf n 2 1 = sibPos s.pos l ∧ bitsOf n 18 11 = 255 - mask ∧ bitOf n 19 = true
    if s.pos = 0 then s
    else if ok then
      ((s.setLine l mask false).setSib fun x => { x with isoMiss := Sparse.put 0 x.isoMiss l 0 }).isoUpdate.learnOwn
    else (s.setLine l 0xFF true).isoUpdate

/-- ISOLATION_LINE_TIMEOUT (R66): no valid frame for two base ticks. -/
def execIsolationLineTimeout (line : Fin 2) (s : State) : Host.Outcome State Fault Refusal :=
  coreAct s fun s =>
    if s.pos ≠ 0 ∧ 2 ≤ Sparse.at 0 s.sib.isoMiss line.val then (s.setLine line.val 0xFF true).isoUpdate else s

/-- LEG_DEVIATION (R65): a sibling's leg has been off its share for FILT base ticks. -/
def execLegDeviation (sib : Fin 2) (leg : Fin 8) (s : State) : Host.Outcome State Fault Refusal :=
  coreAct s fun s => if s.pos = 0 then s else s.legDeviates sib.val leg.val

/-! ### Commands: rejoin -/

/-- BULK_COPY_COMPLETE (R60): on the joiner the shadow begins; on a voting member the copy has been sent. -/
def execBulkCopyComplete (s : State) : Host.Outcome State Fault Refusal :=
  coreAct s fun s =>
    if s.fld .SIB_REJOIN_STAT_PHASE ≠ 3 ∨ s.pos = 0 then s
    else if s.role s.pos = 3 then
      let p := s.fld .SIB_REJOIN_ADMIT_POS
      match sibOf s.pos p with
      | none => s
      | some k =>
        let t := (((s.sendBulk k).setRole p 2).put .SIB_REJOIN_STAT_PHASE 4).put .SIB_REJOIN_STAT_SHADOW_DONE 0
        (t.setSib fun x => { x with windows := Sparse.put 0 x.windows p 0 })
    else if s.mayRejoin then s.beginShadow
    else s

/-- BULK_COPY_TIMEOUT (R60, R61): 200 ms after the copy began. -/
def execBulkCopyTimeout (ns : Nat) (s : State) : Host.Outcome State Fault Refusal :=
  coreAct s fun s =>
    let t := s.at ns
    if t.fld .SIB_REJOIN_STAT_PHASE = 3 ∧ t.sib.bulkAt + 200000000 ≤ t.now then t.rejoinFail 2 else t

/-- REJOIN_IMAGE_RECEIVED (R47, R60, R61): header and body as they arrived. -/
def execRejoinImageReceived (header body : List Byte) (s : State) : Host.Outcome State Fault Refusal :=
  coreAct s fun s =>
    let ph := s.fld .SIB_REJOIN_STAT_PHASE
    if s.pos ≠ 0 ∧ s.mayRejoin = true ∧ ph ≠ 3 ∧ ph ≠ 4 then s.rejoinImage header body else s

/-- SHADOW_COMPLETE (R60, R437). -/
def execShadowComplete (s : State) : Host.Outcome State Fault Refusal :=
  coreAct s fun s =>
    let p := s.fld .SIB_REJOIN_ADMIT_POS
    if s.role s.pos = 3 ∧ s.fld .SIB_REJOIN_STAT_PHASE = 4 ∧ s.role p = 2 ∧ s.sib.wgrp.isNone = true ∧
        (s.group s.wgrpNo).weir = false ∧ s.fld .SIB_REJOIN_SHADOW_CYC ≤ s.fld .SIB_REJOIN_STAT_SHADOW_DONE then
      s.weirStage (0x20 + p)
    else s

/-- AUTO_REJOIN_ADMISSION (R59, R437): at most once every 60 s for a position. -/
def execAutoRejoinAdmission (pos : Fin 4) (ns : Nat) (s : State) : Host.Outcome State Fault Refusal :=
  coreAct s fun s =>
    let t := s.at ns
    let p := pos.val
    let due := match Sparse.at none t.sib.admitAt p with
      | none => true
      | some a => decide (a + 60000000000 ≤ t.now)
    let idle := t.fld .SIB_REJOIN_STAT_PHASE = 0 ∨ 5 ≤ t.fld .SIB_REJOIN_STAT_PHASE
    if t.pos ≠ 0 ∧ t.role t.pos = 3 ∧ t.flag .SIB_CTRL_AUTO_REJOIN = true ∧ t.admissible p = true ∧ idle ∧ due = true ∧
        t.sib.wgrp.isNone = true ∧ (t.group t.wgrpNo).weir = false then
      (t.setSib fun x => { x with admitAt := Sparse.put none x.admitAt p (some t.now) }).weirStage (0x10 + p)
    else t

end Sys2Proof.Machine
end

