-- ==== Sys2Proof/Machine/Time.lean ====
section
/-! DEFINITION. The clocks (R343 to R360): the Spring count and its registers, the PTP clock, launch times. -/

namespace Sys2Proof.Machine

def State.setTime (s : State) (f : TimeState → TimeState) : State := { s with time := f s.time }

/-! ### The Spring -/

/-- The committed values that wait take effect (R345); several of one register in their order. -/
def State.springValues (s : State) : State :=
  let t := s.time.springPend.foldl (fun (t : State) e => t.store (· == .rws) e.1 e.2) s
  (t.setTime fun x => { x with springPend := [] }).putB .SPR_STAT_PENDING false

/-- The count at this edge (R343, R345, R350): a load replaces the increment and discards a median write; a median write adds its
offset. -/
def State.springCount (s : State) : State :=
  let t := s.setTime fun x => { x with medianPend := none }
  if s.flag .SPR_SET_HI_GO then
    let n := s.fld .SPR_SET_LO_COUNT + 4294967296 * s.fld .SPR_SET_HI_COUNT
    (((t.setTime fun x => { x with count := n }).putB .SPR_SET_HI_GO false).putB .SPR_STAT_COUNT_VALID true).putB .SPR_STAT_TIME_VALID
      (s.flag .SPR_SET_HI_TIME)
  else
    let m : Int := s.time.medianPend.getD 0
    let wraps := s.time.count = 2 ^ 48 - 1
    let n := twos 48 ((s.time.count : Int) + 1 + m)
    let u := t.setTime fun x => { x with count := n }
    let v := if wraps then u.putB .SPR_STAT_WRAP true else u
    if s.time.medianPend.isSome then v.putB .SPR_STAT_COUNT_VALID true else v

/-- An hour command acts on the civil offset after a written value (R346). -/
def State.springHour (s : State) : State :=
  let d : Int := match s.fld .SPR_HOUR_ADJ with
    | 1 => 3600
    | 2 => -3600
    | _ => 0
  let t := if d = 0 then s else s.put .SPR_CIVIL_OFS (twos 32 (clampInt (-86400) 86400 (signed 32 (s.fld .SPR_CIVIL_OFS) + d)))
  t.put .SPR_HOUR_ADJ 0

/-- The wake compare (R347). -/
def State.springCompare (s : State) : State :=
  let cmp := s.fld .SPR_CMP_LO_CMP + 4294967296 * s.fld .SPR_CMP_HI_CMP
  if s.flag .SPR_CMP_HI_ARM && decide (cmp ≤ s.time.count) then
    let t := (s.putB .SPR_CMP_HI_ARM false).putB .SPR_STAT_CMP_HIT true
    if t.mode = .sleep then t.wake else t.irq 0x03 8
  else s

/-- The level at SQW_OUT after a tick edge (R348); high impedance, shown low, without VDD33. -/
def State.squareWave (s : State) : Bool :=
  let d := s.fld .SPR_SQW_DIV
  s.mainOn && s.flag .SPR_SQW_EN && (d == 0 || !bitOf s.time.count (d - 1))

/-- SPRING_TICK (R343, R345 to R348): it needs the Spring rail alone. -/
def execSpringTick (s : State) : Host.Outcome State Fault Refusal :=
  let t := (s.springValues.springCount.springHour.springCompare).putB .SPR_STAT_XTAL_STOP false
  effect s (t.setTime fun x => { x with sqw := t.squareWave, xtalStop := false })

/-- SPR_TICK_LO_READ (R344). -/
def execSprTickLoRead (s : State) : Host.Outcome State Fault Refusal :=
  coreAct s fun s => { (s.put .SPR_TICK_HI_COUNT (s.time.count / 4294967296)) with readData := [w32 s.time.count] }

/-- SPR_SNAP (R344): a write of 1 to SNAP. -/
def execSprSnap (value : Word) (s : State) : Host.Outcome State Fault Refusal :=
  hostAct 0x03 0x64 s fun s =>
    if value.getLsbD 0 then
      ((s.put .SPR_SNAP_LO_VALUE s.time.count).put .SPR_SNAP_HI_VALUE (s.time.count / 4294967296)).put .SPR_SNAP_OFS_VALUE
        (s.fld .SPR_CIVIL_OFS)
    else s

/-- XTAL_STOP (R351): seen while the 25 MHz crystal runs. -/
def execXtalStop (s : State) : Host.Outcome State Fault Refusal :=
  coreAct s fun s =>
    if s.flag .SPR_STAT_XTAL_STOP then s
    else
      let t := ((s.putB .SPR_STAT_XTAL_STOP true).putB .SPR_STAT_COUNT_VALID false).putB .SPR_STAT_TIME_VALID false
      (t.setTime fun x => { x with xtalStop := true }).raise 2 0x03 0 2 0

/-- CELL_LOW (R351): VBAT in mV as the Spring compares it, with its hysteresis; a flag that arose on backup power stays until the Weir
runs. -/
def execCellLow (mV : Nat) (s : State) : Host.Outcome State Fault Refusal :=
  let t := s.setTime fun x => { x with vbat := mV }
  let u := if t.awake then t.sample 0x03 1 0 mV else t
  effect s (if mV < 2200 then
      (if u.flag .SPR_STAT_CELL_LOW then u
       else
         let v := u.putB .SPR_STAT_CELL_LOW true
         if v.awake then v.raise 0 0x03 0 1 (min 0xFFFFFF mV) else v)
    else if 2250 ≤ mV ∧ u.awake = true then u.putB .SPR_STAT_CELL_LOW false
    else u)

/-- RAIL_SWITCH (R349): to VBAT, or back to VDD33. -/
def execRailSwitch (toBattery : Bool) (s : State) : Host.Outcome State Fault Refusal := effect s (s.putB .SPR_STAT_ON_BAT toBattery)

/-! ### The PTP clock -/

/-- PTP_INC_FRAC_WRITE (R353, R356). -/
def execPtpIncFracWrite (value : Word) (s : State) : Host.Outcome State Fault Refusal :=
  hostAct 0x18 0x48 s fun s =>
    if s.flag .PTP_STAT_HOLD then s.refuse 0x18 0x90 0x18048
    else (s.setReg 0x18048 value).setTime fun x => { x with incNs := s.fld .PTP_INC_INC_NS, incFrac := value.toNat }

/-- PTP_STEP_HI_WRITE (R353, R356). -/
def execPtpStepHiWrite (value : Word) (s : State) : Host.Outcome State Fault Refusal :=
  hostAct 0x18 0x58 s fun s =>
    if s.flag .PTP_STAT_HOLD then s.refuse 0x18 0x90 0x18058
    else
      let s := s.takeLow 0x18054
      let n := s.fld .PTP_STEP_LO_STEP + 4294967296 * value.toNat
      ((s.setReg 0x18058 value).putB .PTP_STAT_STEP_PEND true).setTime fun x => { x with step := some (signed 64 n) }

/-- A Sync message of a domain on a MAC (R356). -/
def State.syncSeen (t : State) (m domain : Nat) : State :=
  if t.flag .PTP_CTRL_EN && t.flag (.ETH_CTRL_EN m) && t.fld .PTP_CTRL_DOMAIN == domain then
    ((t.put .PTP_STAT_LAST_MAC m).putB .PTP_STAT_HOLD false).setTime fun x => { x with syncAt := t.now }
  else t

/-- SYNC_MESSAGE (R356): a Sync message of a domain received on a MAC. -/
def execSyncMessage (mac : Fin 8) (domain : Byte) (ns : Nat) (s : State) : Host.Outcome State Fault Refusal :=
  coreAct s fun s => (s.at ns).syncSeen mac.val domain.toNat

/-- The time without a Sync message after which Holdover begins: N intervals of 2^LOG_INT s. -/
def State.holdTime (s : State) : Nat :=
  let l := signed 8 (s.fld .PTP_CTRL_LOG_INT)
  if 0 ≤ l then s.fld .PTP_HOLD_N * 1000000000 * 2 ^ l.toNat else s.fld .PTP_HOLD_N * 1000000000 / 2 ^ (-l).toNat

/-- HOLDOVER (R356). -/
def execHoldover (ns : Nat) (s : State) : Host.Outcome State Fault Refusal :=
  coreAct s fun s =>
    let t := s.at ns
    if t.flag .PTP_CTRL_EN && !t.flag .PTP_STAT_HOLD && decide (t.time.syncAt + t.holdTime ≤ t.now) then
      (t.putB .PTP_STAT_HOLD true).raise 0 0x18 0 1 (t.fld .PTP_STAT_LAST_MAC)
    else t

/-- PPS_IN_EDGE (R357): a rising edge held for 100 ns, timestamped at 8 ns resolution. -/
def execPpsInEdge (ns : Nat) (s : State) : Host.Outcome State Fault Refusal :=
  coreAct s fun s => let t := s.at ns; (t.put64 0x18064 0x18068 (t.now / 8 * 8)).putB .PTP_STAT_PPS_SEEN true

/-- PPS_OUT (R357): at a whole second the land rises; PTP_PPS_W ms later it falls. -/
def execPpsOut (ns : Nat) (s : State) : Host.Outcome State Fault Refusal :=
  coreAct s fun s =>
    let t := s.at ns
    if t.time.ppsHigh ∧ t.time.ppsEnd ≤ t.now then (t.setTime fun x => { x with ppsHigh := false }).send (.pps false)
    else if t.flag .PTP_CTRL_PPS_OUT_EN ∧ t.now % 1000000000 = 0 ∧ t.time.ppsHigh = false then
      (t.setTime fun x => { x with ppsHigh := true, ppsEnd := t.now + t.fld .PTP_PPS_W_MS * 1000000 }).send (.pps true)
    else t

/-- LAUNCH_DUE (R355): a frame whose launch time has come leaves an idle MAC, the lowest queue first. -/
def execLaunchDue (mac : Fin 8) (ns : Nat) (s : State) : Host.Outcome State Fault Refusal :=
  coreAct s fun s => (s.at ns).nextFrame mac.val

end Sys2Proof.Machine
end

