-- ==== Sys2Proof/Machine/Networks.lean ====
section
/-! DEFINITION. The networks (R361 to R368): Ethernet reception with PRP and the protocols the device answers, host frames, links;
rows 217 to 226, 274 and 275. -/

namespace Sys2Proof.Machine

def State.setNet (s : State) (f : NetState → NetState) : State := { s with net := f s.net }

/-! ### The host ring (R367) -/

/-- One frame into a MAC's receive ring, if one is declared. TS is open unless the frame is a PTP event message. -/
def State.toRing (s : State) (m : Nat) (f : List Byte) (ptp prp : Bool) : State :=
  let l := s.fld (.ETH_RX_LEN_LOG2 m)
  if l = 0 ∨ s.masked 7 then s
  else
    let wr := s.fld (.ETH_RX_WR m)
    let ts := if ptp then s.now else s.freeVal.toNat
    let t := (if ptp then s else s.usedFree).reqSpan 7 (s.fld (.ETH_RX_BASE m) + 2048 * (wr % 2 ^ l))
      (leBytes 2 f.length ++ leBytes 2 (b2n ptp + 2 * b2n prp + 4 * (m % 2)) ++ leBytes 4 0 ++ leBytes 8 ts ++ f)
    (t.put (.ETH_RX_WR m) (wr + 1)).irq (0x1A + m) 9

/-! ### Protocols the device answers (R364, R365) -/

/-- An ARP message on MAC m: a request for the pair's address is answered. -/
def State.arpIn (s : State) (m : Nat) (p : List Byte) : State :=
  let ip := s.fld (.NET_IP_ADDR (m / 2))
  if p.length < 28 ∨ p.take 8 ≠ [0, 1, 8, 0, 6, 4, 0, 1] ∨ beAt p 24 4 ≠ ip then s
  else
    let who := (p.drop 8).take 10
    let reply := fun k => [0, 1, 8, 0, 6, 4, 0, 2] ++ s.srcAddr k ++ beBytes 4 ip ++ who
    (s.sendPair (m / 2) 1 s.now fun k => s.taggedFrame (who.take 6) 0 0x0806 (reply k) k).bump .NET_CNT_ARP

/-- The header length of an IPv4 packet. -/
def ipHeader (pkt : List Byte) : Nat := byteAt pkt 0 % 16 * 4
/-- Is it a whole IPv4 packet of a protocol: version, lengths and header checksum right? -/
def ipValid (proto : Nat) (pkt : List Byte) : Bool :=
  byteAt pkt 0 / 16 == 4 && decide (20 ≤ ipHeader pkt) && decide (ipHeader pkt ≤ beAt pkt 2 2) &&
    decide (beAt pkt 2 2 ≤ pkt.length) && byteAt pkt 9 == proto && inetChecksum (pkt.take (ipHeader pkt)) == 0
/-- Is it a fragment? -/
def ipFragment (pkt : List Byte) : Bool := beAt pkt 6 2 % 0x4000 != 0
/-- What an IPv4 packet carries. -/
def ipBody (pkt : List Byte) : List Byte := (pkt.take (beAt pkt 2 2)).drop (ipHeader pkt)

/-- Is it an ICMP echo request? -/
def isEcho (pkt : List Byte) : Bool := ipValid 1 pkt && byteAt (ipBody pkt) 0 == 8
/-- Is it an IGMP membership query? -/
def isQuery (pkt : List Byte) : Bool := ipValid 2 pkt && byteAt (ipBody pkt) 0 == 0x11

/-- The echo replies of the second of a time, on a pair. -/
def State.icmpCount (s : State) (p : Nat) : Nat :=
  let e := Sparse.at (0, 0) s.net.icmp p
  if e.1 = s.now / 1000000000 then e.2 else 0

/-- An ICMP echo request on MAC m from an Ethernet address (R364): answered up to 16 times a second, where ICMP is 1. -/
def State.echoIn (s : State) (m : Nat) (src pkt : List Byte) : State :=
  let p := m / 2
  let b := ipBody pkt
  let ip := s.fld (.NET_IP_ADDR p)
  if !isEcho pkt || ipFragment pkt || b.length < 8 || byteAt b 1 != 0 || inetChecksum b != 0 || beAt pkt 16 4 != ip ||
      !s.flag .NET_CTRL_ICMP || decide (16 ≤ s.icmpCount p) then s
  else
    let r := fun sum => [(0 : Byte), 0] ++ beBytes 2 sum ++ b.drop 4
    let out := s.ipPacket ip (beAt pkt 12 4) 1 Config.ipTtl.toNat [] (r (inetChecksum (r 0)))
    let t := s.setNet fun x => { x with icmp := Sparse.put (0, 0) x.icmp p (s.now / 1000000000, s.icmpCount p + 1) }
    ((t.sendPair p 1 t.now (t.taggedFrame src 0 0x0800 out)).usedFree).bump .NET_CNT_ICMP

/-- An IGMP query on MAC m of a station ring: answered where IGMP is 1. -/
def State.queryIn (s : State) (m : Nat) (pkt : List Byte) : State :=
  if isQuery pkt ∧ s.flag .NET_CTRL_IGMP ∧ (m / 2 = 1 ∨ m / 2 = 2) then s.igmpReport (m / 2) else s

/-- The first TLV of an LLDPDU, whole, and the rest. -/
def firstTlv (b : List Byte) : List Byte × List Byte :=
  let n := 2 + beAt b 0 2 % 512
  (b.take n, b.drop n)

/-- An LLDPDU on MAC m (R365): chassis ID, port ID and TTL stand first, in this order. -/
def State.lldpIn (s : State) (m : Nat) (b : List Byte) : State :=
  let c := firstTlv b
  let p := firstTlv c.2
  let t := (firstTlv p.2).1
  if byteAt c.1 0 / 2 ≠ 1 ∨ byteAt p.1 0 / 2 ≠ 2 ∨ byteAt t 0 / 2 ≠ 3 ∨ t.length < 4 then s
  else
    let ttl := beAt t 2 2
    s.setMac m fun x => { x with lldp := if ttl = 0 then none else some (c.1 ++ p.1, s.now + ttl * 1000000000) }

/-- A UDP datagram on a station ring for the station port (R234): its payload goes to the station manager. -/
def State.stationIn (s : State) (m : Nat) (src pkt : List Byte) : State :=
  let u := ipBody pkt
  if ipFragment pkt then s.bump .STN_RX_OTHER
  else
    let len := beAt u 4 2
    let pseudo := (pkt.drop 12).take 8 ++ [0x00, 0x11] ++ (u.drop 4).take 2
    if len < 8 ∨ u.length < len ∨ (beAt u 6 2 ≠ 0 ∧ inetChecksum (pseudo ++ u.take len) ≠ 0) then s
    else s.stationFrame m (beNat src) (beAt pkt 12 4) ((u.take len).drop 8)

/-- Is a packet on MAC m one for the station manager: UDP to the group of the stations or the own address, the station port or a
fragment? -/
def State.forStations (s : State) (m : Nat) (pkt : List Byte) : Bool :=
  s.flag .STN_CTRL_EN && (m / 2 == 1 || m / 2 == 2) && ipValid 17 pkt &&
    (beAt pkt 16 4 == s.fld .STN_MCAST_UP_ADDR || beAt pkt 16 4 == s.fld (.NET_IP_ADDR (m / 2))) &&
    (ipFragment pkt || beAt (ipBody pkt) 2 2 == s.fld .STN_PORT_PORT)

/-- The PTP message a frame holds: in an Ethernet frame of type 0x88F7, or in a datagram to UDP port 319. -/
def ptpOf (type : Nat) (b : List Byte) : Option (List Byte) :=
  if type = 0x88F7 then some b
  else if type = 0x0800 ∧ ipValid 17 b ∧ ipFragment b = false ∧ beAt (ipBody b) 2 2 = 319 then some ((ipBody b).drop 8) else none

/-- Is a PTP message an event message (types 0 to 3)? -/
def ptpEvent (b : List Byte) : Bool := decide (byteAt b 0 % 16 < 4)

/-- What follows a frame's addresses and tag: its type and payload. -/
def frameType (f : List Byte) : Nat × List Byte :=
  if isTagged f then (beAt f 16 2, f.drop 18) else (beAt f 12 2, f.drop 14)

/-- An accepted frame (R361): consumed, or to the host ring; a PTP Sync also counts (R356). -/
def State.frameIn (s : State) (m : Nat) (f : List Byte) (prp : Bool) : State :=
  let src := (f.drop 6).take 6
  let tb := frameType f
  if tb.1 = 0x0806 then s.arpIn m tb.2
  else if tb.1 = 0x88CC then s.lldpIn m tb.2
  else if tb.1 = 0x88FB then s
  else if tb.1 = 0x0800 ∧ isEcho tb.2 then s.echoIn m src tb.2
  else if tb.1 = 0x0800 ∧ (m / 2 = 1 ∨ m / 2 = 2) ∧ isQuery tb.2 then s.queryIn m tb.2
  else if tb.1 = 0x0800 ∧ s.forStations m tb.2 then s.stationIn m src tb.2
  else match ptpOf tb.1 tb.2 with
    | some b =>
      let t := if byteAt b 0 % 16 = 0 then s.syncSeen m (byteAt b 4) else s
      t.toRing m f (ptpEvent b) prp
    | none => s.toRing m f false prp

/-! ### PRP (R368) -/

/-- Sequence number and LAN ID of a frame's valid trailer. -/
def trailerOf (f : List Byte) : Option (Nat × Nat) :=
  let n := f.length
  let w := beAt f (n - 4) 2
  if 20 ≤ n ∧ beAt f (n - 2) 2 = 0x88FB ∧ w % 0x1000 = n - 14 - (if isTagged f then 4 else 0) ∧ (w / 0x1000 = 0xA ∨ w / 0x1000 = 0xB) then
    some (beAt f (n - 6) 2, w / 0x1000)
  else none

/-- The discard table of a pair: the entries that still count. -/
def State.prpLive (s : State) (p : Nat) : List (Nat × Nat × Nat) :=
  (Sparse.at [] s.net.prpSeen p).filter fun e => decide (s.now ≤ e.2.2 + s.fld .PRP_FORGET_MS * 1000000)

/-- A frame through the duplicate discard of its pair. -/
def State.prpIn (s : State) (m : Nat) (f : List Byte) : State :=
  let p := m / 2
  match (if s.prpOn p then trailerOf f else none) with
  | none => s.frameIn m f false
  | some (seq, lan) =>
    let src := beAt f 6 6
    let live := s.prpLive p
    if live.any fun e => e.1 == src && e.2.1 == seq then s.bump (.PRP_CNT_DUP p)
    else
      let t := s.setNet fun x => { x with prpSeen := Sparse.put [] x.prpSeen p (live.drop (live.length - 2047) ++ [(src, seq, s.now)]) }
      let u := if lan ≠ 0xA + m % 2 then t.bump (.PRP_CNT_WRONG_LAN p) else t
      u.frameIn m (f.take (f.length - 6)) true

/-- A frame as a MAC receives it, without FCS (R362, R363, R384). -/
def State.etherIn (s : State) (m : Nat) (f : List Byte) (fcsOk : Bool) : State :=
  let vid := beAt f 14 2 % 4096
  let tb := frameType f
  if !s.flag (.ETH_CTRL_EN m) then s
  else if !fcsOk then s.bump (.ETH_ERR_FCS m)
  else if f.length + 4 < 64 ∨ 1536 < f.length + 4 then s.bump (.ETH_ERR_SIZE m)
  else if tb.1 = 0x8808 ∧ beAt tb.2 0 2 = 1 then s.bump (.ETH_ERR_PAUSE m)
  else if isTagged f ∧ vid ≠ 0 ∧ vid ≠ s.fld (.ETH_CTRL_VID m) then s.bump (.ETH_ERR_VLAN m)
  else (s.bump (.ETH_CNT_RX m)).prpIn m f

/-! ### The commands -/

/-- ETHERNET_FRAME (R361 to R368): a frame without its FCS, whether that was right, the instant of R354. -/
def execEthernetFrame (mac : Fin 8) (ns : Nat) (frame : List Byte) (fcsOk : Bool) (s : State) : Host.Outcome State Fault Refusal :=
  coreAct s fun s => (s.at ns).etherIn mac.val frame fcsOk

/-- ARP_REQUEST (R364): an ARP message accepted on a MAC. -/
def execArpRequest (mac : Fin 8) (message : List Byte) (s : State) : Host.Outcome State Fault Refusal :=
  coreAct s fun s => s.arpIn mac.val message

/-- ICMP_ECHO (R364): an IPv4 packet with an echo request, from an Ethernet address. -/
def execIcmpEcho (mac : Fin 8) (src : BitVec 48) (packet : List Byte) (s : State) : Host.Outcome State Fault Refusal :=
  coreAct s fun s => s.echoIn mac.val (beBytes 6 src.toNat) packet

/-- IGMP_QUERY (R364): an IPv4 packet with a membership query. -/
def execIgmpQuery (mac : Fin 8) (packet : List Byte) (s : State) : Host.Outcome State Fault Refusal :=
  coreAct s fun s => s.queryIn mac.val packet

/-- LLDPDU (R365). -/
def execLldpdu (mac : Fin 8) (ns : Nat) (pdu : List Byte) (s : State) : Host.Outcome State Fault Refusal :=
  coreAct s fun s => (s.at ns).lldpIn mac.val pdu

/-- LLDP_TTL_EXPIRY (R365). -/
def execLldpTtlExpiry (mac : Fin 8) (ns : Nat) (s : State) : Host.Outcome State Fault Refusal :=
  coreAct s fun s =>
    let t := s.at ns
    match (t.mac mac.val).lldp with
    | some e => if e.2 ≤ t.now then t.setMac mac.val fun x => { x with lldp := none } else t
    | none => t

/-- The LLDPDU of a MAC (R365): untagged, and of that MAC alone. -/
def State.ownLldp (s : State) (m : Nat) : List Byte :=
  padFrame ([0x01, 0x80, 0xC2, 0x00, 0x00, 0x0E] ++ s.macAddr m ++ [0x88, 0xCC] ++ [0x02, 0x07, 0x04] ++ s.macAddr 0 ++
    [0x04, 0x07, 0x03] ++ s.macAddr m ++ [0x06, 0x02, 0x00, 0x78] ++ [0x00, 0x00])

/-- LLDP_TRANSMIT (R365). -/
def execLldpTransmit (mac : Fin 8) (s : State) : Host.Outcome State Fault Refusal :=
  coreAct s fun s =>
    if s.flag (.ETH_CTRL_LLDP_TX mac.val) then
      s.enqueueFrame mac.val 1 { launch := s.now, bytes := s.ownLldp mac.val } else s

/-- PRP_SUPERVISION (R368): a supervision frame of IEC 62439-3 on both LANs; its own sequence number is open. -/
def execPrpSupervision (pair : Fin 4) (s : State) : Host.Outcome State Fault Refusal :=
  coreAct s fun s =>
    let p := pair.val
    if s.prpOn p && bitOf (s.fld .PRP_CTRL_SUP) p then
      let body := [0x00, 0x01] ++ beBytes 2 s.freeVal.toNat ++ [0x14, 0x06] ++ s.macAddr (2 * p) ++ [0x00, 0x00]
      (s.usedFree).sendPair p 1 s.now (s.taggedFrame [0x01, 0x15, 0x4E, 0x00, 0x01, 0x00] 0 0x88FB body)
    else s

/-- LINK_DOWN (R362, R383). -/
def execLinkDown (mac : Fin 8) (s : State) : Host.Outcome State Fault Refusal :=
  coreAct s fun s =>
    if s.flag (.ETH_STAT_LINK mac.val) then (s.putB (.ETH_STAT_LINK mac.val) false).raise 0 (0x1A + mac.val) 0 1 0 else s

/-- ETH_LINK_UP (R362). -/
def execEthLinkUp (mac : Fin 8) (speed : Fin 4) (s : State) : Host.Outcome State Fault Refusal :=
  coreAct s fun s => (s.putB (.ETH_STAT_LINK mac.val) true).put (.ETH_STAT_SPEED mac.val) speed.val

def State.slotBusy (s : State) (m k : Nat) : Bool := bitOf (s.fld (.ETH_TX_BUSY m (k / 32))) (k % 32)
def State.setSlotBusy (s : State) (m k : Nat) (b : Bool) : State :=
  let f := Fd.ETH_TX_BUSY m (k / 32)
  let w := s.fld f
  s.put f (w - b2n (bitOf w (k % 32)) * 2 ^ (k % 32) + b2n b * 2 ^ (k % 32))

/-- A host frame queued: on a pair with PRP it leaves on both MACs with the trailer, else as it stands (R363, R366, R368). A full
queue and a MAC not in use take none. -/
def State.hostFrame (s : State) (m q k : Nat) (f : TxFrame) : State :=
  let p := m / 2
  if !s.flag (.ETH_CTRL_EN m) ∨ 32 ≤ ((s.mac m).queue q).length then s
  else
    let t := s.setSlotBusy m k true
    if s.prpOn p then
      let seq := Sparse.at 0 s.net.prpSeq p
      let o := 2 * p + (1 - m % 2)
      ((t.enqueueFrame m q { f with bytes := withTrailer seq (0xA + m % 2) f.bytes }).enqueueFrame o q
        { launch := f.launch, bytes := withTrailer seq (0xA + o % 2) f.bytes }).bumpPrp p
    else t.enqueueFrame m q f

/-- ETH_TX_CMD (R366). -/
def execEthTxCmd (mac : Fin 8) (value : Word) (s : State) : Host.Outcome State Fault Refusal :=
  hostAct (0x1A + mac.val) 0x74 s fun s =>
    let m := mac.val
    let len := (Fd.ETH_TX_CMD_LEN m).of value
    let k := (Fd.ETH_TX_CMD_SLOT m).of value
    if len < 60 ∨ 1514 < len ∨ s.slotBusy m k then s.refuse (0x1A + m) 0xB0 (0x1A074 + 0x1000 * m)
    else s.hostFrame m (2 + (Fd.ETH_TX_CMD_Q m).of value) k
      { launch := s.get64 (0x1A06C + 0x1000 * m) (0x1A070 + 0x1000 * m), slot := some k, ts := bitOf value.toNat 31,
        bytes := s.reqReadBytes (s.fld (.ETH_TX_BASE m) + 2048 * k) len }

/-- ETH_TRANSMIT_END (R355, R366). -/
def execEthTransmitEnd (mac : Fin 8) (s : State) : Host.Outcome State Fault Refusal :=
  coreAct s fun s =>
    let m := mac.val
    match (s.mac m).sending with
    | none => s
    | some f =>
      let t := (s.setMac m fun x => { x with sending := none }).bump (.ETH_CNT_TX m)
      (match f.slot with
        | some k => t.setSlotBusy m k false
        | none => t).nextFrame m

end Sys2Proof.Machine
end

