-- ==== Sys2Proof/Machine/FieldBus.lean ====
section
/-! DEFINITION. The field buses (R369 to R376): CAN with its transmit map, RS-485; rows 227 to 235 and 276. -/

namespace Sys2Proof.Machine

/-! ### CAN frames (R369, R373) -/

/-- The number of payload bytes a DLC codes (ISO 11898-1): a classical frame holds at most 8. -/
def dlcBytes (fd : Bool) (dlc : Nat) : Nat :=
  if dlc ≤ 8 then dlc else if !fd then 8 else [12, 16, 20, 24, 32, 48, 64].getD (dlc - 9) 64

/-- The first n bytes of words, each least significant byte first. -/
def payloadOf (ws : List Word) (n : Nat) : List Byte := (wordsBytes ws).take n

/-- Do two frames say the same on the bus? -/
def CanFrame.same (a b : CanFrame) : Bool :=
  a.xtd == b.xtd && a.id == b.id && a.fd == b.fd && a.brs == b.brs && a.dlc == b.dlc && a.data == b.data

/-- Word k of transmit map entry n of a bus (R373). -/
def State.mapWord (s : State) (b n k : Nat) : Nat := (s.word (s.fld (.CAN_MAP_BASE 0) / 4 + 4 * (64 * b + n) + k)).toNat

/-- Is an entry of the map in use? -/
def State.mapEn (s : State) (b n : Nat) : Bool := s.fld (.CAN_MAP_BASE 0) != 0 && bitOf (s.mapWord b n 0) 0

/-- The own build of an entry's frame from the voted image the outputs follow, if there is one (R373). With CAN_CTRL.FD 0 the bus
takes classical frames alone. -/
def State.mapFrame (s : State) (b n : Nat) : Option CanFrame :=
  s.field.outImage.map fun img =>
    let fl := s.mapWord b n 0
    let fd := bitOf fl 1 && s.flag (.CAN_CTRL_FD b)
    let dlc := bitsOf fl 7 4
    let src := bitsOf (s.mapWord b n 3) 23 0
    let xtd := bitOf fl 3
    { xtd := xtd, id := s.mapWord b n 1 % (if xtd then 2 ^ 29 else 2 ^ 11), fd := fd, brs := fd && bitOf fl 2, dlc := dlc,
      data := payloadOf ((List.range 16).map fun k => Sparse.at 0 img (src + k)) (dlcBytes fd dlc) }

/-- Is bus b of a position Error Active, as CAN_STAT or its last Health frame says (R373)? -/
def State.busActive (s : State) (p b : Nat) : Bool :=
  if p = s.pos then s.fld (.CAN_STAT_STATE b) == 0
  else match sibOf s.pos p with
    | some k => match (Sparse.at {} s.sib.peers k).health with
      | some h => bitOf h.can.toNat b
      | none => false
    | none => false

/-- The member that sends a bus's map frames: the first of A, B, C that is Voting with the bus Error Active (R373). -/
def State.canSender (s : State) (b : Nat) : Option Nat :=
  if s.pos = 0 then (if s.busActive 0 b then some 0 else none)
  else [1, 2, 3].find? fun p => s.role p == 3 && s.busActive p b

/-- The map frames of a bus at base tick t: sent, or kept to compare (R373). -/
def State.canMapBus (s : State) (t b : Nat) : State :=
  let own := s.canSender b == some s.pos
  forN 64 (fun n u =>
    if u.mapEn b n ∧ t % max 1 (bitsOf (u.mapWord b n 2) 21 0) = 0 then
      match u.mapFrame b n with
      | some f =>
        let v := u.setCan b fun c => { c with built := Sparse.put none c.built n (some f) }
        if own then v.canQueue b { map := true, f := f } else v
      | none => u
    else u) s

/-- The map frames of a base tick, in Run and Degraded, of a voting member. -/
def State.canMapTick (s : State) (t : Nat) : State :=
  if s.live ∧ s.voting then forN 4 (fun b u => if u.flag (.CAN_CTRL_EN b) then u.canMapBus t b else u) s else s

/-- A received frame beside the own builds: a difference raises an E1 MAP_DIFF (R373, R383). -/
def State.mapCheck (s : State) (b : Nat) (f : CanFrame) : State :=
  if !s.live ∨ !s.voting ∨ s.canSender b = some s.pos then s
  else
    let es := (List.range 64).filterMap fun n =>
      if s.mapEn b n then (Sparse.at none (s.canBus b).built n).map fun g => (n, g) else none
    match es.filter fun e => e.2.xtd == f.xtd && e.2.id == f.id with
    | [] => s
    | e :: r => if (e :: r).any fun x => x.2.same f then s else s.raise 1 (0x23 + b) e.1 3 (f.id % 0x1000000)

/-! ### Error counters (R371) -/

/-- TEC and REC of a bus with the state they bring: error passive above 127, bus-off above 255 (ISO 11898-1). -/
def State.canErrors (s : State) (b tec rec : Nat) : State :=
  let old := s.fld (.CAN_STAT_STATE b)
  let s1 := (s.put (.CAN_STAT_TEC b) (min 255 tec)).put (.CAN_STAT_REC b) (min 255 rec)
  if 2 ≤ old then s1
  else if 255 < tec then
    let c := s1.canBus b
    let n := c.pend.length + c.sending.toList.length
    (((s1.setCan b fun x => { x with pend := [], sending := none }).bumpBy (.CAN_CNT_DROP b) n).put (.CAN_STAT_STATE b) 2).raise
      1 (0x23 + b) 0 2 tec
  else if 127 < tec ∨ 127 < rec then
    (if old = 0 then (s1.put (.CAN_STAT_STATE b) 1).raise 0 (0x23 + b) 0 1 tec else s1)
  else s1.put (.CAN_STAT_STATE b) 0

/-! ### CAN commands -/

/-- CAN_FRAME_RECEIVED (R372, R373): the frame, the instant of its start, the error counters after it. -/
def execCanFrameReceived (bus : Fin 4) (ns : Nat) (xtd : Bool) (id : BitVec 29) (fd brs esi : Bool) (dlc : BitVec 4) (data : List Byte)
    (tec rec : BitVec 9) (s : State) : Host.Outcome State Fault Refusal :=
  coreAct s fun s0 =>
    let b := bus.val
    let s := s0.at ns
    if !s.flag (.CAN_CTRL_EN b) ∨ 2 ≤ s.fld (.CAN_STAT_STATE b) then s
    else
      let n := dlcBytes fd dlc.toNat
      let f : CanFrame := { xtd := xtd, id := if xtd then id.toNat else id.toNat % 2048, fd := fd, brs := fd && brs, esi := fd && esi,
                            dlc := dlc.toNat, data := (data ++ List.replicate n 0).take n, ts := ns }
      let t := ((s.bump (.CAN_CNT_RX b)).canErrors b tec.toNat rec.toNat).mapCheck b f
      if 512 ≤ (t.canBus b).rx.length then t.bump (.CAN_CNT_LOST b)
      else (t.setCan b fun c => { c with rx := c.rx ++ [f] }).irq (0x23 + b) 8

/-- CAN_TRANSMIT_END (R371): 0 sent, 1 an error frame, 2 arbitration lost; the error counters after it. -/
def execCanTransmitEnd (bus : Fin 4) (result : Fin 3) (tec rec : BitVec 9) (s : State) : Host.Outcome State Fault Refusal :=
  coreAct s fun s =>
    let b := bus.val
    match (s.canBus b).sending with
    | none => s
    | some x =>
      let t := s.setCan b fun c => { c with sending := none }
      let u := match result.val with
        | 0 => t.send (.can b x.f)
        | 1 =>
          if s.fld (.CAN_CTRL_RETRY b) ≤ x.tries then t.bump (.CAN_CNT_DROP b)
          else t.setCan b fun c => { c with pend := { x with tries := x.tries + 1 } :: c.pend }
        | _ => t.setCan b fun c => { c with pend := x :: c.pend }
      (u.canErrors b tec.toNat rec.toNat).canNext b

/-- BUS_OFF (R371): the error counters that bring error passive or bus-off. -/
def execBusOff (bus : Fin 4) (tec rec : BitVec 9) (s : State) : Host.Outcome State Fault Refusal :=
  coreAct s fun s =>
    if s.flag (.CAN_CTRL_EN bus.val) ∧ (127 < tec.toNat ∨ 127 < rec.toNat) then s.canErrors bus.val tec.toNat rec.toNat else s

/-- BUS_OFF_RECOVERY (R371): 128 occurrences of 11 recessive bits. -/
def execBusOffRecovery (bus : Fin 4) (s : State) : Host.Outcome State Fault Refusal :=
  coreAct s fun s =>
    let b := bus.val
    if s.flag (.CAN_CTRL_EN b) ∧ s.flag (.CAN_CTRL_AUTO_RECOV b) ∧ s.fld (.CAN_STAT_STATE b) = 2 then
      (((s.put (.CAN_STAT_STATE b) 0).put (.CAN_STAT_TEC b) 0).put (.CAN_STAT_REC b) 0).canNext b
    else s

/-- CAN_RX_POP (R372). -/
def execCanRxPop (bus : Fin 4) (value : Word) (s : State) : Host.Outcome State Fault Refusal :=
  hostAct (0x23 + bus.val) 0x68 s fun s =>
    if bitOf value.toNat 0 then
      let t := s.setCan bus.val fun c => { c with rx := c.rx.tail }
      if (t.canBus bus.val).rx.isEmpty then t else t.irq (0x23 + bus.val) 8
    else s

/-- The host's frame in the CAN_TX registers, its flags from a write of CAN_TX_FLG. -/
def State.hostCan (s : State) (b : Nat) (flg : Word) : CanFrame :=
  let fd := (Fd.CAN_TX_FLG_FD b).of flg == 1 && s.flag (.CAN_CTRL_FD b)
  let dlc := (Fd.CAN_TX_FLG_DLC b).of flg
  let xtd := s.flag (.CAN_TX_ID_XTD b)
  { xtd := xtd, id := s.fld (.CAN_TX_ID_ID b) % (if xtd then 2 ^ 29 else 2 ^ 11), fd := fd,
    brs := fd && (Fd.CAN_TX_FLG_BRS b).of flg == 1, esi := fd && (Fd.CAN_TX_FLG_ESI b).of flg == 1, dlc := dlc,
    data := payloadOf ((List.range 16).map fun k => s.reg (0x23100 + 0x1000 * b + 4 * k)) (dlcBytes fd dlc) }

/-- CAN_TX_GO (R373, R384): a write of CAN_TX_FLG with GO; GO does not stay. -/
def execCanTxGo (bus : Fin 4) (value : Word) (s : State) : Host.Outcome State Fault Refusal :=
  hostAct (0x23 + bus.val) 0xC4 s fun s =>
    let b := bus.val
    let flg := value &&& 0x7FFFFFFF#32
    let c := s.canBus b
    if !bitOf value.toNat 31 then s.store (· == .rw) (0x230C4 + 0x1000 * b) flg
    else if 16 ≤ ((c.pend ++ c.sending.toList).filter fun x => !x.map).length then s.refuse (0x23 + b) 0xB6 (0x230C4 + 0x1000 * b)
    else (s.store (· == .rw) (0x230C4 + 0x1000 * b) flg).canQueue b { map := false, f := s.hostCan b flg }

/-! ### RS-485 -/

def State.serLine (s : State) (l : Nat) : Ser := Sparse.at {} s.net.ser l
def State.setSer (s : State) (l : Nat) (f : Ser → Ser) : State :=
  { s with net := { s.net with ser := Sparse.mod {} s.net.ser l f } }

/-- A bit time in units of 0.5 ns (R374: 400,000,000 / V bit/s). -/
def State.serBit (s : State) (l : Nat) : Nat := 5 * s.fld (.SER_BAUD_V l)
/-- GAP in units of 0.5 ns; 0 is taken as 1 (R384). -/
def State.serGap (s : State) (l : Nat) : Nat := max 1 (s.fld (.SER_GAP_GAP l)) * s.serBit l
/-- The bits from a byte's start bit to its stop bit (R374). -/
def State.serFrame (s : State) (l : Nat) : Nat := if s.fld (.SER_CTRL_PARITY l) = 0 then 9 else 10

/-- A transmission that has fallen due starts, or waits for GAP idle bit times (R375). -/
def State.serStart (s : State) (l : Nat) : State :=
  let x := s.serLine l
  match x.tx with
  | none => s
  | some bs =>
    if x.started ∨ s.now < x.due then s
    else match x.lastRx with
      | some (a, e) =>
        if 2 * s.now < 2 * a + s.serGap l then
          (s.setSer l fun y => { y with due := e + (s.serGap l + 1) / 2 }).bump (.SER_STAT_DEFER l)
        else bs.foldl (fun t b => t.send (.ser l b)) (s.setSer l fun y => { y with started := true })
      | none => bs.foldl (fun t b => t.send (.ser l b)) (s.setSer l fun y => { y with started := true })

/-- SER_TX_CMD (R375): refused while BUSY; a length outside 1 to 4,096 and a line not in use send nothing. -/
def execSerTxCmd (line : Fin 4) (value : Word) (s : State) : Host.Outcome State Fault Refusal :=
  hostAct (0x27 + line.val) 0x5C s fun s =>
    let l := line.val
    let n := (Fd.SER_TX_CMD_LEN l).of value
    let due := if bitOf value.toNat 31 then s.get64 (0x27060 + 0x1000 * l) (0x27064 + 0x1000 * l) else 0
    if s.flag (.SER_STAT_BUSY l) then s.refuse (0x27 + l) 0xB1 (0x2705C + 0x1000 * l)
    else if n = 0 ∨ 4096 < n ∨ !s.flag (.SER_CTRL_EN l) then s
    else ((s.setSer l fun y => { y with tx := some (s.reqReadBytes (s.fld (.SER_TX_BASE l)) n), started := false, due := due }).putB
      (.SER_STAT_BUSY l) true).serStart l

/-- SER_TX_TIME_REACHED (R375): SER_TX_TIME, or the end of the wait for GAP idle bit times. -/
def execSerTxTimeReached (line : Fin 4) (ns : Nat) (s : State) : Host.Outcome State Fault Refusal :=
  coreAct s fun s => (s.at ns).serStart line.val

/-- SER_TRANSMIT_END (R375, R434). -/
def execSerTransmitEnd (line : Fin 4) (s : State) : Host.Outcome State Fault Refusal :=
  coreAct s fun s =>
    let l := line.val
    if (s.serLine l).started then
      ((s.setSer l fun y => { y with tx := none, started := false }).putB (.SER_STAT_BUSY l) false).irq (0x27 + l) 9
    else s

/-- One entry into a line's ring, if one is declared. -/
def State.serRing (s : State) (l : Nat) (v : Nat) : State :=
  let lg := s.fld (.SER_RING_LEN_LOG2 l)
  if lg = 0 ∨ s.masked 7 then s
  else
    let wr := s.fld (.SER_RING_WR l)
    ((s.reqSpan 7 (s.fld (.SER_RING_BASE l) + 8 * (wr % 2 ^ lg)) (leBytes 8 v)).put (.SER_RING_WR l) (wr + 1)).irq (0x27 + l) 8

/-- SER_BYTE_RECEIVED (R375, R376): the byte with its flags, the instant of its stop bit. The receiver is off while the line sends. -/
def execSerByteReceived (line : Fin 4) (ns : Nat) (byte : Byte) (parity framing brk : Bool) (s : State) : Host.Outcome State Fault Refusal :=
  coreAct s fun s0 =>
    let l := line.val
    let s := s0.at ns
    let x := s.serLine l
    if !s.flag (.SER_CTRL_EN l) ∨ x.started then s
    else
      let start := s.now - s.serFrame l * s.serBit l / 2
      let gap := match x.lastRx with
        | some (_, e) => decide (2 * e + s.serGap l ≤ 2 * start)
        | none => true
      let v := byte.toNat + 256 * b2n parity + 512 * b2n framing + 1024 * b2n gap + 2048 * b2n brk + 65536 * (s.now % 2 ^ 48)
      let t1 := s.setSer l fun y => { y with lastRx := some (start, s.now) }
      let t2 := if parity then t1.bump (.SER_STAT_PARITY l) else t1
      let t3 := if framing then t2.bump (.SER_STAT_FRAMING l) else t2
      t3.serRing l v

end Sys2Proof.Machine
end

