-- ==== Sys2Proof/Machine/HostPorts.lean ====
section
/-! DEFINITION. Host and storage ports (R377, R378, R380 to R382): BAR2, interrupt messages, xSPI operations, board management; rows
236, 237, 239 to 244 and 277. -/

namespace Sys2Proof.Machine

/-! ### PCI Express (R377, R378) -/

/-- BAR2_ACCESS (R377): a write of bytes, or a read of some, through BAR2 as requester 8; ecc: an error that the read finds, in which
of its words (R110). -/
def execBar2Access (addr : BitVec 26) (op : Bar2Op) (count : Fin 513) (s : State) : Host.Outcome State Fault Refusal :=
  coreAct s fun s =>
    match op with
    | .write bs => s.reqSpan 8 addr.toNat ((bs.take 256).take (67108864 - addr.toNat))
    | .read ecc =>
      let t := s.readFinds 8 (ecc.map fun e => (e.1, addr.toNat / 4 + e.2.val))
      { t with readData := t.reqReadSpan addr.toNat (min count.val (67108864 - addr.toNat)) }

/-- HIF_REARM (R378): the message of each active vector named is sent again. -/
def execHifRearm (value : Word) (s : State) : Host.Outcome State Fault Refusal :=
  hostAct 0x2B 0x48 s fun s =>
    forN 32 (fun v t => if bitOf value.toNat v ∧ t.vecActive v then t.send (.msix v) else t) s

/-! ### xSPI operations (R381) -/

/-- The sector an erase takes. -/
def sectorSize : Nat := 2 ^ Config.xspiSect.toNat

/-- The range of the memory an operation touches, as address and length. -/
def State.xspiRange (s : State) (op : Nat) : Nat × Nat :=
  let a := s.fld .OSP_ADDR
  if op = 3 then (a / sectorSize * sectorSize, sectorSize) else (a, s.fld .OSP_LEN)

/-- Do two ranges touch? -/
def touches (a n b m : Nat) : Bool := decide (a < b + m) && decide (b < a + n)

/-- Does a range touch the Sediment ring? -/
def State.touchesRing (s : State) (r : Nat × Nat) : Bool :=
  touches r.1 r.2 (s.fld .SED_XR_BASE_ADDR) (s.fld .SED_XR_LEN_SECT * 0x10000)

/-- Does a range touch the slot from which the applied image came (R30, R33)? -/
def State.touchesImage (s : State) (r : Nat × Nat) : Bool :=
  (s.fld .SYS_BOOT_STAT_RESULT == 1 && touches r.1 r.2 0 0x2000000) ||
    (s.fld .SYS_BOOT_STAT_RESULT == 2 && touches r.1 r.2 0x2000000 0x2000000)

/-- A write of OSP_CMD: refused, or the operation starts. A length outside 1 to 65,536 starts none. -/
def State.ospStart (s : State) (op : Nat) : State :=
  let r := s.xspiRange op
  if s.flag .OSP_STAT_BUSY then s.refuse 0x2C 0xB2 0x2C050
  else if s.touchesRing r then s.refuse 0x2C 0xB3 0x2C050
  else if s.live ∧ s.touchesImage r then s.refuse 0x2C 0xB4 0x2C050
  else if op ≠ 3 ∧ (r.2 = 0 ∨ 65536 < r.2) then s
  else (s.setNet fun x => { x with xspiOp := some { op := op, adr := r.1, buf := s.fld .OSP_BUF, len := r.2 } }).putB .OSP_STAT_BUSY true

/-- OSP_READ (R381). -/
def execOspRead (s : State) : Host.Outcome State Fault Refusal := hostAct 0x2C 0x50 s fun s => s.ospStart 1
/-- OSP_PROGRAM (R381). -/
def execOspProgram (s : State) : Host.Outcome State Fault Refusal := hostAct 0x2C 0x50 s fun s => s.ospStart 2
/-- OSP_ERASE (R381). -/
def execOspErase (s : State) : Host.Outcome State Fault Refusal := hostAct 0x2C 0x50 s fun s => s.ospStart 3

/-- What an operation does: a program clears bits and an erase sets them; one that fails does so to bits no rule names, and a read
that fails gives no bytes. -/
def State.ospRun (s : State) (o : XspiOp) (ok : Bool) : State :=
  match o.op with
  | 1 => if ok then s.reqSpan 9 o.buf (s.xBytes o.adr o.len) else s
  | 2 =>
    let bs := s.reqReadBytes o.buf o.len
    if ok then s.xProgram o.adr bs
    else { s with fresh := s.fresh + o.len }.xProgram o.adr ((bs.zip (s.freeBytes o.len)).map fun (e : Byte × Byte) => e.1 ||| e.2)
  | _ =>
    if ok then s.xErase o.adr o.len
    else { s with fresh := s.fresh + o.len }.xWrite o.adr (((s.xBytes o.adr o.len).zip (s.freeBytes o.len)).map fun (e : Byte × Byte) => e.1 ||| e.2)

/-- OSP_DONE (R381, R434). -/
def execOspDone (ok : Bool) (s : State) : Host.Outcome State Fault Refusal :=
  coreAct s fun s =>
    match s.net.xspiOp with
    | none => s
    | some o =>
      let t := (s.ospRun o ok).setNet fun x => { x with xspiOp := none }
      (((t.putB .OSP_STAT_BUSY false).putB .OSP_STAT_ERR (!ok)).putB .OSP_STAT_DONE true).irq 0x2C 8

/-! ### Board management (R382) -/

/-- The value of a poll in binary32, by FMT: LINEAR11, LINEAR16, uint16, uint8. An exponent that VOUT_MODE did not give leaves it open. -/
def pmbusValue (fmt : Nat) (expo : Option Int) (free : Word) (d : List Byte) : Word :=
  let w := fieldAt d 0 2
  match fmt with
  | 0 => w32 (fmt32.ofInt (signed 11 (w % 2048)) (signed 5 (w / 2048)))
  | 1 => match expo with
    | some e => w32 (fmt32.ofInt w e)
    | none => free
  | 2 => fofInt w
  | _ => fofInt (fieldAt d 0 1)

/-- The bit of a poll entry in word BMI_IMG.WADDR + 16. -/
def State.pollBit (s : State) (n : Nat) (b : Bool) : State :=
  let w := s.fld .BMI_IMG_WADDR + 16
  let old := (s.word w).toNat
  s.reqWrite 9 w (w32 (old - b2n (bitOf old n) * 2 ^ n + b2n b * 2 ^ n))

/-- A poll that succeeded. -/
def State.pollValue (s : State) (n : Nat) (d : List Byte) : State :=
  let t := s.setBmi fun x => { x with failing := x.failing.filter (· != n) }
  let w := s.fld .BMI_IMG_WADDR
  if w = 0 then t
  else
    let fmt := s.fld (.BMI_POLL_FMT n)
    let e := Sparse.at none s.net.bmi.expo n
    let u := t.reqWrite 9 (w + n) (pmbusValue fmt e (s.freeVal.setWidth 32) d)
    (if fmt = 1 ∧ e = none then u.usedFree else u).pollBit n false

/-- A poll that failed: 1 NACK, 2 PEC, 3 timeout, 4 arbitration (R383). -/
def State.pollFail (s : State) (n code : Nat) : State :=
  let t := if s.fld .BMI_IMG_WADDR = 0 then s else s.pollBit n true
  if s.net.bmi.failing.contains n then t
  else (t.setBmi fun x => { x with failing := addOnce x.failing n }).raise 0 0x2D n 1 code

/-- BMI_POLL (R382): an entry's period has passed. -/
def execBmiPoll (entry : Fin 16) (s : State) : Host.Outcome State Fault Refusal :=
  coreAct s fun s =>
    if s.flag .BMI_CTRL_EN ∧ s.flag (.BMI_POLL_EN entry.val) then
      (s.setBmi fun x => { x with due := addOnce x.due entry.val }).bmiNext
    else s

/-- BMI_XFER (R382): a write of BMI_XFER; GO does not stay, and starts nothing while a host transfer is under way. -/
def execBmiXfer (value : Word) (s : State) : Host.Outcome State Fault Refusal :=
  hostAct 0x2D 0xC0 s fun s =>
    if s.flag .BMI_XSTAT_BUSY then s
    else
      let t := s.store (· == .rw) 0x2D0C0 (value &&& 0x7FFFFFFF#32)
      if bitOf value.toNat 31 then
        ((t.setBmi fun x => { x with waiting := true }).putB .BMI_XSTAT_BUSY true).bmiNext
      else t

/-- BMI_TRANSFER_END (R382): 0 done, or the failure of R383; the bytes read. -/
def execBmiTransferEnd (fail : Fin 5) (data : List Byte) (s : State) : Host.Outcome State Fault Refusal :=
  coreAct s fun s =>
    match s.net.bmi.running with
    | none => s
    | some k =>
      let t := s.setBmi fun x => { x with running := none }
      let u :=
        if k = 32 then
          let v := (t.putB .BMI_XSTAT_BUSY false).put .BMI_XSTAT_FAIL fail.val
          if fail.val = 0 ∧ s.flag .BMI_XFER_RD then v.put .BMI_XDATA_DATA (leNat (data.take (s.fld .BMI_XFER_N + 1))) else v
        else if 16 ≤ k then
          (if fail.val = 0 then t.setBmi fun x => { x with expo := Sparse.put none x.expo (k - 16) (some (signed 5 (fieldAt data 0 1 % 32))) }
           else t)
        else if fail.val = 0 then t.pollValue k data
        else t.pollFail k fail.val
      u.bmiNext

end Sys2Proof.Machine
end

