-- ==== Sys2Proof/Machine/Quantities.lean ====
section
/-! DEFINITION. The commands of the energy block and the Reservoir (R290 to R298), and record copies (R398). -/

namespace Sys2Proof.Machine

/-- ENERGY_INTERVAL (R291): PTP time is a multiple of NRG_INT.S. -/
def execEnergyInterval (s : State) : Host.Outcome State Fault Refusal :=
  coreAct s fun s => if s.now % (max 60 (s.fld .NRG_INT_S) * 1000000000) = 0 then s.energyInterval.dropCheck else s

/-- The periodic save interval in s: NRG_SAVE.PERIOD, at most 10 s with a reduced budget, 1 s with none (R293, R412). -/
def State.savePeriod (s : State) : Nat :=
  match s.fld .RSV_STAT_BUDGET with
  | 0 => min (s.fld .NRG_SAVE_PERIOD) 1
  | 1 => min (s.fld .NRG_SAVE_PERIOD) 10
  | _ => s.fld .NRG_SAVE_PERIOD

/-- Has the interval passed since the last periodic save? When the first one falls the spec does not say (assumption 100). -/
def State.saveDue (s : State) : Bool := match s.rsv.savedAt with
  | some t => decide (t + s.savePeriod * 1000000000 ≤ s.now)
  | none => true

/-- PERIODIC_SAVE (R293): the buffer goes to the other slot, KIND 1, once the interval has passed, while saves are enabled and no final
commit holds the buffer. -/
def execPeriodicSave (s : State) : Host.Outcome State Fault Refusal :=
  coreAct s fun s => if s.flag .NRG_CTRL_SAVE_EN ∧ !s.rsv.frozen ∧ s.saveDue then s.saveSlot 1 true else s

/-- The final commit (R294): the record, KIND 2, where the budget allows it and VRES has reached V_TOP. whole: VRES lasted until
its CRC was written. -/
def State.finalCommit (s : State) (whole : Bool) (us : Nat) : State :=
  if s.flag .RSV_STAT_READY ∧ s.fld .RSV_STAT_BUDGET ≠ 0 then
    (((s.saveSlot 2 whole).bump .RSV_COMMIT_CNT).put .RSV_COMMIT_US (min 65535 us)).sample 0x04 2 0 us
  else s

/-- POWER_FAIL_DETECT (R294, R295). dip: the main supplies stay in range, the buffer reopens and an E0 PF_DIP is raised;
otherwise the buffer stays frozen until the supplies leave their range. -/
def execPowerFailDetect (whole dip : Bool) (us : Nat) (s : State) : Host.Outcome State Fault Refusal :=
  effect s (
    if s.mode = .sleep ∨ !s.mainOn ∨ s.rsv.frozen then s
    else
      let t := s.finalCommit whole us
      if dip then (if t.awake then (t.putB .NRG_SLOT_STAT_PF_DIP true).raise 0 0x11 0 5 0 else t.putB .NRG_SLOT_STAT_PF_DIP true)
      else ({ t with rsv := { t.rsv with frozen := true } }).putB .PWR_SUP_PF true)

/-- SPRING_PULSE_COUNT (R290): a contact has held a new state for DEB ms. It runs in the Spring domain, on main or backup power. -/
def execSpringPulseCount (input : Fin 8) (closed : Bool) (s : State) : Host.Outcome State Fault Refusal :=
  let n := input.val
  let w := s.fld .PLS_SPC_STAT_CLOSED
  let t := s.put .PLS_SPC_STAT_CLOSED (if closed then w ||| 2 ^ n else w - (if bitOf w n then 2 ^ n else 0))
  effect s (
    if t.flag (.PLS_SPC_CFG_EN n) ∧ bitOf w n ≠ closed ∧ closed ≠ t.flag (.PLS_SPC_CFG_EDGE n) then
      let f := if t.flag (.PLS_SPC_CFG_DIR_EN n) ∧ bitOf (t.fld .PLS_SPC_STAT_CLOSED) (t.fld (.PLS_SPC_CFG_DIR_SRC n)) then
          Fd.PLS_SPC_REV_COUNT n else .PLS_SPC_FWD_COUNT n
      t.put f (t.fld f + 1)
    else t)

/-- PULSE_OUTPUT_END (R298): the width of a pulse has passed. -/
def execPulseOutputEnd (output : Fin 4) (s : State) : Host.Outcome State Fault Refusal :=
  coreAct s fun s =>
    if s.nrg.outHigh.contains output.val ∧ Sparse.at 0 s.nrg.outEnd output.val ≤ s.now then s.pulseEnd output.val else s

/-- SED_RD_GO (R398): refused with 0xC0 while BUSY; the copy is complete with SED_RD_DONE. -/
def execSedRdGo (s : State) : Host.Outcome State Fault Refusal :=
  hostAct 0x2E 0x78 s fun s =>
    if s.flag .SED_RD_STAT_BUSY then s.refuse 0x2E 0xC0 0x2E078 else s.putB .SED_RD_STAT_BUSY true

/-- SED_RD_DONE (R398): the records are copied through requester 9, word by word under R72 and R109. -/
def State.copyRecords (s : State) : State :=
  let n := clampNat 1 4096 (s.fld .SED_RD_CNT)
  let seq := s.fld .SED_RD_SEQ_LO_SEQ + 4294967296 * s.fld .SED_RD_SEQ_HI_SEQ
  let buf := s.fld .SED_RD_BUF / 64 * 64
  let t := forN n (fun k u => u.reqBytes 9 (buf + 64 * k) (u.recordBytes (seq + k))) s
  ((t.putB .SED_RD_STAT_BUSY false).putB .SED_RD_STAT_DONE true).irq 0x2E 8

def execSedRdDone (s : State) : Host.Outcome State Fault Refusal :=
  coreAct s fun s => if s.flag .SED_RD_STAT_BUSY then s.copyRecords else s

end Sys2Proof.Machine
end

