-- ==== Sys2Proof/Machine/RegView.lean ====
section
/-! DEFINITION. What a register reads as (R6, R9, R431 to R433): the word held, or what the device computes from its state. -/

namespace Sys2Proof.Machine

/-! ### The common header (R433) -/

/-- The first page of a page's kind. -/
def kindPage (p : Nat) : Nat :=
  if 0x1A ≤ p ∧ p ≤ 0x21 then 0x1A else if 0x23 ≤ p ∧ p ≤ 0x26 then 0x23 else if 0x27 ≤ p ∧ p ≤ 0x2A then 0x27 else p

/-- ID: kind, version, instance. -/
def idWord (p : Nat) : Word := w32 ((0x5700 + kindPage p) * 0x10000 + 0x100 + (p - kindPage p))

/-- MONQ: bit n for each monitor quantity code n the page's chapter lists. -/
def monQ (p : Nat) : Nat :=
  match p with
  | 0x01 => 6 | 0x02 => 2 | 0x03 => 6 | 0x04 => 6 | 0x09 => 14 | 0x0A => 14 | 0x0B => 14 | 0x0C => 14 | 0x0D => 30 | 0x0E => 14
  | 0x0F => 14 | 0x10 => 14 | 0x11 => 14 | 0x12 => 6 | 0x13 => 14 | 0x14 => 14 | 0x15 => 14 | 0x16 => 14 | 0x17 => 6 | 0x18 => 14
  | 0x2E => 14 | 0x2F => 2
  | _ => 0

/-- LANES of a page. -/
def laneCount (p : Nat) : Nat :=
  match p with
  | 0x0C => 512 | 0x0B => 256 | 0x13 => 8 | 0x14 => 16 | 0x15 => 8 | 0x16 => 32 | 0x17 => 8
  | _ => 0

/-- CAP; the SYS page's holds class and stepping instead. -/
def capWord (p : Nat) : Word := if p = 0 then w32 (ownClass * 0x10000 + 0x200) else w32 (monQ p * 0x10000 + laneCount p)

/-- STAT of a page whose domain is not off. -/
def State.pageStat (s : State) (p : Nat) : Word :=
  w32 (8 * b2n (s.locked p) + 4 * b2n (s.fld (.ERR_CODE_CODE p) != 0) + 2 * b2n (s.net.idle.contains (pageDomain p)) + 1)

/-- Monitor data of a page at its last snapshot. -/
def State.monOf (s : State) (p : Nat) : MonData := Sparse.at {} s.monSnap p

/-- A header register that shows the state; none for one that holds its word. -/
def State.headView (s : State) (p off : Nat) : Option Word :=
  match off with
  | 0x00 => some (idWord p)
  | 0x04 => some (capWord p)
  | 0x0C => some (s.pageStat p)
  | 0x18 => some (s.reg (0x1000 * p + 0x10) &&& s.reg (0x1000 * p + 0x14))
  | 0x28 => some (w32 (s.monOf p).min)
  | 0x2C => some (w32 (s.monOf p).max)
  | 0x34 => some (w32 (Sparse.at 0 (s.monOf p).bins (s.fld (.MON_HIST_BIN p))))
  | 0x3C => some (w32 (b2n (s.locked p)))
  | _ => none

/-! ### Block registers -/

/-- A number whose bit n is whether f n holds, for n below k. -/
def bitsWhere (k : Nat) (f : Nat → Bool) : Nat := (List.range k).foldl (fun acc n => acc + b2n (f n) * 2 ^ n) 0

/-- ERR_ACTIVE (R104). -/
def State.errActive (s : State) : Word :=
  let act := bitsWhere 5 fun c => (s.slot c).isSome
  match s.runningClass with
  | some c => w32 (act * 2 ^ 27 + c * 2 ^ 24 + (match s.slot c with | some e => e.src | none => 0))
  | none => w32 (act * 2 ^ 27)

/-- ERR_QSTAT (R104). -/
def State.errQstat (s : State) : Word :=
  w32 (bitsWhere 5 (fun c => s.pends c) * 2 ^ 16 + (s.queue 3).length * 2 ^ 12 + (s.queue 2).length * 2 ^ 8 + (s.queue 1).length * 2 ^ 4 +
    (s.queue 0).length)

/-- The role of a sibling as SIB_PEER shows it. -/
def State.sibRole (s : State) (k : Nat) : Nat := s.role (sibPos s.pos k)

/-- The station STN_SEL selects, and STN_SEL_STAT of it (R253). -/
def State.selStation (s : State) : Station := s.station (s.fld .STN_SEL_STATION)
def State.selStat (s : State) : Word :=
  let x := s.selStation
  w32 (x.result * 2 ^ 24 + min 255 x.unheard * 2 ^ 16 + x.rxMac * 2 ^ 8 + b2n x.gathered * 2 ^ 5 + b2n x.subst * 2 ^ 4 + x.state)

/-- The head of a bus's receive queue, and word k of its payload (R372). -/
def State.canHead (s : State) (b : Nat) : Option CanFrame := (s.canBus b).rx.head?
def CanFrame.idWord (f : CanFrame) : Word := w32 (b2n f.xtd * 2 ^ 31 + f.id)
def CanFrame.flgWord (f : CanFrame) : Word :=
  w32 (2 ^ 31 + b2n f.fd * 2 ^ 30 + b2n f.brs * 2 ^ 29 + b2n f.esi * 2 ^ 28 + f.dlc * 2 ^ 24)
def State.canView (s : State) (b off : Nat) : Option Word :=
  let of := fun (g : CanFrame → Word) => some (match s.canHead b with | some f => g f | none => 0)
  match off with
  | 0x54 => some (w32 (s.canBus b).rx.length)
  | 0x58 => of fun f => f.idWord
  | 0x5C => of fun f => f.flgWord
  | 0x60 => of fun f => w32 f.ts
  | 0x64 => of fun f => w32 (f.ts / 2 ^ 32)
  | _ => if 0x80 ≤ off ∧ off < 0xC0 then of fun f => wordAt f.data (off - 0x80) else none

/-- The deviation of the 25 MHz crystal from PTP in ppb, as the increment in force measures it: 8 ns / INC − 1, rounded to the nearest
(R353, R420; assumption 45). -/
def State.xtalPpb (s : State) : Int :=
  let inc : Int := s.time.incNs * 4294967296 + s.time.incFrac
  if s.flag .PTP_STAT_HOLD ∨ !s.flag .PTP_STAT_VALID ∨ inc ≤ 0 then 0
  else (2 * (34359738368 - inc) * 1000000000 + inc) / (2 * inc)

/-- The words of a section of the freeze read-out, header and ECC status included (R418). -/
def sectCount (n : Nat) : Nat :=
  match n with
  | 0 => 20
  | 2 => 4 + 51200
  | 4 => 4 + 98304 + 6144
  | 5 => 4 + 16777216 + 1048576
  | 6 => 4 + 540672 + 33792
  | n => Config.sectWords n

/-- A block register that shows the state; none for one that holds its word. -/
def State.blockView (s : State) (p off : Nat) : Option Word :=
  let a := 0x1000 * p + off
  let w := s.reg a
  match p with
  | 0x00 =>
    if off = 0x40 then some (w32 (s.voters * 2 ^ 16 + s.fld .SYS_MODE_STARTUP * 2 ^ 8 + modeCode s.mode))
    else if off = 0x48 then some (w32 (s.boot * 16 + b2n s.aoAlm * 4 + s.pos)) else none
  | 0x02 => if off = 0x44 then some (w32 (twos 32 s.xtalPpb)) else none
  | 0x03 => if off = 0x40 then some (w32 s.time.count) else none
  | 0x05 =>
    if off = 0x40 then some (w32 (w.toNat / 4 * 4 % 2 ^ 20 + s.pos + b2n (s.pos != 0 && s.voters == 2) * 2 ^ 20 +
      b2n (s.flag .WIR_VOTE_STAT_SIMPLEX) * 2 ^ 21)) else none
  | 0x06 => if off = 0x54 ∨ off = 0x58 then some ((Fd.SIB_PEER_ROLE 0).into w (s.sibRole ((off - 0x54) / 4))) else none
  | 0x07 =>
    match off with
    | 0x40 => some s.errActive
    | 0x44 => some s.errQstat
    | 0x74 => some (Fd.ERR_LOG_CNT_CNT.into w s.err.log.length)
    | 0x98 => some (w32 s.errHealth)
    | _ => none
  | 0x08 => if 0xC0 ≤ off ∧ off < 0x100 then some (w32 (s.groupStat ((off - 0xC0) / 4))) else none
  | 0x09 =>
    match off with
    | 0x48 => some (w32 (bitsWhere 12 fun r => s.masked r))
    | 0x4C => some (w32 (bitsWhere 16 fun b => (s.lockOf b).isSome))
    | _ => if off = 0x50 ∨ off = 0x54 then
        some (w32 ((List.range 8).foldl (fun acc k => acc + (match s.lockOf (k + (off - 0x50) * 2) with
          | some l => l.owner | none => 0) * 16 ^ k) 0)) else none
  | 0x0D => if off = 0x74 then some (Fd.SCN_ERRTASK_LINE.into w (min 255 s.callLine)) else none
  | 0x0E =>
    match off with
    | 0x7C => some s.selStat
    | 0x80 => some (w32 s.selStation.boot)
    | 0x84 => some (w32 s.selStation.last)
    | 0x88 => some s.selStation.lldp
    | _ => none
  | 0x0F =>
    if off = 0x68 then some (s.word (s.setpointWord (s.fld .LUM_SEL_ZONE) (s.fld .LUM_SEL_CH)))
    else if off = 0x6C then some (narrow (s.dli (s.fld .LUM_SEL_ZONE))) else none
  | 0x11 =>
    let v := Sparse.at 0 s.nrg.acc (s.fld .NRG_ACC_SEL_ACC)
    if off = 0x94 then some (v.setWidth 32) else if off = 0x98 then some ((v >>> 32).setWidth 32) else none
  | 0x13 => if off = 0x6C then some (Fd.ADC_SEQ_STAT_BAD.into w (bitsWhere 4 fun q => s.seqBad q)) else none
  | 0x14 =>
    let n := (off - 0x280) / 4
    if 0x280 ≤ off ∧ off < 0x2C0 then
      some ((Fd.AIN_STAT_LS_ON 0).into w (b2n (s.flag (.AIN_CFG_LS n) && s.fld (.AIN_CFG_MODE n) == 1 && s.field.lpOn &&
        !s.flag (.AIN_STAT_LS_THERM n))))
    else none
  | 0x15 =>
    let n := (off - 0x120) / 4
    if 0x120 ≤ off ∧ off < 0x140 then some ((Fd.AOU_STAT_ISO 0).into w (b2n (bitOf (s.fld .WIR_ISO_STAT_SW_OPEN) n))) else none
  | 0x18 => if off = 0x4C then some (w32 s.now) else if off = 0x50 then some (w32 (s.now / 2 ^ 32)) else none
  | 0x2B =>
    -- no rule says when the PCI Express link is up
    if off = 0x40 then some (s.freeVal.setWidth 32 &&& 0xBC000000#32) else none
  | 0x2C =>
    if off = 0x40 then some (Fd.OSP_STAT_MODE.into (Fd.OSP_STAT_SECT.into (Fd.OSP_STAT_SIZE.into w Config.xspiSize.toNat)
      Config.xspiSect.toNat) Config.xspiMode.toNat) else none
  | 0x31 => if 0x80 ≤ off ∧ off < 0xA0 then some (w32 (sectCount ((off - 0x80) / 4))) else none
  | _ =>
    if 0x1A ≤ p ∧ p ≤ 0x21 ∧ off = 0x88 then some (s.neighbourCrc (p - 0x1A))
    else if 0x23 ≤ p ∧ p ≤ 0x26 then s.canView (p - 0x23) off else none

/-- The word at a byte offset of the window as it stands now: what the state gives, else the word held. -/
def State.view (s : State) (a : Nat) : Word :=
  let p := a / 0x1000
  let off := a % 0x1000
  if 50 ≤ p then 0
  else match (if off < 0x40 then s.headView p off else s.blockView p off) with
    | some w => w
    | none => s.reg a

end Sys2Proof.Machine
end

