-- ==== Sys2Proof/Machine/Registers.lean ====
section
/-! DEFINITION. Host access to the register window (R6 to R9, R431 to R436): what a read returns and does, what a write does, rows 264
to 270. -/

namespace Sys2Proof.Machine

/-- The state a total meaning answers. -/
def outState (s : State) : Host.Outcome State Fault Refusal → State
  | .next t => t
  | _ => s

/-! ### Parts of an access -/

/-- Is an offset of a page the low word of a 64-bit register (R432)? Its high word follows it. -/
def lowOffset (p off : Nat) : Bool :=
  let rows := fun (base n : Nat) => decide (base ≤ off) && decide (off < base + 8 * n) && (off - base) % 8 == 0
  match p with
  | 0x03 => [0x40, 0x48, 0x58, 0x68].contains off
  | 0x07 => off == 0x84
  | 0x08 => rows 0x100 16
  | 0x0A => rows 0xC0 4
  | 0x0D => off == 0x6C
  | 0x10 => off == 0x58
  | 0x11 => off == 0x94
  | 0x18 => [0x4C, 0x54, 0x64].contains off
  | 0x2E => [0x48, 0x50, 0x58, 0x68].contains off
  | 0x2F => off == 0x54
  | 0x30 => [0x48, 0x50].contains off
  | 0x31 => off == 0x44
  | _ =>
    if 0x1A ≤ p ∧ p ≤ 0x21 then [0x6C, 0x80].contains off
    else if 0x23 ≤ p ∧ p ≤ 0x2A then off == 0x60 else false

/-- Is a byte offset of the window a low word? -/
def lowWord (a : Nat) : Bool := lowOffset (a / 0x1000) (a % 0x1000)

/-- The RC fields of a register cleared (R6). -/
def State.clearRc (s : State) (a : Nat) : State := match regAt a with
  | some (r, _) => s.setReg a (r.fields.foldl (fun w f => if f.acc = .rc then (Fd.mk 0 f.hi f.lo).into w 0 else w) (s.reg a))
  | none => s

/-- Every RC field of a page cleared (R433). -/
def State.clearPageRc (s : State) (p : Nat) : State :=
  (regsOf p).foldl (fun t r => forN r.count (fun n u =>
    if r.fields.any fun f => f.acc == .rc then u.clearRc (0x1000 * p + r.off + r.stride * n) else u) t) s

/-- The bits written as 1 to W1C fields cleared (R6). -/
def State.clearW1c (s : State) (a : Nat) (v : Word) : State := match regAt a with
  | some (r, _) => s.setReg a (r.fields.foldl (fun (w : Word) f =>
      if f.acc = .w1c then
        (Fd.mk 0 f.hi f.lo).into w (((Fd.mk 0 f.hi f.lo).of w) &&& ((Fd.mk 0 f.hi f.lo).of (~~~ v))) else w) (s.reg a))
  | none => s

/-- The vectors that a change makes active are sent (R378). -/
def State.newVectors (old new : State) : State :=
  forN 32 (fun v t => if new.vecActive v && !old.vecActive v then t.send (.msix v) else t) new

/-! ### Reads -/

/-- A read of an aligned word of the window: what it returns, and what it changes (R6, R9, R431, R432). -/
def State.regRead (s : State) (a : Nat) : State × Word :=
  if 50 ≤ a / 0x1000 ∨ s.domainOff (pageDomain (a / 0x1000)) then (s, 0)
  else
    let w := match Sparse.at none s.latch a with
      | some x => x
      | none => s.view a
    let t := s.clearRc a
    let u := if a = 0x3040 then t.put .SPR_TICK_HI_COUNT (s.time.count / 4294967296)
      else if lowWord a then { t with latch := Sparse.put none t.latch (a + 4) (some (s.view (a + 4))) } else t
    (if a = 0x2B040 then u.usedFree else u, w)

/-- The same, with the value returned to the host. -/
def State.regReadData (s : State) (a : Nat) : State := let r := s.regRead a; { r.1 with readData := [r.2] }

/-! ### Writes -/

/-- A page locked or unlocked by a KEY (R436). -/
def State.lockPage (s : State) (p : Nat) : State := { s with locks := addOnce s.locks p }
def State.unlockPage (s : State) (p : Nat) : State := { s with locks := s.locks.filter (· != p) }
def State.writeLock (s : State) (p : Nat) (v : Word) : State :=
  match bitsOf v.toNat 31 16 with
  | 0x4C4B => s.lockPage p
  | 0x554C => s.unlockPage p
  | _ => s

/-- IRQ_PEND bits written as 1 clear here and in IRQ_RAW (R433). -/
def State.clearPend (s : State) (p : Nat) (v : Word) : State := s.setReg (0x1000 * p + 0x10) (s.reg (0x1000 * p + 0x10) &&& ~~~ v)

/-- A write to a header register; no lock stops it (R433, R436). -/
def State.headWrite (s : State) (p off : Nat) (v : Word) : State :=
  let a := 0x1000 * p + off
  if s.domainOff (pageDomain p) then s
  else match off with
    | 0x08 => s.newVectors ((if bitOf v.toNat 1 then s.clearPageRc p else s).store (· == .rw) a v)
    | 0x14 => s.newVectors (s.store (· == .rw) a v)
    | 0x18 => s.clearPend p v
    | 0x24 => (s.store (· == .rw) a v).monClear p
    | 0x38 =>
      let t := s.store (· == .rw) a v
      let u := if bitOf v.toNat 2 then t.monSnapOf p else t
      if bitOf v.toNat 1 then u.monClear p else u
    | 0x3C => s.writeLock p v
    | _ => s.store (· == .rw) a v

/-- A write to a block register without a row of its own: W1C bits clear, RW fields take the value, a low word waits for its high word
(R6, R432). TXN_GRP_TIME takes one only of an Open group (R87). -/
def State.blockWrite (s : State) (a : Nat) (v : Word) : State :=
  if 0x8100 ≤ a ∧ a < 0x8180 ∧ (s.group ((a - 0x8100) / 8)).state ≠ 1 then s
  else if lowWord a ∧ hasAcc .rw a then { s with lowHeld := Sparse.put none s.lowHeld a (some v) }
  else
    let t := (((if lowWord (a - 4) then s.takeLow (a - 4) else s).store (· == .rw) a v)).clearW1c a v
    if a = 0x18040 ∧ t.flag .PTP_CTRL_EN ∧ !s.flag .PTP_CTRL_EN then t.setTime fun x => { x with syncAt := s.now }
    else if 0x2B080 ≤ a ∧ a < 0x2B0B4 then s.newVectors t
    else t

/-- The commands that are writes of the register at an offset (their rows of the table); none for another register. -/
def State.commandWrite (s : State) (p off : Nat) (v : Word) : Option State :=
  let n := v.toNat
  let run := fun (o : Host.Outcome State Fault Refusal) => some (outState s o)
  match p with
  | 0x00 => if off = 0x54 then (if bitOf n 0 then run (execSysBootCtrlGo s) else some s) else if off = 0x5C then run (execSysSwrstWrite v s) else none
  | 0x03 => if off = 0x64 then run (execSprSnap v s) else none
  | 0x07 => if off = 0x78 then (if bitOf n 0 then run (execErrLogPop s) else some s) else if off = 0x94 then run (execErrInjectWrite v s) else none
  | 0x08 =>
    if off = 0x40 then
      (match bitsOf n 9 8 with
        | 1 => run (execTxnOpen (Fin.ofNat 16 n) s)
        | 2 => run (execTxnArm (Fin.ofNat 16 n) s)
        | 3 => run (execTxnAbort (Fin.ofNat 16 n) s)
        | _ => some s)
    else if off = 0x4C then run (execTxnStageDataWrite v s)
    else if 0x80 ≤ off ∧ off < 0xC0 then run (execTxnGrpCfgWrite (Fin.ofNat 16 ((off - 0x80) / 4)) v s)
    else none
  | 0x09 => if off = 0x40 then run (execBsnRankWrite 0 v s) else if off = 0x44 then run (execBsnRankWrite 1 v s) else none
  | 0x0D => if off = 0x54 then run (execScnForceKeyWrite v s) else none
  | 0x15 => if 0x100 ≤ off ∧ off < 0x120 then run (execAouTestWrite (Fin.ofNat 8 ((off - 0x100) / 4)) v s) else none
  | 0x16 => if off = 0x4C then run (execDioTestWrite false v s) else if off = 0x50 then run (execDioTestWrite true v s) else none
  | 0x17 => if off = 0x44 then run (execTrpPtCmd v s) else none
  | 0x18 => if off = 0x48 then run (execPtpIncFracWrite v s) else if off = 0x58 then run (execPtpStepHiWrite v s) else none
  | 0x2B => if off = 0x48 then run (execHifRearm v s) else none
  | 0x2C =>
    if off = 0x50 then
      (match bitsOf n 1 0 with
        | 1 => run (execOspRead s)
        | 2 => run (execOspProgram s)
        | 3 => run (execOspErase s)
        | _ => some s)
    else none
  | 0x2D => if off = 0xC0 then run (execBmiXfer v s) else none
  | 0x2E => if off = 0x78 then (if bitOf n 0 then run (execSedRdGo s) else some s) else none
  | 0x30 =>
    if off = 0x40 then
      let t := if bitOf n 2 then outState s (execMonAllSnap s) else s
      let u := if bitOf n 1 then outState t (execMonAllClr t) else t
      some (if bitOf n 0 then outState u (execMonAllArm u) else u)
    else none
  | _ =>
    if 0x1A ≤ p ∧ p ≤ 0x21 ∧ off = 0x74 then run (execEthTxCmd (Fin.ofNat 8 (p - 0x1A)) v s)
    else if 0x23 ≤ p ∧ p ≤ 0x26 ∧ off = 0x68 then run (execCanRxPop (Fin.ofNat 4 (p - 0x23)) v s)
    else if 0x23 ≤ p ∧ p ≤ 0x26 ∧ off = 0xC4 then run (execCanTxGo (Fin.ofNat 4 (p - 0x23)) v s)
    else if 0x27 ≤ p ∧ p ≤ 0x2A ∧ off = 0x5C then run (execSerTxCmd (Fin.ofNat 4 (p - 0x27)) v s)
    else none

/-- A host's write of an aligned word of the window, through BAR0 or host SPI (R6, R9, R71, R377, R379, R431, R436). -/
def State.regWrite (s : State) (a : Nat) (v : Word) : State :=
  let p := a / 0x1000
  let off := a % 0x1000
  if a % 4 ≠ 0 ∨ 50 ≤ p then s
  else if off < 0x40 then s.headWrite p off v
  else match s.commandWrite p off v with
    | some t => t
    | none =>
      if hasAcc .rws a then outState s (execRwsWrite (BitVec.ofNat 18 a) v s)
      else if (regAt a).isNone then s
      else s.hostWrite p off fun t => t.blockWrite a v

/-! ### The commands -/

/-- PAGE_LOCK (R436). -/
def execPageLock (page : Fin 50) (s : State) : Host.Outcome State Fault Refusal := headAct page.val s fun s => s.lockPage page.val
/-- PAGE_UNLOCK (R436). -/
def execPageUnlock (page : Fin 50) (s : State) : Host.Outcome State Fault Refusal := headAct page.val s fun s => s.unlockPage page.val
/-- CNT_CLR (R433). -/
def execCntClr (page : Fin 50) (s : State) : Host.Outcome State Fault Refusal := headAct page.val s fun s => s.clearPageRc page.val

/-- RC_READ (R6): a read of a register that has an RC field. -/
def execRcRead (adr : BitVec 18) (s : State) : Host.Outcome State Fault Refusal :=
  coreAct s fun s => if adr.toNat % 4 = 0 ∧ hasAcc .rc adr.toNat then s.regReadData adr.toNat else s

/-- W1C_WRITE (R6, R433): a write to a register that has a W1C field, IRQ_PEND among them. -/
def execW1cWrite (adr : BitVec 18) (value : Word) (s : State) : Host.Outcome State Fault Refusal :=
  coreAct s fun s =>
    let a := adr.toNat
    if a % 4 = 0 ∧ (a % 0x1000 = 0x18 ∨ hasAcc .w1c a) then s.regWrite a value else s

/-- LO_WORD_READ (R432). -/
def execLoWordRead (adr : BitVec 18) (s : State) : Host.Outcome State Fault Refusal :=
  coreAct s fun s => if lowWord adr.toNat then s.regReadData adr.toNat else s

/-- REGISTER_WRITE (R6, R377, R431): a write through BAR0; one that is not aligned is discarded. -/
def execRegisterWrite (adr : BitVec 18) (value : Word) (s : State) : Host.Outcome State Fault Refusal :=
  coreAct s fun s => s.regWrite adr.toNat value

end Sys2Proof.Machine
end

