-- ==== Sys2Proof/Machine/HostSpi.lean ====
section
/-! DEFINITION. The host SPI port (R379): row 238. -/

namespace Sys2Proof.Machine

/-- One bit of the CRC-8 of polynomial x^8 + x^2 + x + 1, not reflected. -/
def crc8Bit (c : Nat) : Nat := if 128 ≤ c then (2 * c % 256) ^^^ 0x07 else 2 * c
/-- The CRC-8 of bytes from 0x00. -/
def crc8 (bs : List Byte) : Nat := bs.foldl (fun c b => Nat.repeat crc8Bit 8 (c ^^^ b.toNat)) 0

/-- A transaction's header: read, Basin space, words, byte address. -/
structure SpiHead where
  rd : Bool
  basin : Bool
  n : Nat
  adr : Nat
  deriving DecidableEq, Repr

/-- The header that six bytes hold. -/
def spiHead (h : List Byte) : SpiHead :=
  let c := byteAt h 0
  { rd := bitOf c 7, basin := bitOf c 6, n := c % 64 + 1, adr := fieldAt h 1 4 }

/-- Is an address aligned and its whole range inside the space? -/
def SpiHead.inside (h : SpiHead) : Bool := h.adr % 4 == 0 && decide (h.adr + 4 * h.n ≤ if h.basin then 0x4000000 else 0x40000)

/-- One word written by the port: a Basin word as requester 8, or a register. -/
def State.spiWrite (s : State) (h : SpiHead) (k : Nat) (v : Word) : State :=
  if h.basin then s.reqWrite 8 (h.adr / 4 + k) v else s.regWrite (h.adr + 4 * k) v

/-- One word read by the port. -/
def State.spiRead (s : State) (h : SpiHead) (k : Nat) : State × Word :=
  if h.basin then (s, s.reqRead (h.adr / 4 + k)) else s.regRead (h.adr + 4 * k)

/-- Words read in order, from word k. -/
def State.spiReads (h : SpiHead) : Nat → Nat → State → State × List Word
  | 0, _, s => (s, [])
  | n + 1, k, s => let r := s.spiRead h k; let q := State.spiReads h n (k + 1) r.1; (q.1, r.2 :: q.2)

/-- The status byte. -/
def spiStatus (hdr data adr ue late : Bool) : Byte :=
  BitVec.ofNat 8 (b2n hdr + 2 * b2n data + 4 * b2n adr + 8 * b2n ue + 16 * b2n late)

/-- A write transaction: its data bytes and their CRC follow the header. One cut short does nothing. -/
def State.spiWriteTrans (s : State) (h : SpiHead) (rest : List Byte) : State :=
  let data := rest.take (4 * h.n)
  if rest.length < 4 * h.n + 1 then s
  else
    let bad := crc8 data != byteAt rest (4 * h.n)
    let t := if bad then s.bump .HIF_SPI_CNT_CRC else s
    let u := if h.inside then t else t.bump .HIF_SPI_CNT_ADDR
    let v := if bad ∨ !h.inside then u
      else (bytesWords data).zipIdx.foldl (fun (x : State) (e : Word × Nat) => x.spiWrite h e.2 e.1) u
    v.send (.spi [spiStatus false bad (!h.inside) false false])

/-- A read transaction, with so many wait bytes before the data are ready; 64 of them make it late. At a wrong address the data bytes
are open. -/
def State.spiReadTrans (s : State) (h : SpiHead) (wait : Nat) (ue : Option (Fin 64)) : State :=
  if 64 ≤ wait then s.send (.spi (List.replicate 64 0 ++ [0x5A, spiStatus false false false false true]))
  else if !h.inside then
    let bs := s.freeBytes (4 * h.n)
    ({ s.bump .HIF_SPI_CNT_ADDR with fresh := s.fresh + 4 * h.n }).send
      (.spi (List.replicate wait 0 ++ [0xA5] ++ bs ++ [BitVec.ofNat 8 (crc8 bs), spiStatus false false true false false]))
  else
    let bad := (ue.filter fun k => h.basin && decide (k.val < h.n)).map fun k => h.adr / 4 + k.val
    let r := State.spiReads h h.n 0 (if h.basin then s.readFinds 8 (bad.map fun w => (true, w)) else s)
    let bs := wordsBytes r.2
    { r.1 with readData := r.2 }.send
      (.spi (List.replicate wait 0 ++ [0xA5] ++ bs ++ [BitVec.ofNat 8 (crc8 bs), spiStatus false false false bad.isSome false]))

/-- HOST_SPI_TRANSACTION (R379): the bytes the host sends while CS_N is low, the wait bytes of a read, which word read is
uncorrectable, if one is (R110). A header cut short does nothing; one with a wrong CRC does nothing but return its status. -/
def execHostSpiTransaction (bytes : List Byte) (wait : Fin 65) (ue : Option (Fin 64)) (s : State) : Host.Outcome State Fault Refusal :=
  coreAct s fun s =>
    if bytes.length < 6 then s
    else
      let t := s.bump .HIF_SPI_CNT_FRAMES
      if crc8 (bytes.take 5) ≠ byteAt bytes 5 then
        (t.bump .HIF_SPI_CNT_CRC).send (.spi [spiStatus true false false false false])
      else
        let h := spiHead bytes
        if h.rd then t.spiReadTrans h wait.val ue else t.spiWriteTrans h (bytes.drop 6)

end Sys2Proof.Machine
end

