-- ==== Sys2Proof/Machine/Solver.lean ====
section
/-! DEFINITION. The steps of a solver run (R157 to R176) and the commands of the fabric and of the loop engine's units (R201 to
R205). -/

namespace Sys2Proof.Machine

/-! ### Operands -/

/-- An operand: its object and stored values with the class of each element. -/
structure Opnd where
  o : Obj
  v : List Int
  e : List Int

/-- What the estimate history holds for an element of its object, as num / den at weight 2^-40: the upstream temperature of R146,
between the two stored seconds that bracket the delay; the newest is 1 s old, a delay beyond the depth takes the oldest
(assumption 90). -/
def State.historyAt (s : State) (n : Nat) (h : Obj) (i : Nat) : Int × Int :=
  let nodes := max 1 (s.shapeOf n).temps.length
  let up := Config.upstream (s.fpNat n) i (s.resultVals n)
  let at' := fun age => let j := (min (max age 1) (max 1 (h.len / nodes)) - 1) * nodes + up.1
    s.valAt n h j * (2 ^ (s.classOf (s.imgBase n) h j + 40).toNat : Nat)
  let k := up.2 / 1000000000
  let fr := up.2 % 1000000000
  (at' k * (1000000000 - fr : Nat) + at' (k + 1) * (fr : Nat), 1000000000)

/-- The stored value of an element as a step reads it: of the estimate history the delayed one (R146). -/
def State.readAt (s : State) (n : Nat) (o : Obj) (i : Nat) : Int :=
  if o.kind = 4 then
    let r := s.historyAt n o i
    (sat32 (rndDiv r.1 (r.2 * (2 ^ (s.classOf (s.imgBase n) o i + 40).toNat : Nat)))).1
  else s.valAt n o i

/-- The operand of an object number in context n. -/
def State.opnd (s : State) (n id : Nat) : Option Opnd :=
  (s.object (s.imgBase n) id).map fun o =>
    { o := o, v := (List.range o.len).map (s.readAt n o), e := (List.range o.len).map fun i => s.classOf (s.imgBase n) o i }

def Opnd.val (a : Opnd) (i : Nat) : Int := a.v.getD i 0
def Opnd.cls (a : Opnd) (i : Nat) : Int := a.e.getD i 0

/-- The entries of a matrix as (index, row, column); a SYM matrix gives both triangles (R126, R128). -/
def State.entries (s : State) (n : Nat) (a : Opnd) : List (Nat × Nat × Nat) :=
  ((s.pattern (s.imgBase n) a.o.id).zipIdx).flatMap fun p =>
    if bitOf a.o.flags 3 ∧ p.1.1 ≠ p.1.2 then [(p.2, p.1.1, p.1.2), (p.2, p.1.2, p.1.1)] else [(p.2, p.1.1, p.1.2)]

/-- A weight as numerator and denominator. -/
abbrev Weight := Int × Int

/-- Is the flow of a RESULT element, counted positive as pos says, above QMIN at the current iterate (R147)? -/
def State.flowAbove (s : State) (n : Nat) (x : Nat × Bool) : Bool :=
  match (s.resultElems n)[x.1]? with
  | some e => flt (w32 (s.fld .SLV_EST_QMIN)) (if x.2 then s.engAt n e else fneg (s.engAt n e))
  | none => false

/-- Is a flow's magnitude below QMIN at the current iterate (R147)? -/
def State.flowBelow (s : State) (n k : Nat) : Bool :=
  match (s.resultElems n)[k]? with
  | some e => flt (fabs (s.engAt n e)) (w32 (s.fld .SLV_EST_QMIN))
  | none => false

/-- 2^m / σ² of row i, σ the engineering value of the row's element of SIGMA (R147, R132). -/
def State.sigmaWeight (s : State) (n i : Nat) (m : Int) : Weight :=
  match s.object (s.imgBase n) (s.shapeOf n).sigma with
  | none => (1, 1)
  | some o =>
    let v := s.valAt n o i
    let sc := ((fmt32.read (s.scale (s.imgBase n) o i).toNat).parts).getD (1, 0)
    let x := 2 * (sc.2 - s.classOf (s.imgBase n) o i) + m
    if v = 0 then (Config.zeroSigma i, 1)
    else (sc.1 * sc.1 * (2 ^ x.toNat : Nat), v * v * (2 ^ (-x).toNat : Nat))

/-- The kind code of row i of a context's image (R131). -/
def State.rowKind (s : State) (n i : Nat) : Nat := s.leAt ((s.section (s.imgBase n) 5).1 + i) 1

/-- The current weight of row i (R147): none for a removed row (R172), a transport row without flow and the hold row of a node with
inflow; else that of σ with the exponents of substitute, forced and virtual rows. -/
def State.weightOf (s : State) (n i : Nat) : Weight :=
  let kind := s.rowKind n i
  if (s.ctx n).removed.contains i ∨ (kind = 0x12 ∧ s.flowBelow n ((s.shapeOf n).flows.getD i 0) = true) ∨
      (kind = 0x14 ∧ ((s.shapeOf n).inflow.getD i []).any (s.flowAbove n) = true) then (0, 1)
  else s.sigmaWeight n i (Sparse.at 0 (s.ctx n).weight i +
    (if 0x10 ≤ kind ∧ kind ≤ 0x14 then (s.fld .SLV_EST_W_VIRT : Int) else 0))

/-- The factor of row i in a step: its weight where the step's form or its WEIGHT flag says so, else 1 (R159, R160). -/
def State.rowFactor (s : State) (n : Nat) (st : Step) (i : Nat) : Weight :=
  if (st.kind = 3 ∧ (st.sub = 2 ∨ st.sub = 4)) ∨ bitOf st.flags 4 = true then s.weightOf n i else (1, 1)

/-- A value times a weight, rounded once to an integer (assumption 34). -/
def wmul (v : Int) (w : Weight) : Int := rndDiv (v * w.1) w.2

/-- A product times a weight, aligned by d: exact up to one rounding (R134; assumption 34). -/
def alignW (d p : Int) (w : Weight) : Int := rndDiv (p * w.1 * (2 ^ d.toNat : Nat)) (w.2 * (2 ^ (-d).toNat : Nat))

/-! ### Write-back -/

/-- The result of a step: accumulators negated or added into D as FLAGS says (R160), written back by s bits (R135), stored, and
saturations recorded (R167). -/
def State.putStep (s : State) (n : Nat) (st : Step) (d : Obj) (accs : List (Int × Bool)) (stops : Bool) : State :=
  let rs := accs.zipIdx.map fun a =>
    let v := if bitOf st.flags 1 then -a.1.1 else a.1.1
    let t := if bitOf st.flags 0 then accAdd (v, a.1.2) (s.valAt n d a.2 * (2 ^ st.sh : Nat)) else (v, a.1.2)
    writeBack t st.sh
  s.storeStep n { st with flags := st.flags - (st.flags &&& 3) } d rs stops

/-- A sum of products with their weights, each aligned (R134). -/
def accSum (d : Int) (ts : List (Int × Weight)) : Int × Bool := ts.foldl (fun a t => accAdd a (alignW d t.1 t.2)) (0, false)

/-! ### Kernels (R137) -/

/-- The integers within k half-units of num / den, lowest first. -/
def nearInts (k num den : Int) : List Int :=
  let q := num / den
  [q - 2, q - 1, q, q + 1, q + 2, q + 3].filter fun m => decide (2 * (m * den - num).natAbs ≤ (k * den).natAbs)

/-- One of them: which, the spec leaves to the accuracy it states (assumption 30). -/
def pickInt (code : Nat) (key l : List Int) : Int := l.getD (Config.kernelErr code key % max 1 l.length) 0

/-- A rational m × 2^e within k half-units, as a stored integer with the saturation flag. -/
def within2 (code : Nat) (key : List Int) (k m e : Int) : Int × Bool :=
  if 0 ≤ e then sat32 (pickInt code key (nearInts k (m * (2 ^ e.toNat : Nat)) 1))
  else sat32 (pickInt code key (nearInts k m (2 ^ (-e).toNat : Nat)))

/-- e^x for x at weight 2^-40 and |x| ≤ 32, at weight 2^-320, with a relative error far below 2^-200: the series of e^(x/64), squared
six times. -/
def exp320 (x : Int) : Int :=
  let one : Int := (2 ^ 320 : Nat)
  let y := x * (2 ^ 274 : Nat)
  let sum := (List.range 64).foldl (fun (acc : Int × Int) k =>
    let term := acc.2 * y / one / (k + 1 : Nat)
    (acc.1 + term, term)) (one, one)
  (List.range 6).foldl (fun v _ => v * v / one) sum.1

/-- e^x in units of 2^f: one of the integers within 2^-23 of it, relative, or within one unit, whichever is larger (R137). -/
def expKernel (key : List Int) (x f : Int) : Int :=
  let v := exp320 x
  let unit : Int := (2 ^ 320 : Nat)
  let big : Int := if f < 0 then v * (2 ^ (-f).toNat : Nat) else v
  let u : Int := if f < 0 then unit else unit * (2 ^ f.toNat : Nat)
  let tol := max u (big / (2 ^ 23 : Nat))
  let lo := -((tol - big) / u)
  let hi := (big + tol) / u
  lo + (Config.kernelErr 6 key : Int) % max 1 (hi - lo + 1)

/-- The piecewise polynomial of a kernel table: 7 breakpoints, 8 × 4 coefficients, all at weight 2^-40 (R137). -/
def polyVal (tab : Nat → Int) (x : Int) : Int × Int :=
  let p := (List.range 7).foldl (fun acc k => if tab k ≤ x then k + 1 else acc) 0
  let t := x - tab (if p = 0 then 0 else p - 1)
  let c := fun j => tab (7 + 4 * p + j)
  let u : Int := (2 ^ 40 : Nat)
  (((c 3 * t + c 2 * u) * t + c 1 * (u * u)) * t + c 0 * (u * u * u), -160)

/-- A value of class e at weight 2^-40. -/
def at40 (v e : Int) : Int := v * (2 ^ (e + 40).toNat : Nat)

/-- One element of a kernel step. -/
def kernelElem (sub : Nat) (a : Opnd) (b : Option Opnd) (len i : Nat) (eD : Int) : Int × Bool :=
  let x := a.val i
  let eA := a.cls i
  match sub with
  | 1 => sat32 (rndExp (x * x) (2 * eA - eD))
  | 2 => sat32 (rndExp (x * (x.natAbs : Int)) (2 * eA - eD))
  | 3 => match b with
    | some y => let j := if y.v.length = 1 then 0 else i; sat32 (rndExp (x * y.val j) (eA + y.cls j - eD))
    | none => (x, false)
  | 4 =>
    if x = 0 then (2147483647, true)
    else
      let sh := -(eA + eD)
      let neg := decide (x < 0)
      let num : Int := if 0 ≤ sh then (2 ^ sh.toNat : Nat) else 1
      let den : Int := (x.natAbs : Int) * (if 0 ≤ sh then 1 else (2 ^ (-sh).toNat : Nat))
      let q := pickInt 4 [x, eA, eD] (nearInts 2 num den)
      sat32 (if neg then -q else q)
  | 5 => match b with
    | some y =>
      let r := polyVal (fun k => at40 (y.val k) (y.cls k)) (at40 x eA)
      within2 5 ([x, eA, eD] ++ y.v ++ y.e) 3 r.1 (r.2 - eD)
    | none => (x, false)
  | 6 =>
    let v := at40 x eA
    if v < -(32 * 2 ^ 40 : Nat) then (0, false)
    else if (16 * 2 ^ 40 : Nat) < v then (2147483647, true)
    else sat32 (expKernel [x, eA, eD] v eD)
  | _ => match b with
    | some y =>
      let two := decide (y.v.length = 2)
      let lo := if two then 0 else i
      let hi := if two then 1 else len + i
      sat32 (rndExp (min (max (at40 x eA) (at40 (y.val lo) (y.cls lo))) (at40 (y.val hi) (y.cls hi))) (-40 - eD))
    | none => (x, false)

/-- A kernel step (R137, R159). -/
def State.kernelStep (s : State) (n : Nat) : State :=
  let st := s.stepNow n
  match s.opnd n st.opa, s.object (s.imgBase n) st.dest with
  | some a, some d =>
    let b := s.opnd n st.opb
    let cls := fun i => s.classOf (s.imgBase n) d i
    let rs := (List.range (min a.o.len d.len)).map fun i =>
      let r := kernelElem st.sub a b a.o.len i (cls i)
      let w := sat32 (wmul r.1 (s.rowFactor n st i))
      (w.1, w.2 || r.2)
    s.storeStep n st d rs false
  | _, _ => s.nextStep n

/-! ### Products (R133 to R135, R159) -/

/-- The accumulators of a product step, element by element of D. -/
def State.productAccs (s : State) (n : Nat) (st : Step) (a : Opnd) (b : Option Opnd) (d : Obj) : List (Int × Bool) :=
  let ea := s.entries n a
  let bv := fun i => match b with | some y => y.val i | none => 0
  let w := s.rowFactor n st
  match st.sub with
  | 0 => (List.range d.len).map fun i =>
      accSum st.d ((ea.filter fun t => t.2.1 == i).map fun t => (a.val t.1 * bv t.2.2, w i))
  | 1 | 2 => (List.range d.len).map fun j =>
      accSum st.d ((ea.filter fun t => t.2.2 == j).map fun t => (a.val t.1 * bv t.2.1, w t.2.1))
  | 3 => match b with
    | some y =>
      let eb := s.entries n y
      (s.pattern (s.imgBase n) d.id).map fun p =>
        accSum st.d ((ea.filter fun t => t.2.1 == p.1).flatMap fun t =>
          (eb.filter fun u => u.2.1 == t.2.2 && u.2.2 == p.2).map fun u => (a.val t.1 * y.val u.1, w p.1))
    | none => []
  | _ => (s.pattern (s.imgBase n) d.id).map fun p =>
      accSum st.d ((ea.filter fun t => t.2.2 == p.1).flatMap fun t =>
        (ea.filter fun u => u.2.1 == t.2.1 && u.2.2 == p.2).map fun u => (a.val t.1 * a.val u.1, w t.2.1))

/-- A product step. -/
def State.productStep (s : State) (n : Nat) : State :=
  let st := s.stepNow n
  match s.opnd n st.opa, s.object (s.imgBase n) st.dest with
  | some a, some d => s.putStep n st d (s.productAccs n st a (s.opnd n st.opb) d) false
  | _, _ => s.nextStep n

/-! ### Factors and solves (R165, R166) -/

/-- The pivot of a column of class e and whether it is replaced (R165): scale at weight 2^-40. -/
def pivotOf (scale : Int) (e : Int) (minRel : Int × Int) (d : Int) : Int × Bool :=
  let eps := max 1 (rndExp (minRel.1 * scale) (minRel.2 - 40 - e))
  if d = 0 then (eps, true) else if (d.natAbs : Int) < eps then (if d < 0 then -eps else eps, true) else (d, false)

/-- SLC_PIVMIN as m × 2^e. -/
def State.pivMin (s : State) : Int × Int := ((fmt32.read (s.fld .SLC_PIVMIN_REL)).parts).getD (0, 0)

/-- The class of a column of a matrix object (R127). -/
def State.colClass (s : State) (n : Nat) (o : Obj) (j : Nat) : Int :=
  s.classOf (s.imgBase n) { o with kind := 1 } j

/-- The scale of column j at weight 2^-40 (R165): its largest magnitude, at least one ULP of its class. -/
def State.colScale (s : State) (n : Nat) (a : Opnd) (vals : List Int) (j : Nat) : Int :=
  ((s.entries n a).filter fun t => t.2.2 == j).foldl (fun m t => max m ((at40 (vals.getD t.1 0) (a.cls t.1)).natAbs : Int))
    (at40 1 (s.colClass n a.o j))

/-- The values of a matrix as they enter a factor step: in a QUASI_DEF image the diagonal of the variables raised by 2^REG_P, that
of the rows lowered by 2^REG_D, of their scales (R123, R150; assumption 35). -/
def State.regularised (s : State) (n : Nat) (a : Opnd) : List Int :=
  let b := s.imgBase n
  if bitOf (s.leAt (b + 0x0A) 2) 0 then
    (a.v.zip (s.pattern b a.o.id)).zipIdx.map fun x =>
      let j := x.1.2.2
      if x.1.2.1 = j then
        let delta := fun k => rndExp (s.colScale n a a.v j) (k - 40 - a.cls x.2)
        (sat32 (if j < s.nVar n then x.1.1 + delta (signed 8 (s.leAt (b + 0x38) 1))
          else x.1.1 - delta (signed 8 (s.leAt (b + 0x39) 1)))).1
      else x.1.1
  else a.v

/-- Which rows below the diagonal each column of a factor holds: those of the matrix and those that elimination fills in. -/
def fillRows (cols : Nat) (low : List (Nat × Nat)) : List (List Nat) :=
  (List.range cols).foldl (fun acc j => acc ++ [(List.range cols).filter fun i => decide (j < i) &&
    (low.contains (i, j) || acc.any fun c => c.contains j && c.contains i)]) []

/-- The entries of a factor as (row, column), column by column, the pivot first: its pattern record, or where it has none those that the
elimination of the matrix fills (R128, R165; assumption 35). -/
def State.factorPattern (s : State) (n : Nat) (a : Opnd) (d : Obj) : List (Nat × Nat) :=
  let p := s.pattern (s.imgBase n) d.id
  if p ≠ [] then p
  else (fillRows (s.shape (s.imgBase n) a.o.id).2 (s.pattern (s.imgBase n) a.o.id)).zipIdx.flatMap fun c =>
    (c.2, c.2) :: c.1.map fun i => (i, c.2)

/-- A partly formed factor: its entries at weight 2^-40 by row and column, what is stored for each, the columns whose pivot was
replaced. -/
structure Elim where
  l : Sparse Int := []
  out : List (Int × Bool) := []
  repl : List Nat := []

def Elim.get (x : Elim) (i j : Nat) : Int := Sparse.at 0 x.l (okey i j)
def Elim.push (x : Elim) (i j : Nat) (v : Int × Bool) (e : Int) : Elim :=
  { x with l := Sparse.put 0 x.l (okey i j) (at40 v.1 e), out := x.out ++ [v] }

/-- An entry of a factor formed from the matrix at weight 2^-40 and the entries before it: exact, rounded once to its class, a small
pivot replaced (R135, R165; assumption 35). -/
def Elim.entry (mat : Nat → Nat → Int) (scale : Nat → Int) (minRel : Int × Int) (x : Elim) (i j : Nat) (e : Int) : Elim :=
  let num := mat i j * (2 ^ 80 : Nat) - (List.range j).foldl (fun acc k => acc + x.get i k * x.get j k * x.get k k) 0
  if i = j then
    let v := sat32 (rndExp num (-120 - e))
    let p := pivotOf (scale j) e minRel v.1
    let w := sat32 p.1
    let y := x.push i j (w.1, v.2 || w.2) e
    { y with repl := if p.2 then y.repl ++ [j] else y.repl }
  else x.push i j (sat32 (rndDiv num (x.get j j * (2 ^ (80 + e).toNat : Nat)))) e

/-- The entries of the inverse on a factor's pattern, from the last one back, each exact and rounded once (R159; assumption 35). -/
def Elim.inverse (x : Elim) (pat : List (Nat × Nat)) (cls : Nat → Int) : List (Int × Bool) :=
  (pat.zipIdx.reverse.foldl (fun (acc : Sparse Int × List (Int × Bool)) p =>
    let i := p.1.1
    let j := p.1.2
    let e := cls (pat.length + p.2)
    let num := (pat.filter fun q => q.2 == j && decide (j < q.1)).foldl (fun t q =>
      t + x.get q.1 j * Sparse.at 0 acc.1 (okey (max i q.1) (min i q.1))) 0
    let v := sat32 (if i = j then rndDiv ((2 ^ 120 : Nat) - num * x.get j j) (x.get j j * (2 ^ (80 + e).toNat : Nat))
      else rndExp (-num) (-80 - e))
    (Sparse.put 0 acc.1 (okey i j) (at40 v.1 e), v :: acc.2)) ([], [])).2

/-- The operand with its rows weighted, where the step says so (R160). -/
def State.weighted (s : State) (n : Nat) (st : Step) (a : Opnd) : Opnd :=
  { a with v := (a.v.zip (s.pattern (s.imgBase n) a.o.id)).map fun x => (sat32 (wmul x.1 (s.rowFactor n st x.2.1))).1 }

/-- A factor step (R165): D holds the entries of the factor, column by column with the pivot first, and with SUB 1 after them those of
the inverse. -/
def State.factorStep (s : State) (n : Nat) : State :=
  let st := s.stepNow n
  match s.opnd n st.opa, s.object (s.imgBase n) st.dest with
  | some a0, some d =>
    let a := s.weighted n st a0
    let vals := s.regularised n a
    let pat := s.factorPattern n a d
    let cls := fun k => s.classOf (s.imgBase n) d k
    let mat : Sparse Int := (s.entries n a).foldl (fun m t => Sparse.put 0 m (okey t.2.1 t.2.2) (at40 (vals.getD t.1 0) (a.cls t.1))) []
    let x := pat.zipIdx.foldl (fun (x : Elim) p => Elim.entry (fun i j => Sparse.at 0 mat (okey i j)) (s.colScale n a vals) s.pivMin x
      p.1.1 p.1.2 (cls p.2)) ({} : Elim)
    let rs := x.out ++ (if st.sub = 1 then x.inverse pat cls else [])
    let s1 := s.setCtx n fun c => { c with
      pivCnt := c.pivCnt + x.repl.length, pivFirst := if c.pivCnt = 0 then x.repl.headD 0 else c.pivFirst,
      factors := Sparse.put none c.factors st.dest (some ⟨a.o.id, vals, !x.repl.isEmpty⟩) }
    let s2 := (s1.put (.SLC_PIVOT_CNT n) (min 4095 (s1.ctx n).pivCnt)).put (.SLC_PIVOT_FIRST n) (s1.ctx n).pivFirst
    s2.storeStep n st d rs true
  | _, _ => s.nextStep n

/-- The largest magnitude of some values, scaled by their classes, in units of 2^-40. -/
def normInf (v e : List Int) : Nat := (v.zip e).foldl (fun m x => max m (at40 x.1 x.2).natAbs) 0

/-- ρ of R166 and R168: ‖a‖∞ over the greater of ‖b‖∞ and one ULP of b. -/
def rhoOf (a : Nat) (b : Option (Nat × Int)) : Word := match b with
  | some (m, e) => ratio32 false a (max m (at40 1 e).toNat) 0
  | none => ratio32 false a (2 ^ 40) 0

/-- The matrix of a factor object: the one it was formed from in this run, else that of the schedule's factor step (R165). -/
def State.factorMatrix (s : State) (n : Nat) (f : Obj) : Option Opnd :=
  let id := match Sparse.at none (s.ctx n).factors f.id with
    | some fc => some fc.mat
    | none => ((List.range (s.leAt (s.imgBase n + 0x18) 4)).find? fun k => (s.stepAt n k).kind == 4 && (s.stepAt n k).dest == f.id).map
        fun k => (s.stepAt n k).opa
  id.bind (s.opnd n)

/-- A factor as it lies in its object. -/
def State.factorOf (s : State) (n : Nat) (f : Opnd) : Elim :=
  match s.factorMatrix n f.o with
  | some a => (s.factorPattern n a f.o).zipIdx.foldl (fun (x : Elim) p => x.push p.1.1 p.1.2 (f.val p.2, false) (f.cls p.2)) {}
  | none => {}

/-- Forward with L: a right side at weight 2^-40; each element exact, then rounded once (R135, R159; assumption 35). -/
def Elim.forward (x : Elim) (len : Nat) (b : Nat → Int) (cls : Nat → Int) : List (Int × Bool) :=
  (List.range len).foldl (fun acc i => acc ++ [sat32 (rndExp (b i * (2 ^ 40 : Nat) -
    (List.range i).foldl (fun t k => t + x.get i k * at40 (acc.getD k (0, false)).1 (cls k)) 0) (-80 - cls i))]) []

/-- Diagonal with D. -/
def Elim.diagonal (x : Elim) (len : Nat) (b : Nat → Int) (cls : Nat → Int) : List (Int × Bool) :=
  (List.range len).map fun i => sat32 (rndDiv (b i * (2 ^ (-cls i).toNat : Nat)) (x.get i i * (2 ^ (cls i).toNat : Nat)))

/-- Backward with the transpose of L. -/
def Elim.backward (x : Elim) (len : Nat) (b : Nat → Int) (cls : Nat → Int) : List (Int × Bool) :=
  (List.range len).reverse.foldl (fun acc i => sat32 (rndExp (b i * (2 ^ 40 : Nat) -
    (List.range (len - 1 - i)).foldl (fun t k => t + x.get (i + 1 + k) i * at40 (acc.getD k (0, false)).1 (cls (i + 1 + k))) 0)
    (-80 - cls i)) :: acc) []

/-- A solve of a SUB code (R159): the full one is the three parts in turn, each stored in the classes of D. -/
def Elim.solve (x : Elim) (sub len : Nat) (b : Nat → Int) (cls : Nat → Int) : List (Int × Bool) :=
  let next := fun (l : List (Int × Bool)) (i : Nat) => at40 (l.getD i (0, false)).1 (cls i)
  match sub with
  | 0 => x.forward len b cls
  | 1 => x.diagonal len b cls
  | 2 => x.backward len b cls
  | _ =>
    let y := x.forward len b cls
    let z := x.diagonal len (next y) cls
    ((x.backward len (next z) cls).zip (y.zip z)).map fun r => (r.1.1, r.1.2 || r.2.1.2 || r.2.2.2)

/-- The accumulators of B − K·x in the classes of B with s places more; K is the matrix that entered the factor step (R134, R166). -/
def State.residual (s : State) (n : Nat) (st : Step) (k : Opnd) (kv : List Int) (b : Opnd) (x : List Int) : List (Int × Bool) :=
  let ek := s.entries n k
  (List.range b.v.length).map fun i =>
    (ek.filter fun t => t.2.1 == i).foldl (fun acc t => accAdd acc (-(alignBy (kv.getD t.1 0 * x.getD t.2.2 0) st.d)))
      (accAdd (0, false) (b.val i * (2 ^ st.sh : Nat)))

/-- A solution refined once, with ρ_ref (R166). -/
def State.refine (s : State) (n : Nat) (st : Step) (x : Elim) (k : Opnd) (kv : List Int) (b : Opnd) (cls : Nat → Int)
    (x0 : List (Int × Bool)) : List (Int × Bool) × Word :=
  let r := (s.residual n st k kv b (x0.map Prod.fst)).map fun a => writeBack a st.sh
  let dx := x.solve 3 x0.length (fun i => at40 (r.getD i (0, false)).1 (b.cls i)) cls
  let x1 := (x0.zip dx).zipIdx.map fun p =>
    let t := sat32 (p.1.1.1 + p.1.2.1)
    (t.1, t.2 || p.1.1.2 || p.1.2.2 || (r.getD p.2 (0, false)).2)
  let rr := s.residual n st k kv b (x1.map Prod.fst)
  (x1.zipIdx.map fun p => (p.1.1, p.1.2 || (rr.getD p.2 (0, false)).2),
    ratio32 false (normInf (rr.map Prod.fst) b.e) (max (normInf b.v b.e) (at40 1 (b.cls 0)).toNat * 2 ^ st.sh) 0)

/-- A solve step (R166): SUB 3 refines once when its factor had a pivot replaced or REFINE is set. -/
def State.solveStep (s : State) (n : Nat) : State :=
  let st := s.stepNow n
  match s.opnd n st.opa, s.opnd n st.opb, s.object (s.imgBase n) st.dest with
  | some f, some b0, some d =>
    let b := { b0 with v := b0.v.zipIdx.map fun x => (sat32 (wmul x.1 (s.rowFactor n st x.2))).1 }
    let cls := fun i => s.classOf (s.imgBase n) d i
    let x := s.factorOf n f
    let x0 := x.solve st.sub d.len (fun i => at40 (b.val i) (b.cls i)) cls
    match (Sparse.at none (s.ctx n).factors st.opa).bind fun (fc : Factor) => (s.opnd n fc.mat).map fun k => (fc, k) with
    | none => s.storeStep n st d x0 true
    | some (fc, k) =>
      if st.sub ≠ 3 ∨ !(fc.replaced || bitOf st.flags 3) then s.storeStep n st d x0 true
      else
        let r := s.refine n st x k fc.vals b cls x0
        ((s.put (.SLC_REFRES_RHO n) r.2.toNat).setCtx n fun c => { c with refRes := r.2 }).storeStep n st d r.1 true
  | _, _, _ => s.nextStep n

/-! ### Reduce (R159) -/

/-- The largest magnitude, weighted, with its first index (R159). -/
def argMax (v : List (Int × Weight)) : Int × Weight × Nat :=
  v.zipIdx.foldl (fun (acc : Int × Weight × Nat) x =>
    let m : Int := x.1.1.natAbs
    if acc.1 * acc.2.1.1 * x.1.2.2 < m * x.1.2.1 * acc.2.1.2 then (m, x.1.2, x.2) else acc) (0, (1, 1), 0)

/-- A reduce step (R136, R159). -/
def State.reduceStep (s : State) (n : Nat) : State :=
  let st := s.stepNow n
  match s.opnd n st.opa, s.object (s.imgBase n) st.dest with
  | some a, some d =>
    let w := s.rowFactor n st
    let b := s.opnd n st.opb
    let top := argMax (a.v.zipIdx.map fun x => (x.1, w x.2))
    let big := accSum st.d [(top.1, top.2.1)]
    match st.sub with
    | 0 => s.putStep n st d [accSum st.d (a.v.zipIdx.map fun x => (x.1 * (match b with | some y => y.val x.2 | none => 0), w x.2))]
        false
    | 2 => s.putStep n st d [accSum st.d (a.v.zipIdx.map fun x => (x.1 * x.1, w x.2))] false
    | 3 => s.storeStep n st d [writeBack big st.sh, ((top.2.2 : Int), false)] false
    | _ => s.putStep n st d [big] false
  | _, _ => s.nextStep n

/-! ### Gather (R161, R147) -/

/-- The gather step: the copied words become the MEAS objects, and a substitute or forced word weights its row down. -/
def State.gatherStep (s0 : State) (n : Nat) : State :=
  let s := if n = 0 then s0 else s0.gather n fun _ => none
  let g := s.gatherList n
  let b := s.imgBase n
  let t := (s.ctx n).gathered.zipIdx.foldl (fun (t : State) x =>
    let src := s.leAt (g + 16 + 8 * x.2) 4
    let dst := s.leAt (g + 20 + 8 * x.2) 4
    let id := bitsOf dst 31 20
    let el := bitsOf dst 19 0
    match s.object b id with
    | some o =>
      let w := x.1.1
      let num : Num := match bitsOf src 25 24 with
        | 1 => .fin (decide (signed 32 w.toNat < 0)) (signed 32 w.toNat).natAbs 0
        | 2 => .fin false w.toNat 0
        | _ => fmt32.read w.toNat
      let v := (sat32 (wmul (storeVal num w (s.scale b o el) (s.classOf b o el)).1 (s.rowFactor n (s.stepNow n) el))).1
      let m : Int := if x.1.2.1 || x.1.2.2 then -(s.fld .SLV_EST_W_SUBW : Int) else 0
      (t.setVals n o el [v]).setCtx n fun c => { c with weight := Sparse.put 0 c.weight el m }
    | none => t) s
  t.nextStep n

/-! ### Tests (R168 to R175) -/

/-- ρ of a RESID or INFEAS step (R168). -/
def State.rhoStep (s : State) (n : Nat) : Word :=
  let st := s.stepNow n
  match s.opnd n st.opa with
  | some a => rhoOf (normInf a.v a.e) (if st.opb = 0 then none else (s.opnd n st.opb).map fun b => (normInf b.v b.e, b.cls 0))
  | none => 0

/-- RESID. -/
def State.residTest (s : State) (n : Nat) : State :=
  let st := s.stepNow n
  let rho := s.rhoStep n
  let ok := fle rho (w32 (s.fld (.SLC_TOL (8 * n + st.param % 8))))
  (s.setCtx n fun c => { c with resid := Sparse.put 0 c.resid (st.param / 256 % 8) rho, residOk := c.residOk && ok }).nextStep n

/-- The total iterations of a run. -/
def State.totalIter (s : State) (n : Nat) : Nat := s.fld (.SLC_ITER_TOTAL n)

/-- MERIT (R170). -/
def State.meritTest (s : State) (n : Nat) : State :=
  let st := s.stepNow n
  let m := match s.opnd n st.opa with
    | some a => engVal (a.val 0) 0x3F800000 (a.cls 0)
    | none => 0
  let c := s.ctx n
  if c.best.isNone ∨ flt m c.bestMerit then
    ((s.setCtx n fun x => { x with merit := m, best := some (s.resultVals n), bestMerit := m, bestResid := x.resid,
                                   bestIter := s.totalIter n + 1 }).put (.SLC_ITER_BEST n) (s.totalIter n + 1)).nextStep n
  else (s.setCtx n fun x => { x with merit := m }).nextStep n

/-! ### Decisions and barriers -/

/-- Ω of a row, where the image has an object of it (R148; assumption 90). -/
def State.omegaOf (s : State) (n i : Nat) : Option Int :=
  ((s.object (s.imgBase n) (s.shapeOf n).omega).filter fun o => decide (i < o.len)).map fun o => s.valAt n o i

/-- A measured row that takes part; of these a row with Ω not above 0 is critical (R148, R172). -/
def State.measuredRow (s : State) (n i : Nat) : Bool :=
  decide (1 ≤ s.rowKind n i) && decide (s.rowKind n i ≤ 8) && !(s.ctx n).removed.contains i
def State.critical (s : State) (n i : Nat) : Bool := s.measuredRow n i && (s.omegaOf n i).any fun w => decide (w ≤ 0)

/-- Does a BADDATA test look for a suspect: after a converged solve of a FORM 0 image (R172)? -/
def State.tested (s : State) (n : Nat) : Bool := (s.ctx n).solved == 1 && s.form n == 0

/-- The suspect of a BADDATA step: the measured row, not critical, with the largest normalised residual above SLV_EST_BAD (R148, R172). -/
def State.suspect (s : State) (n : Nat) : Option (Nat × Word) :=
  match (s.opnd n (s.stepNow n).opa).filter fun _ => s.tested n with
  | none => none
  | some a =>
    let rn := (List.range a.v.length).map fun i => engVal (a.val i) (s.scale (s.imgBase n) a.o i) (a.cls i)
    rn.zipIdx.foldl (fun acc r =>
      if flt (w32 (s.fld .SLV_EST_BAD_THRESH)) r.1 && s.measuredRow n r.2 && !s.critical n r.2 then match acc with
        | some (_, m) => if flt m r.1 then some (r.2, r.1) else acc
        | none => some (r.2, r.1)
      else acc) none

/-- A suspect shown in SLC_SUSP and in the run's flags. -/
def State.showSuspect (s : State) (n : Nat) (x : Nat × Word) (removed : Bool) : State :=
  let k := min 3 (s.ctx n).suspects.length
  let m := 4 * n + k
  let t := (((s.putB (.SLC_SUSP_ROW_VALID m) true).putB (.SLC_SUSP_ROW_REMOVED m) removed).put (.SLC_SUSP_ROW_ROW m) x.1).put
    (.SLC_SUSP_RN m) x.2.toNat
  if removed then t else t.setCtx n fun c => { c with flags := c.flags ||| 4 }

/-- What a decision does: the step that follows a barrier, or the decision at once where none is held (R169 to R173). -/
def State.takeDecision (s0 : State) (n d : Nat) : State :=
  let s := s0.setCtx n fun c => { c with barrier := none }
  let st := s.stepNow n
  match d with
  | 0 => s.setCtx n fun c => { c with step := st.param % 16384 }
  | 1 => (s.setCtx n fun c => { c with status := 1, solved := 1 }).nextStep n
  | 2 => (s.setCtx n fun c => { c with status := 2, solved := 2 }).nextStep n
  | 3 => s.toScatter n 3
  | 4 => s.toScatter n 4
  | 5 => match s.suspect n with
    | some x =>
      let s1 := s.showSuspect n x true
      let s2 := s1.setCtx n fun c => { c with
        suspects := c.suspects ++ [x], removed := c.removed ++ [x.1], fallback := some (s.resultVals n, c.resid, s.totalIter n, c.merit),
        best := none, iter := 0, status := 0, solved := 0, residOk := true, step := st.param % 16384 }
      ((s2.put (.SLC_ITER_REMOVED n) ((s2.ctx n).removed.length)).condition 0x8B80 2 0xFF (0x0B0000 + n) x.1).dropCheck
    | none => s.nextStep n
  | _ => (match s.suspect n with
      | some x => s.showSuspect n x false
      | none => s).nextStep n

/-- The siblings that take part in a run's barriers (R174, R176). -/
def State.barrierSibs (s : State) (n : Nat) : List Nat := s.votingSibs.filter fun k => !Sparse.at false (s.ctx n).dropped k

/-- A decision staged in the sync group (R174); the wait counts from the member's first arming at this barrier (R176). -/
def State.stageMark (s : State) (n d : Nat) : State :=
  let g := s.fld (.SLC_GRP_SYNC n)
  let c := s.ctx n
  let mark := c.serial % 65536 * 65536 + s.totalIter n % 4096 * 16 + d
  let armed := match c.barrier with
    | some b => b.armed
    | none => s.now
  let o := s.openOwn g
  let t := if o.2 then
      (((o.1.setGrpCfg g 5 0 none).put64 (0x8100 + 8 * g) (0x8104 + 8 * g) (c.start + 86000000000000)).stageEntry g
        ⟨false, 0xB320 + 4 * n⟩ (w32 mark) false).armNow g
    else o.1
  (t.setCtx n fun x => { x with barrier := some ⟨d, armed⟩ }).put (.SLC_SYNC_STAT_ITER n) (s.totalIter n)

/-- A decision point (R174): a voting member with voting siblings holds a barrier; else the decision is taken at once (R176). -/
def State.decision (s : State) (n d : Nat) : State :=
  if !s.voting ∨ s.alone ∨ (s.barrierSibs n).isEmpty then s.takeDecision n d else s.stageMark n d

/-- INFEAS (R171): the iterations in a row of this step above its tolerance; the decision goes through a barrier like the others
(R174; assumption 28). -/
def State.infeasTest (s : State) (n : Nat) : State :=
  let st := s.stepNow n
  let step := (s.ctx n).step
  let bad := fle (w32 (s.fld (.SLC_TOL (8 * n + st.param % 8)))) (s.rhoStep n)
  let k := if bad then Sparse.at 0 (s.ctx n).infeas step + 1 else 0
  let t := s.setCtx n fun c => { c with infeas := Sparse.put 0 c.infeas step k }
  if max 1 (s.fld .SLC_INFEAS_N) ≤ k then t.decision n 4 else t.nextStep n

/-- LOOP (R169, R173). -/
def State.loopTest (s : State) (n : Nat) : State :=
  let c := s.ctx n
  let took := c.clock - c.iterAt
  let s1 := ((s.put (.SLC_ITER_TOTAL n) (s.totalIter n + 1)).setCtx n fun x =>
    { x with iter := x.iter + 1, longest := max x.longest took, iterAt := x.clock, residOk := true }).sample 0x0B 1 n took
  s1.decision n (if c.residOk then 1 else if c.iter + 1 = s.fld (.SLC_ITER_CAP n) then 2
    else if s.fld (.SLC_DEADLINE_US n) ≤ c.clock then 3 else 0)

/-- BADDATA (R172, R173): the deadline first; after a converged solve of a FORM 0 image the critical rows are counted and a suspect is
removed where the removals and the time left allow it. -/
def State.badDataTest (s : State) (n : Nat) : State :=
  let c := s.ctx n
  let rows := match s.opnd n (s.stepNow n).opa with
    | some a => a.v.length
    | none => 0
  let s1 := if s.tested n then s.put .SLC_CRIT_CNT ((List.range rows).filter (s.critical n)).length else s
  let dl := s.fld (.SLC_DEADLINE_US n)
  s1.decision n (if dl ≤ c.clock then 3
    else if (s1.suspect n).isSome && decide (c.removed.length < 3) && decide (2 * c.longest ≤ dl - c.clock) then 5 else 6)

/-- Has every voting sibling that takes part an equal mark (R174)? -/
def State.marksAgree (s : State) (n : Nat) : Bool :=
  let g := s.fld (.SLC_GRP_SYNC n)
  (s.barrierSibs n).all fun k => match Sparse.at none (s.group g).sibHash k with
    | some (h, _) => h == (s.group g).hash
    | none => false

/-- A barrier released: the group aborts and the next step runs (R174). -/
def State.leaveBarrier (s : State) (n : Nat) : State :=
  match (s.ctx n).barrier with
  | none => s
  | some b => ((s.abortGroup (s.fld (.SLC_GRP_SYNC n)) 2).sample 0x0B 2 n ((s.now - b.armed) / 1000)).takeDecision n b.decision

/-- Marks not agreed within SIB_CYC_TMO (R175): continue becomes deadline, re-solve becomes accept. -/
def State.splitBarrier (s : State) (n : Nat) : State :=
  match (s.ctx n).barrier with
  | none => s
  | some b =>
    if s.marksAgree n ∨ !(b.decision = 0 ∨ b.decision = 5) then s
    else
      let t := ((s.abortGroup (s.fld (.SLC_GRP_SYNC n)) 2).bump (.SLC_SYNC_STAT_SPLIT n)).setCtx n fun c =>
        { c with flags := c.flags ||| 16 }
      t.stageMark n (if b.decision = 0 then 3 else 6)

/-- SLC_SYNC_WAIT has passed since the member's own arming (R176): with one voting sibling the run ends; a member with which no sibling
agrees is sidelined; else the missing sibling is dropped. -/
def State.syncExpiry (s : State) (n : Nat) : State :=
  match (s.ctx n).barrier with
  | none => s
  | some b =>
    if s.marksAgree n then s.leaveBarrier n
    else
      let g := s.fld (.SLC_GRP_SYNC n)
      let missing := (s.barrierSibs n).filter fun k => match Sparse.at none (s.group g).sibHash k with
        | some (h, _) => h != (s.group g).hash
        | none => true
      if s.votingSibs.length = 1 then (s.failRun n 6).raise 2 0x0A n 0x0C b.decision
      else if missing.length = (s.barrierSibs n).length then s.raise 3 0x0A n 0x0B (s.totalIter n)
      else
        let drop1 := fun (t : State) k =>
          ((t.putB (if k = 0 then .SLC_SYNC_STAT_DROP_UP n else .SLC_SYNC_STAT_DROP_DN n) true).setCtx n fun c =>
            { c with dropped := Sparse.put false c.dropped k true }).raise 1 0x0A n 0x0A (sibPos s.pos k)
        let t := missing.foldl drop1 s
        if t.marksAgree n then t.leaveBarrier n else t

/-- The end of a step: a run that is to end ends (R164), else a ready context of higher priority takes the fabric (R13, R139). -/
def State.stepEnd (s : State) (n : Nat) : State :=
  if s.ctxState n = 3 ∧ (s.ctx n).abortDue = true then s.failRun n 6 else s.preempt

/-- A step command of context n: with the run clock brought to now. -/
def stepAct (n kind : Nat) (s : State) (f : State → State) : Host.Outcome State Fault Refusal :=
  coreAct s fun s => if s.atStep n kind then (f (s.runClock n)).stepEnd n else s

/-- A test step command. -/
def testAct (n sub : Nat) (s : State) (f : State → State) : Host.Outcome State Fault Refusal :=
  coreAct s fun s => if s.atTest n sub then (f (s.runClock n)).stepEnd n else s

/-! ### Commands -/

/-- SOLVER_TRIGGER (R138): PTP time is a multiple of SLV_CTX_PERIOD for a context of TRIG 2. The snapshot, a committed START and a
publication trigger within their own commands. -/
def execSolverTrigger (ctx : Fin 4) (s : State) : Host.Outcome State Fault Refusal :=
  coreAct s fun s =>
    if s.fld (.SLV_CTX_CFG_TRIG ctx.val) = 2 ∧ s.now % (max 1 (s.fld (.SLV_CTX_PERIOD ctx.val)) * 1000000000) = 0 then
      s.trigger ctx.val
    else s

/-- SOLVER_RUN_START (R139, R141): the fabric is free and the context the one that takes it. -/
def execSolverRunStart (ctx : Fin 4) (s : State) : Host.Outcome State Fault Refusal :=
  coreAct s fun s =>
    if s.slv.running = none ∧ s.nextCtx = some ctx.val ∧ s.ctxState ctx.val = 2 then s.startRun ctx.val else s

/-- CONTEXT_PREEMPT (R13, R139): the step in progress has ended and the ready context of higher priority starts. -/
def execContextPreempt (ctx : Fin 4) (s : State) : Host.Outcome State Fault Refusal :=
  coreAct s fun s => if s.firstOf s.readyCtx = some ctx.val then s.preempt else s

/-- CONTEXT_RESUME (R13): the fabric is free again. -/
def execContextResume (ctx : Fin 4) (s : State) : Host.Outcome State Fault Refusal :=
  coreAct s fun s =>
    if s.slv.running = none ∧ s.nextCtx = some ctx.val ∧ s.ctxState ctx.val = 4 then s.resume ctx.val else s

/-- GATHER_STEP (R161). -/
def execGatherStep (ctx : Fin 4) (s : State) : Host.Outcome State Fault Refusal := stepAct ctx.val 1 s fun s => s.gatherStep ctx.val
/-- KERNEL_STEP (R137). -/
def execKernelStep (ctx : Fin 4) (s : State) : Host.Outcome State Fault Refusal := stepAct ctx.val 2 s fun s => s.kernelStep ctx.val
/-- PRODUCT_STEP (R159). -/
def execProductStep (ctx : Fin 4) (s : State) : Host.Outcome State Fault Refusal := stepAct ctx.val 3 s fun s => s.productStep ctx.val
/-- FACTOR_STEP (R165). -/
def execFactorStep (ctx : Fin 4) (s : State) : Host.Outcome State Fault Refusal := stepAct ctx.val 4 s fun s => s.factorStep ctx.val
/-- SOLVE_STEP (R166). -/
def execSolveStep (ctx : Fin 4) (s : State) : Host.Outcome State Fault Refusal := stepAct ctx.val 5 s fun s => s.solveStep ctx.val
/-- REDUCE_STEP (R159). -/
def execReduceStep (ctx : Fin 4) (s : State) : Host.Outcome State Fault Refusal := stepAct ctx.val 6 s fun s => s.reduceStep ctx.val
/-- RESID_TEST (R168). -/
def execResidTest (ctx : Fin 4) (s : State) : Host.Outcome State Fault Refusal := testAct ctx.val 1 s fun s => s.residTest ctx.val
/-- LOOP_TEST (R169, R173, R174). -/
def execLoopTest (ctx : Fin 4) (s : State) : Host.Outcome State Fault Refusal := testAct ctx.val 2 s fun s => s.loopTest ctx.val
/-- MERIT_TEST (R170). -/
def execMeritTest (ctx : Fin 4) (s : State) : Host.Outcome State Fault Refusal := testAct ctx.val 3 s fun s => s.meritTest ctx.val
/-- BADDATA_TEST (R172). -/
def execBaddataTest (ctx : Fin 4) (s : State) : Host.Outcome State Fault Refusal := testAct ctx.val 4 s fun s => s.badDataTest ctx.val
/-- INFEAS_TEST (R171). -/
def execInfeasTest (ctx : Fin 4) (s : State) : Host.Outcome State Fault Refusal := testAct ctx.val 5 s fun s => s.infeasTest ctx.val
/-- SCATTER_STEP (R162, R177): at position S the publication commits at once (R77). -/
def execScatterStep (ctx : Fin 4) (s : State) : Host.Outcome State Fault Refusal :=
  stepAct ctx.val 8 s fun s => if (s.ctx ctx.val).abortDue then s else (s.scatter ctx.val).immediate (s.fld (.SLC_GRP_PUB ctx.val))

/-- BARRIER_AGREED (R174). -/
def execBarrierAgreed (ctx : Fin 4) (s : State) : Host.Outcome State Fault Refusal :=
  coreAct s fun s => if (s.ctx ctx.val).barrier.isSome && s.marksAgree ctx.val then
    ((s.runClock ctx.val).leaveBarrier ctx.val).stepEnd ctx.val else s

/-- BARRIER_TIMEOUT (R175). -/
def execBarrierTimeout (ctx : Fin 4) (s : State) : Host.Outcome State Fault Refusal :=
  coreAct s fun s => (s.runClock ctx.val).splitBarrier ctx.val

/-- SYNC_WAIT_EXPIRY (R176). -/
def execSyncWaitExpiry (ctx : Fin 4) (s : State) : Host.Outcome State Fault Refusal :=
  coreAct s fun s => ((s.runClock ctx.val).syncExpiry ctx.val).stepEnd ctx.val

/-- TEST_GENERATOR_END (R201): LEN samples have been given, or RUN is 0. -/
def execTestGeneratorEnd (gen : Fin 8) (s : State) : Host.Outcome State Fault Refusal :=
  coreAct s fun s =>
    let g := gen.val
    if (0 < s.genWord g 4 ∧ s.genWord g 4 ≤ (s.gen g).k) ∨ (s.genWord g 4 = 0 ∧ !s.flag (.LOP_TEST_RUN g)) then s.endGen g else s

/-- CAPTURE_DONE (R203, R204): TOTAL − PRE post samples have been recorded. -/
def execCaptureDone (unit : Fin 4) (s : State) : Host.Outcome State Fault Refusal :=
  coreAct s fun s =>
    let x := s.capture unit.val
    if x.state = 3 ∧ s.capTotal unit.val - s.capPre unit.val ≤ x.post then (s.endCapture unit.val 4).discardEvents else s

/-- SATURATION_WINDOW_END (R205): WIN + 1 samples have been counted. -/
def execSaturationWindowEnd (slot : Fin 512) (s : State) : Host.Outcome State Fault Refusal :=
  coreAct s fun s =>
    let x := s.slotOf slot.val
    let size := max 15 (bitsOf (s.slotCfg slot.val 0x2C).toNat 31 16) + 1
    if size ≤ x.satN then s.satWindowEnd slot.val x.satCnt size else s

end Sys2Proof.Machine
end

