-- ==== Sys2Proof/Machine/Tap.lean ====
section
/-! DEFINITION. The inspection port (R417, R418): rows 258 to 263. The port runs beside the clocks that a freeze stops, so its
instructions act in every mode. -/

namespace Sys2Proof.Machine

def State.setTap (s : State) (f : TapState → TapState) : State := { s with tap := f s.tap }

/-- Inspection hold: start-up has stopped with BOOT = 11 (R25). -/
def State.inspectHold (s : State) : Bool := s.stopped && s.boot == 3

/-- May the frozen state be read: in Frozen, in inspection hold, after a start-up stopped by R28 (R417)? -/
def State.readable (s : State) : Bool := s.mode == .frozen || s.stopped

/-- The stop cause of section 0: 1 freeze, 2 start-up stop, 3 inspection hold. -/
def State.stopCause (s : State) : Nat :=
  if s.mode = .frozen then 1 else if s.inspectHold ∧ s.flag .CLK_STAT_XTAL_OK then 3 else 2

/-- A word of a part of the read-out whose layout the spec does not give (assumption 44). -/
def State.openWord (s : State) (n k : Nat) : Word := Config.sectWord s.fresh n k

/-- Word k of the MRAM: of a record of the Sediment ring at 0x0010_0000 (R395); the rest has no layout in the spec (assumption 44). -/
def State.mramWord (s : State) (k : Nat) : Option Word :=
  if 262144 ≤ k ∧ k < 524288 then
    (Sparse.at none s.sed.ring ((k - 262144) / 16)).map fun r => wordAt r.bytes (4 * (k % 16))
  else none

/-- Data word k of section n (R418). -/
def State.sectData (s : State) (n k : Nat) : Word :=
  match n with
  | 0 =>
    (match k with
      | 0 => w32 s.pos
      | 1 => capWord 0
      | 2 => s.reg 0x4C
      | 3 => w32 s.stopCause
      | 4 => s.reg 0x31044
      | 5 => s.reg 0x31048
      | 6 => w32 s.time.count
      | 7 => w32 (s.time.count / 2 ^ 32)
      | k => w32 (sectCount (k - 8)))
  | 2 => s.view (4 * k)
  | 4 => if k < 65536 then s.scn.code.getD k 0 else Sparse.at 0 s.scn.mem.locals (k - 65536)
  | 5 => s.word k
  | 6 => if k < 16384 then s.openWord 6 k else (s.mramWord (k - 16384)).getD (s.openWord 6 k)
  | n => s.openWord n k

/-- The data words of a section, beside header and ECC status. -/
def sectDataCount (n : Nat) : Nat :=
  match n with
  | 0 => 16
  | 2 => 51200
  | 4 => 98304
  | 5 => 16777216
  | 6 => 540672
  | n => Config.sectWords n - 4

/-- Word k of section n: header, data, ECC status. How many words are uncorrectable and the status of each is open. -/
def State.sectWord (s : State) (n k : Nat) : Word :=
  match k with
  | 0 => w32 n
  | 1 => w32 (sectCount n)
  | 2 => crc32 (wordsBytes ((List.range (sectDataCount n)).map fun j => s.sectData n j))
  | 3 => if n = 4 ∨ n = 5 ∨ n = 6 then s.openWord (n + 8) 3 else 0
  | k => if k - 4 < sectDataCount n then s.sectData n (k - 4) else s.openWord (n + 8) k

/-- The next word of the read-out, and the place after it; after section 7 the port shifts 0. -/
def State.shiftWord (s : State) : State × Word :=
  if 8 ≤ s.tap.sect then (s, 0)
  else
    let w := s.sectWord s.tap.sect s.tap.word
    (s.setTap fun x => if x.word + 1 < sectCount x.sect then { x with word := x.word + 1 } else { x with sect := x.sect + 1, word := 0 }, w)

/-- So many words shifted out, as bits, the first lowest. -/
def State.shiftWords : Nat → State → State × Nat
  | 0, s => (s, 0)
  | n + 1, s => let r := s.shiftWord; let q := State.shiftWords n r.1; (q.1, r.2.toNat + 2 ^ 32 * q.2)

/-- Bits through the bypass register: one bit late, the first a 0. -/
def State.bypass (s : State) (width : Nat) (bits : Nat) : State :=
  (s.setTap fun x => { x with extest := false }).send (.tdo width (2 * bits % 2 ^ width))

/-- FRZ_RD (R417, R418): so many 32-bit words shifted out; 0 where the frozen state cannot be read. -/
def execFrzRd (words : Nat) (s : State) : Host.Outcome State Fault Refusal :=
  let t := s.setTap fun x => { x with extest := false }
  effect s (if t.readable then let r := State.shiftWords words t; r.1.send (.tdo (32 * words) r.2) else t.send (.tdo (32 * words) 0))

/-- FRZ_SEEK (R417): the section and word from which FRZ_RD continues. How the 32-bit data register codes them is not in the spec. -/
def execFrzSeek (sect : Fin 8) (word : BitVec 29) (s : State) : Host.Outcome State Fault Refusal :=
  effect s (if s.readable then s.setTap fun x => { x with extest := false, sect := sect.val, word := word.toNat }
    else s.setTap fun x => { x with extest := false })

/-- IDCODE (R417). -/
def execIdcode (s : State) : Host.Outcome State Fault Refusal :=
  effect s ((s.setTap fun x => { x with extest := false }).send (.tdo 32 0x1730056B))

/-- SAMPLE/PRELOAD (R417, IEEE 1149.1): the levels of the lands shifted out while the register takes the bits shifted in. -/
def execSamplePreload (width bits : Nat) (s : State) : Host.Outcome State Fault Refusal :=
  effect s (((s.setTap fun x => { x with extest := false, bsr := bits % 2 ^ width }).send (.tdo width (Config.boundary s.fresh % 2 ^ width))).usedFree)

/-- EXTEST (R417): in inspection hold the lands follow the boundary scan register; otherwise as BYPASS. -/
def execExtest (width bits : Nat) (s : State) : Host.Outcome State Fault Refusal :=
  effect s (if s.inspectHold then
      ((s.setTap fun x => { x with extest := true, bsr := bits % 2 ^ width }).send (.tdo width (Config.boundary s.fresh % 2 ^ width))).usedFree
    else s.bypass width bits)

/-- BYPASS, and every code not listed (R417). -/
def execBypass (width bits : Nat) (s : State) : Host.Outcome State Fault Refusal := effect s (s.bypass width bits)

end Sys2Proof.Machine
end

