-- ==== Sys2Proof/Machine/Ticks.lean ====
section
/-! DEFINITION. The base tick, the station cycle start and the snapshot instant (R11 to R16): the order in which the blocks act at them. -/

namespace Sys2Proof.Machine

/-- The own Time frame of a station cycle start (R39, R48): PTP time, then the Spring count; REF is the cycle number. -/
def State.sendTime (s : State) : State :=
  if s.pos = 0 then s
  else
    let ref := s.cycleStart / max 1 s.cycleNs % 4294967296
    (s.sendBoth 4 ref true (leBytes 8 s.now ++ leBytes 6 s.time.count)).setSib fun x =>
      { x with timeRef := some ref, timeSent := s.now }

/-- Is this the edge of a station cycle start that has not been worked yet (R233)? -/
def State.cycleDue (s : State) : Bool := s.now % max 1 s.cycleNs == 0 && s.stn.cycleAt != s.now

/-- What a station cycle start does (R246), after the groups due: group reports, stations, the sequencer, the shed release, the shed frames, the
accumulators' words, the Time frame. -/
def State.cycleEdge (s : State) : State :=
  let s1 := s.groupReports.stationCycle.sequence.shedRelease.prepareShed.copyAccs.sendTime
  s1.setStn fun x => { x with cycleAt := s.now }

/-- The voted images whose 20 µs have passed reach the outputs (R328, R314). -/
def State.ripeOutputs (s : State) : State :=
  let ripe := s.field.outPend.filter fun e => decide (e.1 + 20000 ≤ s.now)
  let wait := s.field.outPend.filter fun e => !decide (e.1 + 20000 ≤ s.now)
  match ripe.getLast? with
  | some e => { s with field := { s.field with outPend := wait, outImage := some e.2 } }
  | none => s

/-- A block restarts from the state it holds in the Basin (R91, R93): a context's run is aborted and its LAST read, loop slots and stations
take their records, a scan cycle in progress stops; its words in the process image keep their values. A block that keeps no state
there goes on (assumption 98). -/
def State.restartBlock (s : State) (page idx : Nat) : State :=
  match page with
  | 0x0A => (s.abortRun idx).recallLasts
  | 0x0C => forN 512 (fun n t => if (t.slotRecord n).isSome then t.recallSlot n else t) s
  | 0x0D => if s.scn.waitAlign ∨ !s.flag .SCN_STAT_RUN then s else s.stopCycle
  | 0x0E => s.stationIds.foldl (fun t id => t.recallStation id) s
  | _ => s

/-- Does a block hold a locked sequence (R114)? -/
def State.blockLocks (s : State) (page idx : Nat) : Bool :=
  (List.range 16).any fun b => match Sparse.at none s.bsn.locks b with
    | some l => reqSource l.owner == (page, idx)
    | none => false

/-- The blocks that restart at this edge: those whose locked sequences have ended (R114). -/
def State.restartBlocks (s : State) : State :=
  let now := s.err.restarts.filter fun b => !s.blockLocks b.1 b.2
  now.foldl (fun t b => t.restartBlock b.1 b.2)
    { s with err := { s.err with restarts := s.err.restarts.filter fun b => s.blockLocks b.1 b.2 } }

/-- A block that an unassigned E2 restarted runs again at the tick after: the event completes (R95). -/
def State.blockAgain (s : State) (before : Option Event) : State :=
  match before with
  | some e => if s.slot 2 = before ∧ s.runningClass = some 2 ∧ e.lane = false ∧ s.assigned e = false ∧
      ¬ (e.page, e.idx) ∈ s.err.restarts then s.completeClass 2 else s
  | none => s

/-- The edge that follows an adjusted clock: ticks are numbered from the nearest one (R186). -/
def edgeAfter (ns : Nat) : Nat := ((ns + 125000) / 250000 + 1) * 250000

/-- The phase adjustment of R48 and a software step (R353), both added at the edge; the next edge. -/
def State.adjustClock (s : State) : State :=
  let adj := s.sib.phaseAdj
  let step := s.time.step.getD 0
  let s1 := if adj = 0 then s else s.sample 0x18 1 0 adj.natAbs
  let s2 := if s.time.step.isSome then
      ((s1.sample 0x18 2 0 step.natAbs).putB .PTP_STAT_VALID true).putB .PTP_STAT_STEP_PEND false else s1
  let ns := ((s.now : Int) + adj + step).toNat
  let s3 := s2.setTime fun x => { x with ns := ns, edge := edgeAfter ns, step := none }
  s3.setSib fun x => { x with phaseAdj := 0 }

/-- What is due at the edge before the samples, after the groups (R12, R79, R187): the sense paths, the legs, the station cycle, agreed
and digital inputs. -/
def State.edgeInputs (s : State) (sense : List (Nat × Nat × Nat)) : State :=
  let s1 := (s.senseLegs sense).judgeLegs
  let s2 := if s1.cycleDue then s1.cycleEdge else s1
  s2.agreeInputs.dioWords

/-- Has a group been applied in part, its Basin entries waiting for a bank (R85)? -/
def State.applying (s : State) : Bool := (List.range 16).any fun g => (s.group g).state == 4

/-- Accumulators, loops, watched items and the field's outputs at an edge of tick k: the quantities read their words as they stand at the
edge, before a loop writes (R187, R287). -/
def State.edgeWork (s : State) (k : Nat) : State :=
  let s1 := (((s.checkSlots).energyTick k).loopTick k).pulseTick
  let s2 := (s1.tripTick.watchTick k).ripeOutputs
  let s3 := ((s2.driveOutputs k).driveCurrents).driveTrips
  s3.canMapTick k

/-- Frames and housekeeping of an edge. -/
def State.edgeFrames (s : State) (before : Option Event) : State :=
  let s1 := s.sendIdle.sendIso.repeatHashes
  let s2 := if s1.flag .SCN_STAT_RUN then s1 else s1.countReps
  ((s2.restartBlocks.blockAgain before).weirWork).wearTick.wakeBusy

/-- Everything scheduled on an edge, after its groups. -/
def State.edgeRest (s : State) (sense : List (Nat × Nat × Nat)) (before : Option Event) : State :=
  (((s.edgeInputs sense).edgeWork (tickOf s.time.edge)).edgeFrames before).adjustClock

/-- An edge that waits for a group to be applied whole (R12, R85) does its work. -/
def State.endEdge (s : State) : State :=
  match s.time.held with
  | some (sense, before) => (s.setTime fun x => { x with held := none }).edgeRest sense before
  | none => s

/-- BASE_TICK (R11, R12, R187): the edge that comes next on PTP time. Groups due at it apply before anything scheduled on it; where one
waits for a locked bank, the rest of the edge waits with it (assumption 88). sense holds what each current output's sense path
measured. -/
def execBaseTick (sense : List (Nat × Nat × Nat)) (s : State) : Host.Outcome State Fault Refusal :=
  coreAct s fun s =>
    if !s.time.running then s
    else
      let u := s.endEdge
      let t := (u.setTime fun x => { x with ns := x.edge }).dueGroups
      if t.applying then t.setTime fun x => { x with held := some (sense, u.slot 2) } else t.edgeRest sense (u.slot 2)

/-- GROUP_APPLY (R85): an Applying group writes its Basin entries once no other requester locks a bank it needs; the edge that waited for
it goes on. -/
def execGroupApply (group : Fin 16) (s : State) : Host.Outcome State Fault Refusal :=
  coreAct s fun s =>
    let t := if (s.group group.val).state = 4 then s.applyBasin group.val else s
    if t.applying then t else t.endEdge

/-- STATION_CYCLE_START (R246): at the base tick edge that begins a cycle, once; BASE_TICK works it if this has not. -/
def execStationCycleStart (s : State) : Host.Outcome State Fault Refusal :=
  coreAct s fun s =>
    if !s.time.running then s
    else
      let t := (s.endEdge.setTime fun x => { x with ns := x.edge }).dueGroups
      if !t.cycleDue then s else if t.applying then t else t.cycleEdge

/-- SNAPSHOT_INSTANT (R15, R79, R234, R261): the groups due, then the snapshot of the cycle, once; context 0 with TRIG 1 starts. -/
def execSnapshotInstant (s : State) : Host.Outcome State Fault Refusal :=
  coreAct s fun s =>
    let c := s.cycleStart
    let t := (s.at (c + s.snapOffset)).dueGroups
    if t.time.running ∧ t.now = c + t.snapOffset ∧ t.stn.snapAt ≠ c + t.snapOffset then
      let u := (t.snapshot.lightIntegral).setStn fun x => { x with snapAt := c + t.snapOffset }
      if u.fld (.SLV_CTX_CFG_TRIG 0) = 1 then u.trigger 0 else u
    else t

end Sys2Proof.Machine
end

