-- ==== Sys2Proof/Machine/Dispatch.lean ====
section
/-! DEFINITION. The one dispatch of the commands: an arm for each constructor of Instr, each a direct call of its
meaning. -/

namespace Sys2Proof.Machine

/-- The effect of a command on everything but the queue of commands waiting. -/
def exec (i : Instr) (s : State) : Host.Outcome State Fault Refusal :=
  match i with
  | .mainSupplyReturn => Sys2Proof.Machine.execMainSupplyReturn s
  | .mainSupplyLoss => Sys2Proof.Machine.execMainSupplyLoss s
  | .springPowerOn => Sys2Proof.Machine.execSpringPowerOn s
  | .resetNLow => Sys2Proof.Machine.execResetNLow s
  | .wakeNLow => Sys2Proof.Machine.execWakeNLow s
  | .freezeNLow => Sys2Proof.Machine.execFreezeNLow s
  | .sysSwrstWrite value => Sys2Proof.Machine.execSysSwrstWrite value s
  | .sysBootCtrlGo => Sys2Proof.Machine.execSysBootCtrlGo s
  | .powerGoodFilterExpiry selfTestOk xtalOk plls pos boot aoAlm => Sys2Proof.Machine.execPowerGoodFilterExpiry selfTestOk xtalOk plls pos boot aoAlm s
  | .joinWaitExpiry => Sys2Proof.Machine.execJoinWaitExpiry s
  | .deviceWatchdogExpiry => Sys2Proof.Machine.execDeviceWatchdogExpiry s
  | .weirWatchdogReset => Sys2Proof.Machine.execWeirWatchdogReset s
  | .lockWatchdogExpiry bank => Sys2Proof.Machine.execLockWatchdogExpiry bank s
  | .fieldLinkWatchdogExpiry => Sys2Proof.Machine.execFieldLinkWatchdogExpiry s
  | .clockMonitorWindow count => Sys2Proof.Machine.execClockMonitorWindow count s
  | .weirPeriodicTest failed => Sys2Proof.Machine.execWeirPeriodicTest failed s
  | .configurationRehash changed => Sys2Proof.Machine.execConfigurationRehash changed s
  | .solverLaneTest lane pass => Sys2Proof.Machine.execSolverLaneTest lane pass s
  | .converterReferenceCheck core ppm => Sys2Proof.Machine.execConverterReferenceCheck core ppm s
  | .basinScrub bank found => Sys2Proof.Machine.execBasinScrub bank found s
  | .eventRaise cls page idx cause detail => Sys2Proof.Machine.execEventRaise cls page idx cause detail s
  | .handlerComplete => Sys2Proof.Machine.execHandlerComplete s
  | .errInjectWrite value => Sys2Proof.Machine.execErrInjectWrite value s
  | .errLogPop => Sys2Proof.Machine.execErrLogPop s
  | .junctionTemperature field deg => Sys2Proof.Machine.execJunctionTemperature field deg s
  | .pllUnlock n => Sys2Proof.Machine.execPllUnlock n s
  | .yarnanSignalDetect link ns => Sys2Proof.Machine.execYarnanSignalDetect link ns s
  | .linkTrainingTimeout link ns => Sys2Proof.Machine.execLinkTrainingTimeout link ns s
  | .linkSilenceTimeout link ns => Sys2Proof.Machine.execLinkSilenceTimeout link ns s
  | .linkFaultTimeout link ns => Sys2Proof.Machine.execLinkFaultTimeout link ns s
  | .idleSequence link ns bytes => Sys2Proof.Machine.execIdleSequence link ns bytes s
  | .cycleImageFrame link ns flags seq ref payload crc => Sys2Proof.Machine.execCycleImageFrame link ns flags seq ref payload crc s
  | .voteFrame link ns flags seq ref payload crc => Sys2Proof.Machine.execVoteFrame link ns flags seq ref payload crc s
  | .groupHashFrame link ns flags seq ref payload crc => Sys2Proof.Machine.execGroupHashFrame link ns flags seq ref payload crc s
  | .timeFrame link ns delay flags seq ref payload crc => Sys2Proof.Machine.execTimeFrame link ns delay flags seq ref payload crc s
  | .healthFrame link ns delay flags seq ref payload crc => Sys2Proof.Machine.execHealthFrame link ns delay flags seq ref payload crc s
  | .bulkFrame link ns flags seq ref payload crc => Sys2Proof.Machine.execBulkFrame link ns flags seq ref payload crc s
  | .frameRelay link ns kind flags seq ref payload crc => Sys2Proof.Machine.execFrameRelay link ns kind flags seq ref payload crc s
  | .healthFrameSend ns => Sys2Proof.Machine.execHealthFrameSend ns s
  | .timeExchangeComplete ns => Sys2Proof.Machine.execTimeExchangeComplete ns s
  | .siblingLost sib ns => Sys2Proof.Machine.execSiblingLost sib ns s
  | .isolationFrame line frame => Sys2Proof.Machine.execIsolationFrame line frame s
  | .isolationLineTimeout line => Sys2Proof.Machine.execIsolationLineTimeout line s
  | .legDeviation sib leg => Sys2Proof.Machine.execLegDeviation sib leg s
  | .bulkCopyComplete => Sys2Proof.Machine.execBulkCopyComplete s
  | .bulkCopyTimeout ns => Sys2Proof.Machine.execBulkCopyTimeout ns s
  | .rejoinImageReceived header body => Sys2Proof.Machine.execRejoinImageReceived header body s
  | .shadowComplete => Sys2Proof.Machine.execShadowComplete s
  | .autoRejoinAdmission pos ns => Sys2Proof.Machine.execAutoRejoinAdmission pos ns s
  | .txnOpen group => Sys2Proof.Machine.execTxnOpen group s
  | .txnArm group => Sys2Proof.Machine.execTxnArm group s
  | .txnAbort group => Sys2Proof.Machine.execTxnAbort group s
  | .txnStageDataWrite value => Sys2Proof.Machine.execTxnStageDataWrite value s
  | .rwsWrite adr value => Sys2Proof.Machine.execRwsWrite adr value s
  | .txnGrpCfgWrite group value => Sys2Proof.Machine.execTxnGrpCfgWrite group value s
  | .groupBoundary group => Sys2Proof.Machine.execGroupBoundary group s
  | .groupApply group => Sys2Proof.Machine.execGroupApply group s
  | .outcomeCompare group => Sys2Proof.Machine.execOutcomeCompare group s
  | .outcomeRepeatEnd group => Sys2Proof.Machine.execOutcomeRepeatEnd group s
  | .basinRequest bank req ecc => Sys2Proof.Machine.execBasinRequest bank req ecc s
  | .basinLockAcquire req bank => Sys2Proof.Machine.execBasinLockAcquire req bank s
  | .basinLockRelease req bank ask => Sys2Proof.Machine.execBasinLockRelease req bank ask s
  | .bsnRankWrite reg value => Sys2Proof.Machine.execBsnRankWrite reg value s
  | .requesterMask req => Sys2Proof.Machine.execRequesterMask req s
  | .monSnap page => Sys2Proof.Machine.execMonSnap page s
  | .monClr page => Sys2Proof.Machine.execMonClr page s
  | .monSelWrite page value => Sys2Proof.Machine.execMonSelWrite page value s
  | .monAllSnap => Sys2Proof.Machine.execMonAllSnap s
  | .monAllClr => Sys2Proof.Machine.execMonAllClr s
  | .monAllArm => Sys2Proof.Machine.execMonAllArm s
  | .monArmedSnapshot => Sys2Proof.Machine.execMonArmedSnapshot s
  | .baseTick sense => Sys2Proof.Machine.execBaseTick sense s
  | .stationCycleStart => Sys2Proof.Machine.execStationCycleStart s
  | .snapshotInstant => Sys2Proof.Machine.execSnapshotInstant s
  | .solverTrigger ctx => Sys2Proof.Machine.execSolverTrigger ctx s
  | .solverRunStart ctx => Sys2Proof.Machine.execSolverRunStart ctx s
  | .contextPreempt ctx => Sys2Proof.Machine.execContextPreempt ctx s
  | .contextResume ctx => Sys2Proof.Machine.execContextResume ctx s
  | .gatherStep ctx => Sys2Proof.Machine.execGatherStep ctx s
  | .kernelStep ctx => Sys2Proof.Machine.execKernelStep ctx s
  | .productStep ctx => Sys2Proof.Machine.execProductStep ctx s
  | .factorStep ctx => Sys2Proof.Machine.execFactorStep ctx s
  | .solveStep ctx => Sys2Proof.Machine.execSolveStep ctx s
  | .reduceStep ctx => Sys2Proof.Machine.execReduceStep ctx s
  | .residTest ctx => Sys2Proof.Machine.execResidTest ctx s
  | .loopTest ctx => Sys2Proof.Machine.execLoopTest ctx s
  | .meritTest ctx => Sys2Proof.Machine.execMeritTest ctx s
  | .baddataTest ctx => Sys2Proof.Machine.execBaddataTest ctx s
  | .infeasTest ctx => Sys2Proof.Machine.execInfeasTest ctx s
  | .scatterStep ctx => Sys2Proof.Machine.execScatterStep ctx s
  | .barrierAgreed ctx => Sys2Proof.Machine.execBarrierAgreed ctx s
  | .barrierTimeout ctx => Sys2Proof.Machine.execBarrierTimeout ctx s
  | .syncWaitExpiry ctx => Sys2Proof.Machine.execSyncWaitExpiry ctx s
  | .testGeneratorEnd gen => Sys2Proof.Machine.execTestGeneratorEnd gen s
  | .captureDone unit => Sys2Proof.Machine.execCaptureDone unit s
  | .saturationWindowEnd slot => Sys2Proof.Machine.execSaturationWindowEnd slot s
  | .scanCycleStart ns => Sys2Proof.Machine.execScanCycleStart ns s
  | .cycleImageTimeout ns => Sys2Proof.Machine.execCycleImageTimeout ns s
  | .cycleZeroLatch => Sys2Proof.Machine.execCycleZeroLatch s
  | .phase4 ns => Sys2Proof.Machine.execPhase4 ns s
  | .vote ns => Sys2Proof.Machine.execVote ns s
  | .scanCycleOverrun ns => Sys2Proof.Machine.execScanCycleOverrun ns s
  | .lockstepMismatch => Sys2Proof.Machine.execLockstepMismatch s
  | .nop d a b => Sys2Proof.Machine.execNop d a b s
  | .ldb d a b => Sys2Proof.Machine.execLdb d a b s
  | .andb d a b => Sys2Proof.Machine.execAndb d a b s
  | .orb d a b => Sys2Proof.Machine.execOrb d a b s
  | .xorb d a b => Sys2Proof.Machine.execXorb d a b s
  | .stb d a b => Sys2Proof.Machine.execStb d a b s
  | .srb d a b => Sys2Proof.Machine.execSrb d a b s
  | .tstw d a b => Sys2Proof.Machine.execTstw d a b s
  | .putb d a b => Sys2Proof.Machine.execPutb d a b s
  | .notb d a b => Sys2Proof.Machine.execNotb d a b s
  | .edge d a b => Sys2Proof.Machine.execEdge d a b s
  | .ldw d a b => Sys2Proof.Machine.execLdw d a b s
  | .stw d a b => Sys2Proof.Machine.execStw d a b s
  | .ldl d a b => Sys2Proof.Machine.execLdl d a b s
  | .stl d a b => Sys2Proof.Machine.execStl d a b s
  | .ldi d a b => Sys2Proof.Machine.execLdi d a b s
  | .ldhi d a b => Sys2Proof.Machine.execLdhi d a b s
  | .sel d a b => Sys2Proof.Machine.execSel d a b s
  | .and d a b => Sys2Proof.Machine.execAnd d a b s
  | .or d a b => Sys2Proof.Machine.execOr d a b s
  | .xor d a b => Sys2Proof.Machine.execXor d a b s
  | .shl d a b => Sys2Proof.Machine.execShl d a b s
  | .shr d a b => Sys2Proof.Machine.execShr d a b s
  | .sar d a b => Sys2Proof.Machine.execSar d a b s
  | .add d a b => Sys2Proof.Machine.execAdd d a b s
  | .sub d a b => Sys2Proof.Machine.execSub d a b s
  | .mul d a b => Sys2Proof.Machine.execMul d a b s
  | .div d a b => Sys2Proof.Machine.execDiv d a b s
  | .cmp d a b => Sys2Proof.Machine.execCmp d a b s
  | .fadd d a b => Sys2Proof.Machine.execFadd d a b s
  | .fsub d a b => Sys2Proof.Machine.execFsub d a b s
  | .fmul d a b => Sys2Proof.Machine.execFmul d a b s
  | .fdiv d a b => Sys2Proof.Machine.execFdiv d a b s
  | .fcvt d a b => Sys2Proof.Machine.execFcvt d a b s
  | .flim d a b => Sys2Proof.Machine.execFlim d a b s
  | .fcmp d a b => Sys2Proof.Machine.execFcmp d a b s
  | .jmp d a b => Sys2Proof.Machine.execJmp d a b s
  | .lpb d a b => Sys2Proof.Machine.execLpb d a b s
  | .lpe d a b => Sys2Proof.Machine.execLpe d a b s
  | .call d a b => Sys2Proof.Machine.execCall d a b s
  | .ret d a b => Sys2Proof.Machine.execRet d a b s
  | .tmr d a b => Sys2Proof.Machine.execTmr d a b s
  | .ctr d a b => Sys2Proof.Machine.execCtr d a b s
  | .tcrd d a b => Sys2Proof.Machine.execTcrd d a b s
  | .rdl d a b => Sys2Proof.Machine.execRdl d a b s
  | .rds d a b => Sys2Proof.Machine.execRds d a b s
  | .rdq d a b => Sys2Proof.Machine.execRdq d a b s
  | .raise d a b => Sys2Proof.Machine.execRaise d a b s
  | .grpSelect d3 a b => Sys2Proof.Machine.execGrpSelect d3 a b s
  | .grpOpen d3 a b => Sys2Proof.Machine.execGrpOpen d3 a b s
  | .grpArm d3 a b => Sys2Proof.Machine.execGrpArm d3 a b s
  | .grpAbort d3 a b => Sys2Proof.Machine.execGrpAbort d3 a b s
  | .stg d a b => Sys2Proof.Machine.execStg d a b s
  | .rstg d a b => Sys2Proof.Machine.execRstg d a b s
  | .erd d a b => Sys2Proof.Machine.execErd d a b s
  | .eret d a b => Sys2Proof.Machine.execEret d a b s
  | .pfx payload => Sys2Proof.Machine.execPfx payload s
  | .reservedOpcode word => Sys2Proof.Machine.execReservedOpcode word s
  | .stackFault => Sys2Proof.Machine.execStackFault s
  | .codeEnd => Sys2Proof.Machine.execCodeEnd s
  | .scnForceKeyWrite value => Sys2Proof.Machine.execScnForceKeyWrite value s
  | .forceKeyExpiry => Sys2Proof.Machine.execForceKeyExpiry s
  | .measurementFrame mac src ip datagram => Sys2Proof.Machine.execMeasurementFrame mac src ip datagram s
  | .joinFrame mac src ip datagram => Sys2Proof.Machine.execJoinFrame mac src ip datagram s
  | .commandBuild => Sys2Proof.Machine.execCommandBuild s
  | .zeroCrossing input => Sys2Proof.Machine.execZeroCrossing input s
  | .zeroCrossingTimeout input ns => Sys2Proof.Machine.execZeroCrossingTimeout input ns s
  | .fixedWindowEnd => Sys2Proof.Machine.execFixedWindowEnd s
  | .underfrequency stage => Sys2Proof.Machine.execUnderfrequency stage s
  | .feederOverload stage => Sys2Proof.Machine.execFeederOverload stage s
  | .blackout ns => Sys2Proof.Machine.execBlackout ns s
  | .energyInterval => Sys2Proof.Machine.execEnergyInterval s
  | .periodicSave => Sys2Proof.Machine.execPeriodicSave s
  | .powerFailDetect whole dip us => Sys2Proof.Machine.execPowerFailDetect whole dip us s
  | .springPulseCount input closed => Sys2Proof.Machine.execSpringPulseCount input closed s
  | .pulseOutputEnd output => Sys2Proof.Machine.execPulseOutputEnd output s
  | .sequenceTrigger seq ns => Sys2Proof.Machine.execSequenceTrigger seq ns s
  | .adcTrigEdge ns => Sys2Proof.Machine.execAdcTrigEdge ns s
  | .conversion ns codes => Sys2Proof.Machine.execConversion ns codes s
  | .queueDrain count => Sys2Proof.Machine.execQueueDrain count s
  | .ainFault input => Sys2Proof.Machine.execAinFault input s
  | .ainSettlingEnd input => Sys2Proof.Machine.execAinSettlingEnd input s
  | .loopSupplyFault input thermal active => Sys2Proof.Machine.execLoopSupplyFault input thermal active s
  | .adcDataRead => Sys2Proof.Machine.execAdcDataRead s
  | .compliance out set uA => Sys2Proof.Machine.execCompliance out set uA s
  | .aouThermal out deg => Sys2Proof.Machine.execAouThermal out deg s
  | .aouTestWrite out value => Sys2Proof.Machine.execAouTestWrite out value s
  | .dioSample samples => Sys2Proof.Machine.execDioSample samples s
  | .filteredStateChange channel => Sys2Proof.Machine.execFilteredStateChange channel s
  | .wireBreak channel uA => Sys2Proof.Machine.execWireBreak channel uA s
  | .overload channel mA => Sys2Proof.Machine.execOverload channel mA s
  | .overloadRetry channel => Sys2Proof.Machine.execOverloadRetry channel s
  | .overtemp channel deg => Sys2Proof.Machine.execOvertemp channel deg s
  | .readback channel => Sys2Proof.Machine.execReadback channel s
  | .openWire channel => Sys2Proof.Machine.execOpenWire channel s
  | .dioTestWrite val value => Sys2Proof.Machine.execDioTestWrite val value s
  | .pulseTestSlot channel elem mA ns => Sys2Proof.Machine.execPulseTestSlot channel elem mA ns s
  | .pulseTestReclose mA us => Sys2Proof.Machine.execPulseTestReclose mA us s
  | .pathOpen channel ia ib => Sys2Proof.Machine.execPathOpen channel ia ib s
  | .trpPtCmd value => Sys2Proof.Machine.execTrpPtCmd value s
  | .trpPtCmdEnd mA => Sys2Proof.Machine.execTrpPtCmdEnd mA s
  | .springTick => Sys2Proof.Machine.execSpringTick s
  | .sprTickLoRead => Sys2Proof.Machine.execSprTickLoRead s
  | .sprSnap value => Sys2Proof.Machine.execSprSnap value s
  | .xtalStop => Sys2Proof.Machine.execXtalStop s
  | .cellLow mV => Sys2Proof.Machine.execCellLow mV s
  | .railSwitch toBattery => Sys2Proof.Machine.execRailSwitch toBattery s
  | .ptpIncFracWrite value => Sys2Proof.Machine.execPtpIncFracWrite value s
  | .ptpStepHiWrite value => Sys2Proof.Machine.execPtpStepHiWrite value s
  | .syncMessage mac domain ns => Sys2Proof.Machine.execSyncMessage mac domain ns s
  | .holdover ns => Sys2Proof.Machine.execHoldover ns s
  | .ppsInEdge ns => Sys2Proof.Machine.execPpsInEdge ns s
  | .ppsOut ns => Sys2Proof.Machine.execPpsOut ns s
  | .launchDue mac ns => Sys2Proof.Machine.execLaunchDue mac ns s
  | .ethernetFrame mac ns frame fcsOk => Sys2Proof.Machine.execEthernetFrame mac ns frame fcsOk s
  | .arpRequest mac message => Sys2Proof.Machine.execArpRequest mac message s
  | .icmpEcho mac src packet => Sys2Proof.Machine.execIcmpEcho mac src packet s
  | .igmpQuery mac packet => Sys2Proof.Machine.execIgmpQuery mac packet s
  | .lldpdu mac ns pdu => Sys2Proof.Machine.execLldpdu mac ns pdu s
  | .lldpTtlExpiry mac ns => Sys2Proof.Machine.execLldpTtlExpiry mac ns s
  | .lldpTransmit mac => Sys2Proof.Machine.execLldpTransmit mac s
  | .prpSupervision pair => Sys2Proof.Machine.execPrpSupervision pair s
  | .linkDown mac => Sys2Proof.Machine.execLinkDown mac s
  | .ethTxCmd mac value => Sys2Proof.Machine.execEthTxCmd mac value s
  | .canFrameReceived bus ns xtd id fd brs esi dlc data tec rec => Sys2Proof.Machine.execCanFrameReceived bus ns xtd id fd brs esi dlc data tec rec s
  | .canTransmitEnd bus result tec rec => Sys2Proof.Machine.execCanTransmitEnd bus result tec rec s
  | .busOff bus tec rec => Sys2Proof.Machine.execBusOff bus tec rec s
  | .busOffRecovery bus => Sys2Proof.Machine.execBusOffRecovery bus s
  | .canRxPop bus value => Sys2Proof.Machine.execCanRxPop bus value s
  | .canTxGo bus value => Sys2Proof.Machine.execCanTxGo bus value s
  | .serTxCmd line value => Sys2Proof.Machine.execSerTxCmd line value s
  | .serTransmitEnd line => Sys2Proof.Machine.execSerTransmitEnd line s
  | .serByteReceived line ns byte parity framing brk => Sys2Proof.Machine.execSerByteReceived line ns byte parity framing brk s
  | .bar2Access addr op count => Sys2Proof.Machine.execBar2Access addr op count s
  | .hifRearm value => Sys2Proof.Machine.execHifRearm value s
  | .hostSpiTransaction bytes wait ue => Sys2Proof.Machine.execHostSpiTransaction bytes wait ue s
  | .ospRead => Sys2Proof.Machine.execOspRead s
  | .ospProgram => Sys2Proof.Machine.execOspProgram s
  | .ospErase => Sys2Proof.Machine.execOspErase s
  | .ospDone ok => Sys2Proof.Machine.execOspDone ok s
  | .bmiPoll entry => Sys2Proof.Machine.execBmiPoll entry s
  | .bmiXfer value => Sys2Proof.Machine.execBmiXfer value s
  | .recordProduce code action source value => Sys2Proof.Machine.execRecordProduce code action source value s
  | .recordDurable => Sys2Proof.Machine.execRecordDurable s
  | .summaryInterval => Sys2Proof.Machine.execSummaryInterval s
  | .healthRecord => Sys2Proof.Machine.execHealthRecord s
  | .batchMove failed => Sys2Proof.Machine.execBatchMove failed s
  | .foldRelease => Sys2Proof.Machine.execFoldRelease s
  | .sedRdGo => Sys2Proof.Machine.execSedRdGo s
  | .sedRdDone => Sys2Proof.Machine.execSedRdDone s
  | .domainIdle domain => Sys2Proof.Machine.execDomainIdle domain s
  | .domainWake domain => Sys2Proof.Machine.execDomainWake domain s
  | .bankLightSleep bank => Sys2Proof.Machine.execBankLightSleep bank s
  | .dailyPlan slow bank steps ron trip cap => Sys2Proof.Machine.execDailyPlan slow bank steps ron trip cap s
  | .crystalHourlyMean main spring => Sys2Proof.Machine.execCrystalHourlyMean main spring s
  | .extest width bits => Sys2Proof.Machine.execExtest width bits s
  | .idcode => Sys2Proof.Machine.execIdcode s
  | .samplePreload width bits => Sys2Proof.Machine.execSamplePreload width bits s
  | .frzRd words => Sys2Proof.Machine.execFrzRd words s
  | .frzSeek sect word => Sys2Proof.Machine.execFrzSeek sect word s
  | .bypass width bits => Sys2Proof.Machine.execBypass width bits s
  | .pageLock page => Sys2Proof.Machine.execPageLock page s
  | .pageUnlock page => Sys2Proof.Machine.execPageUnlock page s
  | .cntClr page => Sys2Proof.Machine.execCntClr page s
  | .rcRead adr => Sys2Proof.Machine.execRcRead adr s
  | .w1cWrite adr value => Sys2Proof.Machine.execW1cWrite adr value s
  | .loWordRead adr => Sys2Proof.Machine.execLoWordRead adr s
  | .registerWrite adr value => Sys2Proof.Machine.execRegisterWrite adr value s
  | .lpSupplyLoss => Sys2Proof.Machine.execLpSupplyLoss s
  | .lpSupplyReturn => Sys2Proof.Machine.execLpSupplyReturn s
  | .vresReady => Sys2Proof.Machine.execVresReady s
  | .ethTransmitEnd mac => Sys2Proof.Machine.execEthTransmitEnd mac s
  | .ethLinkUp mac speed => Sys2Proof.Machine.execEthLinkUp mac speed s
  | .serTxTimeReached line ns => Sys2Proof.Machine.execSerTxTimeReached line ns s
  | .bmiTransferEnd fail data => Sys2Proof.Machine.execBmiTransferEnd fail data s

end Sys2Proof.Machine
end

