-- ==== Sys2Proof/WellFormed.lean ====
section
/-! DEFINITION. Well-formed commands: operands that the wires they come over, or the encoding of scan code (R217, R222), can carry.
exec is total on the others too; what they stand for never arrives. -/

namespace Sys2Proof

/-- A register's window byte address: a page of the fifty, a whole word (R68). -/
def regAdrOk (adr : BitVec 18) : Bool := decide (adr.toNat < 50 * 4096) && decide (adr.toNat % 4 = 0)

/-- B of an instruction with operand B′: in register form B[12:6] are 0 (R217). -/
def operandOk (b : BitVec 14) : Bool := b.msb || decide (b.toNat < 64)

/-- Data bytes of a CAN frame by its DLC (R371; ISO 11898-1). -/
def canBytes (fd : Bool) (dlc : Nat) : Nat :=
  if dlc ≤ 8 then dlc else if fd then [12, 16, 20, 24, 32, 48, 64].getD (dlc - 9) 64 else 8

/-- The well-formed commands. -/
def Instr.wf (i : Instr) : Bool :=
  match i with
  | .mainSupplyReturn => true
  | .mainSupplyLoss => true
  | .springPowerOn => true
  | .resetNLow => true
  | .wakeNLow => true
  | .freezeNLow => true
  | .sysSwrstWrite _ => true
  | .sysBootCtrlGo => true
  | .powerGoodFilterExpiry _ _ _ _ _ _ => true
  | .joinWaitExpiry => true
  | .deviceWatchdogExpiry => true
  | .weirWatchdogReset => true
  | .lockWatchdogExpiry _ => true
  | .fieldLinkWatchdogExpiry => true
  | .clockMonitorWindow _ => true
  | .weirPeriodicTest _ => true
  | .configurationRehash _ => true
  | .solverLaneTest _ _ => true
  | .converterReferenceCheck _ _ => true
  | .basinScrub _ _ => true
  | .eventRaise _ _ _ _ _ => true
  | .handlerComplete => true
  | .errInjectWrite _ => true
  | .errLogPop => true
  | .junctionTemperature _ _ => true
  | .pllUnlock _ => true
  | .yarnanSignalDetect _ _ => true
  | .linkTrainingTimeout _ _ => true
  | .linkSilenceTimeout _ _ => true
  | .linkFaultTimeout _ _ => true
  | .idleSequence _ _ bytes => decide (bytes ≠ [])
  | .cycleImageFrame _ _ _ _ _ payload _ => decide (payload.length ≤ 65535)
  | .voteFrame _ _ _ _ _ payload _ => decide (payload.length ≤ 65535)
  | .groupHashFrame _ _ _ _ _ payload _ => decide (payload.length ≤ 65535)
  | .timeFrame _ _ _ _ _ _ payload _ => decide (payload.length ≤ 65535)
  | .healthFrame _ _ _ _ _ _ payload _ => decide (payload.length ≤ 65535)
  | .bulkFrame _ _ _ _ _ payload _ => decide (payload.length ≤ 65535)
  | .frameRelay _ _ _ _ _ _ payload _ => decide (payload.length ≤ 65535)
  | .healthFrameSend _ => true
  | .timeExchangeComplete _ => true
  | .siblingLost _ _ => true
  | .isolationFrame _ _ => true
  | .isolationLineTimeout _ => true
  | .legDeviation _ _ => true
  | .bulkCopyComplete => true
  | .bulkCopyTimeout _ => true
  | .rejoinImageReceived _ _ => true
  | .shadowComplete => true
  | .autoRejoinAdmission _ _ => true
  | .txnOpen _ => true
  | .txnArm _ => true
  | .txnAbort _ => true
  | .txnStageDataWrite _ => true
  | .rwsWrite adr _ => regAdrOk adr
  | .txnGrpCfgWrite _ _ => true
  | .groupBoundary _ => true
  | .groupApply _ => true
  | .outcomeCompare _ => true
  | .outcomeRepeatEnd _ => true
  | .basinRequest _ _ _ => true
  | .basinLockAcquire _ _ => true
  | .basinLockRelease _ _ _ => true
  | .bsnRankWrite _ _ => true
  | .requesterMask _ => true
  | .monSnap _ => true
  | .monClr _ => true
  | .monSelWrite _ _ => true
  | .monAllSnap => true
  | .monAllClr => true
  | .monAllArm => true
  | .monArmedSnapshot => true
  | .baseTick sense => decide (sense.length = 8)
  | .stationCycleStart => true
  | .snapshotInstant => true
  | .solverTrigger _ => true
  | .solverRunStart _ => true
  | .contextPreempt _ => true
  | .contextResume _ => true
  | .gatherStep _ => true
  | .kernelStep _ => true
  | .productStep _ => true
  | .factorStep _ => true
  | .solveStep _ => true
  | .reduceStep _ => true
  | .residTest _ => true
  | .loopTest _ => true
  | .meritTest _ => true
  | .baddataTest _ => true
  | .infeasTest _ => true
  | .scatterStep _ => true
  | .barrierAgreed _ => true
  | .barrierTimeout _ => true
  | .syncWaitExpiry _ => true
  | .testGeneratorEnd _ => true
  | .captureDone _ => true
  | .saturationWindowEnd _ => true
  | .scanCycleStart _ => true
  | .cycleImageTimeout _ => true
  | .cycleZeroLatch => true
  | .phase4 _ => true
  | .vote _ => true
  | .scanCycleOverrun _ => true
  | .lockstepMismatch => true
  | .nop _ _ _ => true
  | .ldb _ _ _ => true
  | .andb _ _ _ => true
  | .orb _ _ _ => true
  | .xorb _ _ _ => true
  | .stb _ _ _ => true
  | .srb _ _ _ => true
  | .tstw _ _ _ => true
  | .putb _ _ _ => true
  | .notb _ _ _ => true
  | .edge _ _ _ => true
  | .ldw _ _ _ => true
  | .stw _ _ _ => true
  | .ldl _ _ _ => true
  | .stl _ _ _ => true
  | .ldi _ _ _ => true
  | .ldhi _ a _ => decide (a.toNat < 16)
  | .sel _ _ b => operandOk b
  | .and _ _ b => operandOk b
  | .or _ _ b => operandOk b
  | .xor _ _ b => operandOk b
  | .shl _ _ b => operandOk b
  | .shr _ _ b => operandOk b
  | .sar _ _ b => operandOk b
  | .add _ _ b => operandOk b
  | .sub _ _ b => operandOk b
  | .mul _ _ b => operandOk b
  | .div _ _ b => operandOk b
  | .cmp _ _ b => operandOk b
  | .fadd _ _ b => operandOk b
  | .fsub _ _ b => operandOk b
  | .fmul _ _ b => operandOk b
  | .fdiv _ _ b => operandOk b
  | .fcvt _ _ _ => true
  | .flim _ _ b => operandOk b
  | .fcmp _ _ b => operandOk b
  | .jmp _ _ _ => true
  | .lpb _ _ _ => true
  | .lpe _ _ _ => true
  | .call _ _ _ => true
  | .ret _ _ _ => true
  | .tmr d _ _ => decide (d.toNat % 4 < 3)
  | .ctr _ _ _ => true
  | .tcrd _ _ _ => true
  | .rdl _ a _ => decide (a.toNat % 8 < 6)
  | .rds _ _ _ => true
  | .rdq _ a _ => decide (a.toNat % 4 < 3)
  | .raise d _ _ => decide (d.toNat % 4 < 3)
  | .grpSelect _ _ _ => true
  | .grpOpen d3 a _ => decide (d3 ≠ 5) || decide (a ≠ 63)
  | .grpArm _ _ _ => true
  | .grpAbort _ _ _ => true
  | .stg _ _ _ => true
  | .rstg _ _ _ => true
  | .erd _ _ _ => true
  | .eret _ _ _ => true
  | .pfx _ => true
  | .reservedOpcode _ => true
  | .stackFault => true
  | .codeEnd => true
  | .scnForceKeyWrite _ => true
  | .forceKeyExpiry => true
  | .measurementFrame _ _ _ datagram => decide (datagram.length ≤ 65507)
  | .joinFrame _ _ _ datagram => decide (datagram.length ≤ 65507)
  | .commandBuild => true
  | .zeroCrossing _ => true
  | .zeroCrossingTimeout _ _ => true
  | .fixedWindowEnd => true
  | .underfrequency _ => true
  | .feederOverload _ => true
  | .blackout _ => true
  | .energyInterval => true
  | .periodicSave => true
  | .powerFailDetect _ _ _ => true
  | .springPulseCount _ _ => true
  | .pulseOutputEnd _ => true
  | .sequenceTrigger _ _ => true
  | .adcTrigEdge _ => true
  | .conversion _ codes => decide (codes.length = 8)
  | .queueDrain _ => true
  | .ainFault _ => true
  | .ainSettlingEnd _ => true
  | .loopSupplyFault _ _ _ => true
  | .adcDataRead => true
  | .compliance _ _ _ => true
  | .aouThermal _ _ => true
  | .aouTestWrite _ _ => true
  | .dioSample samples => decide (samples.length = 32)
  | .filteredStateChange _ => true
  | .wireBreak _ _ => true
  | .overload _ _ => true
  | .overloadRetry _ => true
  | .overtemp _ _ => true
  | .readback _ => true
  | .openWire _ => true
  | .dioTestWrite _ _ => true
  | .pulseTestSlot _ _ _ _ => true
  | .pulseTestReclose _ _ => true
  | .pathOpen _ _ _ => true
  | .trpPtCmd _ => true
  | .trpPtCmdEnd _ => true
  | .springTick => true
  | .sprTickLoRead => true
  | .sprSnap _ => true
  | .xtalStop => true
  | .cellLow _ => true
  | .railSwitch _ => true
  | .ptpIncFracWrite _ => true
  | .ptpStepHiWrite _ => true
  | .syncMessage _ _ _ => true
  | .holdover _ => true
  | .ppsInEdge _ => true
  | .ppsOut _ => true
  | .launchDue _ _ => true
  | .ethernetFrame _ _ frame _ => decide (14 ≤ frame.length)
  | .arpRequest _ _ => true
  | .icmpEcho _ _ _ => true
  | .igmpQuery _ _ => true
  | .lldpdu _ _ _ => true
  | .lldpTtlExpiry _ _ => true
  | .lldpTransmit _ => true
  | .prpSupervision _ => true
  | .linkDown _ => true
  | .ethTxCmd _ _ => true
  | .canFrameReceived _ _ xtd id fd brs _ dlc data _ _ => (xtd || decide (id.toNat < 2048)) && (fd || !brs) && decide (data.length = canBytes fd dlc.toNat)
  | .canTransmitEnd _ _ _ _ => true
  | .busOff _ _ _ => true
  | .busOffRecovery _ => true
  | .canRxPop _ _ => true
  | .canTxGo _ _ => true
  | .serTxCmd _ _ => true
  | .serTransmitEnd _ => true
  | .serByteReceived _ _ _ _ _ _ => true
  | .bar2Access addr op count => match op with
    | .write b => decide (b.length = count.val) && decide (addr.toNat + count.val ≤ 67108864)
    | .read _ => decide (addr.toNat + count.val ≤ 67108864)
  | .hifRearm _ => true
  | .hostSpiTransaction bytes _ _ => decide (bytes ≠ [])
  | .ospRead => true
  | .ospProgram => true
  | .ospErase => true
  | .ospDone _ => true
  | .bmiPoll _ => true
  | .bmiXfer _ => true
  | .recordProduce _ _ _ _ => true
  | .recordDurable => true
  | .summaryInterval => true
  | .healthRecord => true
  | .batchMove _ => true
  | .foldRelease => true
  | .sedRdGo => true
  | .sedRdDone => true
  | .domainIdle _ => true
  | .domainWake _ => true
  | .bankLightSleep _ => true
  | .dailyPlan slow _ _ ron trip _ => decide (slow.length = 12) && decide (ron.length = 32) && decide (trip.length = 16)
  | .crystalHourlyMean _ _ => true
  | .extest width bits => decide (bits < 2 ^ width)
  | .idcode => true
  | .samplePreload width bits => decide (bits < 2 ^ width)
  | .frzRd _ => true
  | .frzSeek _ _ => true
  | .bypass width bits => decide (bits < 2 ^ width)
  | .pageLock _ => true
  | .pageUnlock _ => true
  | .cntClr _ => true
  | .rcRead adr => regAdrOk adr
  | .w1cWrite adr _ => regAdrOk adr
  | .loWordRead adr => regAdrOk adr
  | .registerWrite adr _ => regAdrOk adr
  | .lpSupplyLoss => true
  | .lpSupplyReturn => true
  | .vresReady => true
  | .ethTransmitEnd _ => true
  | .ethLinkUp _ _ => true
  | .serTxTimeReached _ _ => true
  | .bmiTransferEnd _ _ => true

end Sys2Proof
end

