-- ==== Sys2Proof/Safety.lean ====
section
/-! DEFINITION. What counts as a safe run, in the terms claims use: the canonical form of stored contents, the commands that wait, and
the conditions on the state alone under which a command of a kind takes effect. -/

namespace Sys2Proof.Machine

/-- The registers are in canonical form. -/
def State.regsWf (s : State) : Bool := Sparse.wf regDefault s.regs

/-- The Basin and the xSPI memory are in canonical form. -/
def State.memWf (s : State) : Bool := Sparse.wf basinFill s.basin && Sparse.wf xspiFill s.xspi

/-- Every waiting command is well-formed. -/
def State.queueWf (s : State) : Bool := s.pending.all Instr.wf

/-- The outcomes a run may have: a next state. -/
def safeOutcome : Host.Outcome State Fault Refusal → Prop
  | .next _ => True
  | .fault _ => False
  | .refused _ => False

/-- A write of the host to a block register of a page takes effect: the core domains run (R16), the page's domain runs (R9), no lock
holds the page (R436). -/
def State.hostMay (s : State) (p : Nat) : Bool := s.awake && !s.domainOff (pageDomain p) && !s.locked p

/-- The engine stands at a scan code instruction: the core domains run, a program runs, the word at its program counter is the
instruction's, and no lockstep failure is shown (R208, R217). -/
def State.atInstr (s : State) (i : Instr) : Bool :=
  s.awake && s.inProgram && !s.flag .WIR_ST_STAT_LOCKSTEP_FAIL && (scanEncode i).isSome && s.scn.code[s.scn.pc]? == scanEncode i

/-- The engine stands at a word: the core domains run and a program runs. -/
def State.atCode (s : State) (w : Word) : Bool := s.awake && s.inProgram && s.scn.code[s.scn.pc]? == some w

/-- An instant that the base tick in progress still holds (R11). -/
def State.inTick (s : State) (ns : Nat) : Bool := decide (s.now ≤ ns) && decide (ns < s.time.edge)

/-- The state with its PTP time at an instant. -/
def State.moved (s : State) (ns : Nat) : State := { s with time := { s.time with ns := ns } }

/-- The state with the queue of another. -/
def State.queueOf (t s : State) : State := { t with pending := s.pending }

end Sys2Proof.Machine
end

