-- ==== Sys2Proof/Certificates/Slice0/Obligations.lean ====
section
/-! DEFINITION. The statements for the provers. -/

section
open Sys2Proof Sys2Proof.Machine
open Host (Outcome)

/-! ### The machine -/

/-- A step runs the command at the front of the queue on the state with the queue's rest; an empty queue changes nothing (the model's
choice, assumption 1). -/
def Obligations.StepRunsTheFrontCommand : Prop :=
  (∀ (c : Instr) (rest : List Instr) (s : State), s.pending = c :: rest → step s = exec c { s with pending := rest }) ∧
    ∀ s : State, s.pending = [] → step s = .next s

/-- Every command completes in every state, and leaves the queue alone. -/
def Obligations.EveryCommandCompletes : Prop :=
  ∀ (c : Instr) (s : State), ∃ t, exec c s = .next t ∧ t.pending = s.pending

/-- An invariant of every step: the commands that wait are well-formed, and a step answers a next state.
That the queue holds the commands is the model's frame (assumption 1). -/
def Obligations.StepKeepsQueueWellFormed : Prop :=
  ∀ s t : State, s.queueWf = true → step s = .next t → t.queueWf = true ∧ t.pending = s.pending.tail

/-- After reset the machine waits for the end of the power-good filter: start-up, which SYS_MODE shows as Safe, SAFE_N low, the core
domains held, no command waiting, nothing on the wires, every register at its reset value, no page locked.
The model's choices it rests on: values the spec gives no reset for (assumption 72); start-up is entered without a command (2). -/
def Obligations.ResetState : Prop :=
  State.reset.mode = .startUp ∧ modeCode State.reset.mode = 4 ∧ State.reset.safeN = false ∧ State.reset.awake = false ∧
    State.reset.pending = [] ∧ State.reset.out = [] ∧ (∀ a, State.reset.reg a = regDefault a) ∧ State.reset.locks = [] ∧
    State.reset.time.count = 0 ∧ State.reset.regsWf = true ∧ State.reset.memWf = true

/-! ### Registers and the Basin -/

/-- A register write changes that register alone, whatever else the window holds; a field written holds the value, cut to its width, and
every other field of the word stays; the canonical form stays. -/
def Obligations.RegisterReadsBack : Prop :=
  (∀ (s : State) (a : Nat) (w : Word), s.regsWf = true →
    (s.setReg a w).reg a = w ∧ (∀ b, b ≠ a → (s.setReg a w).reg b = s.reg b) ∧ (s.setReg a w).regsWf = true) ∧
  ∀ (f g : Fd) (w : Word) (v : Nat), f.lo ≤ f.hi → f.hi < 32 → g.lo ≤ g.hi → g.hi < 32 →
    f.of (f.into w v) = v % 2 ^ (f.hi - f.lo + 1) ∧ ((g.hi < f.lo ∨ f.hi < g.lo) → g.of (f.into w v) = g.of w)

/-- A Basin word written reads back, low byte at the lowest address, and so does a run of bytes; every other byte stays; the canonical form
stays.
What a byte nothing has written reads as is the model's choice (assumption 3) and does not enter. -/
def Obligations.BasinReadsBack : Prop :=
  ∀ s : State, s.memWf = true →
    (∀ (a : Nat) (w : Word), (s.setWord a w).word a = w ∧ (∀ b, (b < 4 * a ∨ 4 * a + 4 ≤ b) → (s.setWord a w).byte b = s.byte b) ∧
      (s.setWord a w).byte (4 * a) = w.setWidth 8 ∧ (s.setWord a w).memWf = true) ∧
    ∀ (a : Nat) (bs : List Byte), (s.setBytes a bs).bytes a bs.length = bs ∧
      (∀ b, (b < a ∨ a + bs.length ≤ b) → (s.setBytes a bs).byte b = s.byte b) ∧ (s.setBytes a bs).memWf = true

/-! ### Scan code: its words -/

/-- R217, R219: the decoder reads back what the encoder wrote, for every well-formed scan code instruction with every operand. -/
def Obligations.ScanDecodeOfEncode : Prop :=
  ∀ (i : Instr) (w : Word), i.wf = true → scanEncode i = some w → scanDecode w = some i

/-- A word has one meaning: what the decoder reads from a word encodes to that word, and is well-formed. -/
def Obligations.ScanEncodeOfDecode : Prop :=
  ∀ (w : Word) (i : Instr), scanDecode w = some i → scanEncode i = some w ∧ i.wf = true

/-- R222: the words with no instruction are those that end the cycle with an OPCODE E2 whatever the state; on such a word at the
program counter the engine does that, with the word's address as DETAIL; an ERET outside the error task is one too. An instruction that
is not the word at the program counter does nothing (the model's choice: its rows are the engine's own steps, assumption 1), a malformed
one ends the cycle, and one after a lockstep mismatch clears the test's failure bit first (R208). -/
def Obligations.ScanMalformedWords : Prop :=
  (∀ w : Word, scanDecode w = none ↔ badWord w = true) ∧
    (∀ (w : Word) (s : State),
      let ends := exec (.reservedOpcode w) s = .next ((s.endCycle 2 s.scn.pc).queueOf s)
      (s.atCode w = true → badWord w = true → ends) ∧
      (s.atCode w = true → (w >>> 26).toNat = 0x32 → s.scn.serving = none → ends) ∧
      ((s.atCode w = false ∨ (badWord w = false ∧ ((w >>> 26).toNat ≠ 0x32 ∨ s.scn.serving ≠ none))) →
        exec (.reservedOpcode w) s = .next s)) ∧
    ∀ (i : Instr) (w : Word) (s : State), scanEncode i = some w →
      (s.atCode w = false → exec i s = .next s) ∧
      (s.atInstr i = true → i.wf = false → exec i s = .next ((s.endCycle 2 s.scn.pc).queueOf s)) ∧
      (s.regsWf = true → s.atCode w = true → s.flag .WIR_ST_STAT_LOCKSTEP_FAIL = true →
        exec i s = exec i (s.putB .WIR_ST_STAT_LOCKSTEP_FAIL false))

/-- R217, R219: words written out from the fields opcode [31:26], D [25:20], A [19:14], B [13:0]. -/
def Obligations.ScanWordsOfTheTable : Prop :=
  scanDecode 0b000000_000000_000000_00000000000000#32 = some (.nop 0 0 0) ∧
    scanDecode 0b000001_100011_000010_00000000000101#32 = some (.ldb 35 2 5) ∧
    scanDecode 0b010110_000001_000010_10000000000011#32 = some (.add 1 2 0x2003) ∧
    scanDecode 0b110100_111111_000001_00000000111111#32 = some (.sar 63 1 63) ∧
    scanDecode 0b100010_000011_000000_00000000000111#32 = some (.jmp 3 0 7) ∧
    scanDecode 0b101110_101001_000100_00000000001001#32 = some (.grpOpen 5 4 9) ∧
    scanDecode 0b111111_0000000000000000_1000000001#32 = some (.pfx 513) ∧
    scanDecode 0b110101_000000_000000_00000000000000#32 = none

/-! ### Scan code: results -/

/-- R219: instructions on BA and whole words. B′ is a register or a sign-extended 13-bit number (R217); PC goes on by 1, a prefix has
served, and nothing else changes. -/
def Obligations.ScanWordResults : Prop :=
  ∀ (d a : BitVec 6) (b : BitVec 14) (s : State),
    let word := fun (i : Instr) (v : Word) => s.atInstr i = true → exec i s = .next (s.setScn fun x =>
      { x with w := Sparse.put 0 x.w d.toNat v, pc := x.pc + 1, pfx := none })
    let bit := fun (i : Instr) (v : Bool) => s.atInstr i = true → exec i s = .next (s.setScn fun x =>
      { x with ba := v, pc := x.pc + 1, pfx := none })
    let bPrime : Word := if b.getLsbD 13 then (b.extractLsb' 0 13).signExtend 32 else s.wreg (b.extractLsb' 0 6)
    (s.atInstr (.nop d a b) = true → exec (.nop d a b) s = .next (s.setScn fun x => { x with pc := x.pc + 1, pfx := none })) ∧
      bit (.tstw d a b) ((s.wreg a).getLsbD (b.toNat % 32)) ∧ bit (.notb d a b) (!s.scn.ba) ∧
      word (.putb d a b) (if s.scn.ba then s.wreg d ||| (1#32 <<< (b.toNat % 32)) else s.wreg d &&& ~~~(1#32 <<< (b.toNat % 32))) ∧
      (a.toNat < 16 → word (.ldhi d a b) (((a.extractLsb' 0 4 ++ b).setWidth 32 <<< 14) ||| (s.wreg d &&& 0x3FFF#32))) ∧
      (s.scn.pfx = none → word (.ldi d a b) (b.signExtend 32)) ∧
      (∀ p, s.scn.pfx = some p → word (.ldi d a b) ((p ++ b).signExtend 32)) ∧
      (operandOk b = true →
        word (.sel d a b) (if s.scn.ba then s.wreg a else bPrime) ∧ word (.and d a b) (s.wreg a &&& bPrime) ∧
        word (.or d a b) (s.wreg a ||| bPrime) ∧ word (.xor d a b) (s.wreg a ^^^ bPrime) ∧
        word (.shl d a b) (s.wreg a <<< (bPrime.toNat % 32)) ∧ word (.shr d a b) (s.wreg a >>> (bPrime.toNat % 32)) ∧
        word (.sar d a b) ((s.wreg a).sshiftRight (bPrime.toNat % 32)))

/-- R220: ADD, SUB and MUL saturate at −2^31 and 2^31 − 1, DIV truncates, gives 0 for 0 / 0 and the limit of the dividend's sign for
another divisor of 0, and 2^31 − 1 for −2^31 / −1; OVF sets with every saturation and every division by 0, and stays otherwise. -/
def Obligations.ScanIntegerArithmetic : Prop :=
  ∀ (d a : BitVec 6) (b : BitVec 14) (s : State), operandOk b = true →
    let x := (s.wreg a).toInt
    let y := (s.opB b).toInt
    let set := fun (t : State) (v : Int) => t.setScn fun z =>
      { z with w := Sparse.put 0 z.w d.toNat (BitVec.ofInt 32 v), pc := z.pc + 1, pfx := none }
    let sat := fun (i : Instr) (v : Int) => s.atInstr i = true → exec i s = .next (
      if v < -2147483648 then set (s.putB .SCN_STAT_OVF true) (-2147483648)
      else if 2147483647 < v then set (s.putB .SCN_STAT_OVF true) 2147483647
      else set s v)
    sat (.add d a b) (x + y) ∧ sat (.sub d a b) (x - y) ∧ sat (.mul d a b) (x * y) ∧ (y ≠ 0 → sat (.div d a b) (x.tdiv y)) ∧
      (y = 0 → s.atInstr (.div d a b) = true → exec (.div d a b) s = .next (set (s.putB .SCN_STAT_OVF true)
        (if x = 0 then 0 else if x < 0 then -2147483648 else 2147483647)))

/-- R219: CMP and FCMP by the condition code in D[2:0], 0 EQ to 5 GE; codes 6 and 7 give BA = 0; a comparison with NaN is false except
NE. -/
def Obligations.ScanComparisons : Prop :=
  ∀ (d a : BitVec 6) (b : BitVec 14) (s : State), operandOk b = true →
    let x := s.wreg a
    let y := s.opB b
    let z := s.opBf b
    let bit := fun (i : Instr) (v : Bool) => s.atInstr i = true → exec i s = .next (s.setScn fun x =>
      { x with ba := v, pc := x.pc + 1, pfx := none })
    (d.toNat % 8 = 0 → bit (.cmp d a b) (decide (x.toInt = y.toInt)) ∧ bit (.fcmp d a b) (feq x z)) ∧
      (d.toNat % 8 = 1 → bit (.cmp d a b) (decide (x.toInt ≠ y.toInt)) ∧ bit (.fcmp d a b) (!feq x z)) ∧
      (d.toNat % 8 = 2 → bit (.cmp d a b) (decide (x.toInt < y.toInt)) ∧ bit (.fcmp d a b) (flt x z)) ∧
      (d.toNat % 8 = 3 → bit (.cmp d a b) (decide (x.toInt ≤ y.toInt)) ∧ bit (.fcmp d a b) (flt x z || feq x z)) ∧
      (d.toNat % 8 = 4 → bit (.cmp d a b) (decide (y.toInt < x.toInt)) ∧ bit (.fcmp d a b) (flt z x)) ∧
      (d.toNat % 8 = 5 → bit (.cmp d a b) (decide (y.toInt ≤ x.toInt)) ∧ bit (.fcmp d a b) (flt z x || feq x z)) ∧
      (6 ≤ d.toNat % 8 → bit (.cmp d a b) false ∧ bit (.fcmp d a b) false) ∧
      (fisNan x = true ∨ fisNan z = true → feq x z = false ∧ flt x z = false ∧ flt z x = false)

/-- R219, R220: float instructions by the binary32 operations of the model; FLIM keeps the first operand of max and min where the
comparison does not hold; FCVT both ways, OVF on saturation or NaN.
The model's choices it rests on: sign and payload of a NaN result are free (assumption 9). -/
def Obligations.ScanFloatResults : Prop :=
  ∀ (d a : BitVec 6) (b : BitVec 14) (s : State),
    let x := s.wreg a
    let y := s.opBf b
    let word := fun (i : Instr) (v : Word) => s.atInstr i = true → exec i s = .next (s.setScn fun z =>
      { z with w := Sparse.put 0 z.w d.toNat v, pc := z.pc + 1, pfx := none })
    (operandOk b = true →
      word (.fadd d a b) (fadd x y) ∧ word (.fsub d a b) (fsub x y) ∧ word (.fmul d a b) (fmul x y) ∧ word (.fdiv d a b) (fdiv x y) ∧
      (let m := if flt (s.wreg d) x then x else s.wreg d
       word (.flim d a b) (if flt y m then y else m))) ∧
      (b.getLsbD 0 = false → word (.fcvt d a b) (fofInt x.toInt)) ∧
      (b.getLsbD 0 = true → s.atInstr (.fcvt d a b) = true → fisNan x = true → exec (.fcvt d a b) s = .next
        ((s.putB .SCN_STAT_OVF true).setScn fun z => { z with w := Sparse.put 0 z.w d.toNat 0, pc := z.pc + 1, pfx := none })) ∧
      (b.getLsbD 0 = true → ∀ k : Int, fisNan x = false → fmt32.toInt 0 x.toNat = some k → -2147483648 ≤ k → k ≤ 2147483647 →
        word (.fcvt d a b) (BitVec.ofInt 32 k)) ∧
      let saturates := fun (v : Word) => s.atInstr (.fcvt d a b) = true → exec (.fcvt d a b) s = .next
        ((s.putB .SCN_STAT_OVF true).setScn fun z => { z with w := Sparse.put 0 z.w d.toNat v, pc := z.pc + 1, pfx := none })
      b.getLsbD 0 = true → fisNan x = false →
        (∀ k : Int, fmt32.toInt 0 x.toNat = some k → (k < -2147483648 → saturates 0x80000000) ∧ (2147483647 < k → saturates 0x7FFFFFFF)) ∧
        (fmt32.toInt 0 x.toNat = none → (x.msb = true → saturates 0x80000000) ∧ (x.msb = false → saturates 0x7FFFFFFF))

/-- R219: local data at ((P[0], B) + WA) modulo 32,768, edge bits, the prefix. -/
def Obligations.ScanLocalData : Prop :=
  ∀ (d a : BitVec 6) (b : BitVec 14) (p : BitVec 10) (s : State),
    let adr := (((s.scn.pfx.getD 0).toNat % 2) * 16384 + b.toNat + (if a = 0 then 0 else (s.wreg a).toNat)) % 32768
    let n := b.toNat % 1024
    let e := Sparse.at false s.scn.mem.edges n
    (s.atInstr (.ldl d a b) = true → exec (.ldl d a b) s = .next (s.setScn fun x =>
        { x with w := Sparse.put 0 x.w d.toNat (Sparse.at 0 x.mem.locals adr), pc := x.pc + 1, pfx := none })) ∧
      (s.atInstr (.stl d a b) = true → exec (.stl d a b) s = .next (s.setScn fun x =>
        { x with mem := { x.mem with locals := Sparse.put 0 x.mem.locals adr (s.wreg d) }, pc := x.pc + 1, pfx := none })) ∧
      (s.atInstr (.edge d a b) = true → exec (.edge d a b) s = .next (s.setScn fun x =>
        { x with mem := { x.mem with edges := Sparse.put false x.mem.edges n x.ba },
                 ba := if d.getLsbD 0 then !x.ba && e else x.ba && !e, pc := x.pc + 1, pfx := none })) ∧
      (s.atInstr (.pfx p) = true → exec (.pfx p) s = .next (s.setScn fun x => { x with pc := x.pc + 1, pfx := some p }))

/-- R219, R222: transfers. A jump goes to PC + 1 + B where its condition holds; a loop is left when its count is used up; a call
pushes PC + 1; a fifth loop push, a ninth call push, an LPE or RET on an empty stack end the cycle with a STACK E2, a target beyond the
last word of code with a CODE_END E2. -/
def Obligations.ScanTransfers : Prop :=
  ∀ (d a : BitVec 6) (b : BitVec 14) (s : State),
    let pc := s.scn.pc
    let jump := fun (t : State) (p : Nat) => t.setScn fun x => { x with pc := p, pfx := none }
    let cond := match d.toNat % 8 with
      | 0 => true
      | 1 => s.scn.ba
      | 2 => !s.scn.ba
      | 3 => s.scn.f
      | 4 => s.scn.sf
      | 5 => s.flag .SCN_STAT_OVF
      | _ => false
    let n := max 1 (if a = 0 then b.toNat else min (s.wreg a).toNat 65535)
    let target := (s.scn.pfx.getD 0).toNat % 4 * 16384 + b.toNat
    let ends := fun (i : Instr) (cause : Nat) => exec i s = .next ((s.endCycle cause pc).queueOf s)
    (s.atInstr (.jmp d a b) = true →
      (cond = true → pc + 1 + b.toNat < s.scn.code.length → exec (.jmp d a b) s = .next (jump s (pc + 1 + b.toNat))) ∧
      (cond = true → s.scn.code.length ≤ pc + 1 + b.toNat → ends (.jmp d a b) 4) ∧
      (cond = false → exec (.jmp d a b) s = .next (jump s (pc + 1)))) ∧
    (s.atInstr (.lpb d a b) = true →
      (s.scn.loops.length < 4 → exec (.lpb d a b) s = .next
        (jump (s.setScn fun x => { x with loops := (n, pc + 1) :: x.loops }) (pc + 1))) ∧
      (4 ≤ s.scn.loops.length → ends (.lpb d a b) 3)) ∧
    (s.atInstr (.lpe d a b) = true →
      (s.scn.loops = [] → ends (.lpe d a b) 3) ∧
      ∀ k p r, s.scn.loops = (k, p) :: r →
        (1 < k → exec (.lpe d a b) s = .next (jump (s.setScn fun x => { x with loops := (k - 1, p) :: r }) p)) ∧
        (k ≤ 1 → exec (.lpe d a b) s = .next (jump (s.setScn fun x => { x with loops := r }) (pc + 1)))) ∧
    (s.atInstr (.call d a b) = true →
      (8 ≤ s.scn.calls.length → ends (.call d a b) 3) ∧
      (s.scn.calls.length < 8 → s.scn.code.length ≤ target → ends (.call d a b) 4) ∧
      (s.scn.calls.length < 8 → target < s.scn.code.length → exec (.call d a b) s = .next
        (jump (s.setScn fun x => { x with calls := (pc + 1) :: x.calls }) target))) ∧
    (s.atInstr (.ret d a b) = true →
      (s.scn.calls = [] → ends (.ret d a b) 3) ∧
      ∀ p r, s.scn.calls = p :: r → exec (.ret d a b) s = .next (jump (s.setScn fun x => { x with calls := r }) p))

/-- R221, R270: what a load of the image gives, with F and S: an agreed input word after input forces, 0 with UNLATCHED for one outside
the latch list, the program's view of an output word with forced bits replaced, the agreed shed level where the latch list has its run, the
current value of any other word. -/
def Obligations.ScanImageLoads : Prop :=
  ∀ (d a : BitVec 6) (b : BitVec 14) (s : State),
    let w := s.effAdr a b
    let fs := s.scn.forces
    let gives := fun (t : State) (v : Word) (f sf : Bool) =>
      let bit := v.getLsbD (d.toNat % 32) != d.msb
      let leaves := fun (i : Instr) (x : Bool) => s.atInstr i = true → exec i s = .next ((t.setScn fun z =>
        { z with ba := x, f := f, sf := sf, pc := z.pc + 1, pfx := none }).queueOf s)
      (s.atInstr (.ldw d a b) = true → exec (.ldw d a b) s = .next ((t.setScn fun z =>
        { z with w := Sparse.put 0 z.w d.toNat v, f := f, sf := sf, pc := z.pc + 1, pfx := none }).queueOf s)) ∧
      leaves (.ldb d a b) bit ∧
      (t.scn.ba = s.scn.ba → leaves (.andb d a b) (s.scn.ba && bit) ∧ leaves (.orb d a b) (s.scn.ba || bit) ∧
        leaves (.xorb d a b) (s.scn.ba ^^ bit))
    (∀ l, w < 0x40000 → s.latched 0 w = some l → gives s (applyForces fs w l.lo) (forced fs w) l.sub) ∧
      (w < 0x40000 → s.latched 0 w = none → gives (s.unlatched w) 0 false false) ∧
      (0x40000 ≤ w → w < 0x80000 → gives s (applyForces fs w (s.viewWord w)) (forced fs w) false) ∧
      (w = 0xFFFF7F → ∀ l, s.latched 0 w = some l → gives s (BitVec.ofNat 32 (s.fld .PMS_LEVEL_AGREED)) false false) ∧
      (w = 0xFFFF7F → s.latched 0 w = none → gives (s.unlatched w) 0 false false) ∧
      (0x80000 ≤ w → w ≠ 0xFFFF7F → gives s (s.reqRead w) false false)

/-- R216: a store to the output region writes the word there and in the program's view; STB and SRB change one bit. A store outside it
is discarded with ERR_CODE 0x65 and an E1. -/
def Obligations.ScanImageStores : Prop :=
  ∀ (d a : BitVec 6) (b : BitVec 14) (s : State),
    let w := s.effAdr a b
    let k := d.toNat % 32
    let put := fun (v view : Word) => (s.setWord w v).setScn fun x =>
      { x with stores := Sparse.put none x.stores w (some view), pc := x.pc + 1, pfx := none }
    let one := fun (v : Word) (x : Bool) => if x then v ||| (1#32 <<< k) else v &&& ~~~(1#32 <<< k)
    (0x40000 ≤ w → w < 0x80000 →
      (s.atInstr (.stw d a b) = true → exec (.stw d a b) s = .next ((put (s.wreg d) (s.wreg d)).queueOf s)) ∧
      (s.atInstr (.stb d a b) = true → exec (.stb d a b) s = .next
        ((put (one (s.word w) s.scn.ba) (one (s.viewWord w) s.scn.ba)).queueOf s)) ∧
      (s.atInstr (.srb d a b) = true → s.scn.ba = true → exec (.srb d a b) s = .next
        ((put (one (s.word w) (!d.msb)) (one (s.viewWord w) (!d.msb))).queueOf s)) ∧
      (s.atInstr (.srb d a b) = true → s.scn.ba = false → exec (.srb d a b) s = .next
        (s.setScn fun x => { x with pc := x.pc + 1, pfx := none }))) ∧
    (¬ (0x40000 ≤ w ∧ w < 0x80000) →
      let bad := (((s.refuse 0x0D 0x65 w).raise 1 0x0D 0 5 w).next).queueOf s
      (s.atInstr (.stw d a b) = true → exec (.stw d a b) s = .next bad) ∧
      (s.atInstr (.stb d a b) = true → exec (.stb d a b) s = .next bad) ∧
      (s.atInstr (.srb d a b) = true → s.scn.ba = true → exec (.srb d a b) s = .next bad) ∧
      (s.atInstr (.srb d a b) = true → s.scn.ba = false → exec (.srb d a b) s = .next
        (s.setScn fun x => { x with pc := x.pc + 1, pfx := none })))

/-- R223: timers by their mode, counters by theirs, and TCRD. The agreed cycle time counts quarter milliseconds; a start tick above it
gives ET = 0. -/
def Obligations.ScanTimersAndCounters : Prop :=
  ∀ (d a : BitVec 6) (b : BitVec 14) (s : State),
    let n := b.toNat % 1024
    let ba := s.scn.ba
    let x0 := Sparse.at {} s.scn.mem.timers n
    let x : Timer := if d.getLsbD 2 then { x0 with on := false, et := 0, q := false } else x0
    let c := Sparse.at {} s.scn.mem.counters n
    let preset := (s.wreg a).toNat
    let et := fun (start : Nat) => min preset ((s.cycleTime - start) / 4)
    let leaves := fun (y : Timer) => s.atInstr (.tmr d a b) = true → exec (.tmr d a b) s = .next (s.setScn fun z =>
      { z with mem := { z.mem with timers := Sparse.put {} z.mem.timers n y }, ba := y.q, pc := z.pc + 1, pfx := none })
    let counts := fun (cv : Word) (q : Bool) => s.atInstr (.ctr d a b) = true → exec (.ctr d a b) s = .next (s.setScn fun z =>
      { z with mem := { z.mem with counters := Sparse.put {} z.mem.counters n ⟨cv, ba⟩ }, ba := q, pc := z.pc + 1, pfx := none })
    let up := if ba && !c.edge then (if c.cv = 0x7FFFFFFF#32 then c.cv else c.cv + 1) else c.cv
    let down := if ba && !c.edge then (if c.cv = 0x80000000#32 then c.cv else c.cv - 1) else c.cv
    (d.toNat % 4 = 0 → ba = false → leaves { x with on := false, et := 0, q := false, edge := false }) ∧
      (d.toNat % 4 = 0 → ba = true →
        let st := if x.on then x.start else s.cycleTime
        leaves { x with on := true, start := st, et := et st, q := decide (et st = preset), edge := true }) ∧
      (d.toNat % 4 = 1 → ba = true → leaves { x with on := false, et := 0, q := true, edge := true }) ∧
      (d.toNat % 4 = 1 → ba = false → x.q = false → leaves { x with edge := false }) ∧
      (d.toNat % 4 = 1 → ba = false → x.q = true →
        let st := if x.on then x.start else s.cycleTime
        let done := decide (et st = preset)
        leaves { x with start := st, et := et st, q := !done, on := !done, edge := false }) ∧
      (d.toNat % 4 = 2 → ba = true → x.edge = false → x.q = false →
        let done := decide (et s.cycleTime = preset)
        leaves { x with start := s.cycleTime, et := et s.cycleTime, q := !done, on := !done, edge := true }) ∧
      (d.toNat % 4 = 2 → (ba = false ∨ x.edge = true ∨ x.q = true) →
        let done := decide (et x.start = preset)
        (x.on = true → leaves { x with et := et x.start, q := !done, on := !done, edge := ba }) ∧
        (x.on = false → leaves { x with edge := ba })) ∧
      (d.toNat % 4 = 0 → counts up (decide ((s.wreg a).toInt ≤ up.toInt))) ∧
      (d.toNat % 4 = 1 → counts down (decide (down.toInt ≤ 0))) ∧
      (d.toNat % 4 = 2 → counts 0 false) ∧ (d.toNat % 4 = 3 → counts (s.wreg a) false) ∧
      (s.atInstr (.tcrd d a b) = true → exec (.tcrd d a b) s = .next (s.setScn fun z =>
        { z with w := Sparse.put 0 z.w d.toNat (if a.getLsbD 0 then c.cv else BitVec.ofNat 32 x0.et), pc := z.pc + 1, pfx := none }))

/-- R219, R221: RDL, RDS and RDQ give the agreed value of a latched item; one outside the latch list behaves as an unlatched input
word. -/
def Obligations.ScanAgreedItems : Prop :=
  ∀ (d a : BitVec 6) (b : BitVec 14) (s : State),
    let reads := fun (i : Instr) (src adr : Nat) (f : Latched → Word) => s.atInstr i = true →
      (∀ l, s.latched src adr = some l → exec i s = .next (s.setScn fun x =>
        { x with w := Sparse.put 0 x.w d.toNat (f l), pc := x.pc + 1, pfx := none })) ∧
      (s.latched src adr = none → exec i s = .next (((s.unlatched adr).setScn fun x =>
        { x with w := Sparse.put 0 x.w d.toNat 0, pc := x.pc + 1, pfx := none }).queueOf s))
    (a.toNat % 8 < 6 → reads (.rdl d a b) 1 (b.toNat % 512 * 8 + a.toNat % 8) fun l => l.lo) ∧
      reads (.rds d a b) 2 (a.toNat % 4 * 32 + b.toNat % 32) (fun l => l.lo) ∧
      (a.toNat % 4 = 0 → reads (.rdq d a b) 3 (b.toNat % 256) fun l => l.lo) ∧
      (a.toNat % 4 = 1 → reads (.rdq d a b) 3 (b.toNat % 256) fun l => l.hi) ∧
      (a.toNat % 4 = 2 → reads (.rdq d a b) 3 (b.toNat % 256) fun l => accEng (l.hi ++ l.lo) (s.accU (b.toNat % 256)))

/-- R224, R75, R76: groups from scan code. A selection lasts; an open group is empty and has the kind of D[5:3]; a refused open leaves
the group, gives BA = 0 and 0x1C in the SCN page's ERR_CODE; an abort acts as the command does.
The model's choices it rests on: assumption 29. -/
def Obligations.ScanGroups : Prop :=
  ∀ (d : BitVec 3) (a : BitVec 6) (b : BitVec 14) (s : State),
    let g := b.toNat % 16
    let ends := fun (t : State) (ba : Bool) => (t.setScn fun x => { x with ba := ba, pc := x.pc + 1, pfx := none }).queueOf s
    let opened := s.setGroup g fun x =>
      { x.newUse with state := 1, entries := [], refused := false, host := false, weir := false, result := 0, hash := 0, bound := 0,
                      sibVote := [] }
    (s.atInstr (.grpSelect d a b) = true → exec (.grpSelect d a b) s = .next
        (ends ((s.putB .SCN_GRP_VALID true).put .SCN_GRP_GROUP g) true)) ∧
      (s.atInstr (.grpOpen d a b) = true → ((s.group g).state ≠ 0 ∨ s.mayOpen = false) → (d = 5 → a ≠ 63) →
        exec (.grpOpen d a b) s = .next (ends (s.refuse 0x0D 0x1C g) false)) ∧
      (s.atInstr (.grpOpen d a b) = true → (s.group g).state = 0 → s.mayOpen = true → d ≠ 3 → d ≠ 5 →
        exec (.grpOpen d a b) s = .next (ends (opened.put (.TXN_GRP_CFG_KIND g) d.toNat) true)) ∧
      (s.atInstr (.grpOpen d a b) = true → (s.group g).state = 0 → s.mayOpen = true → d = 3 →
        exec (.grpOpen d a b) s = .next (ends ((opened.put (.TXN_GRP_CFG_KIND g) 3).put (.TXN_GRP_CFG_SLOT g)
          ((s.wreg a).toNat % 512)) true)) ∧
      (s.atInstr (.grpOpen d a b) = true → (s.group g).state = 0 → s.mayOpen = true → d = 5 → a ≠ 63 →
        exec (.grpOpen d a b) s = .next (ends ((opened.put (.TXN_GRP_CFG_KIND g) 5).put64 (0x8100 + 8 * g) (0x8104 + 8 * g)
          ((s.wreg a).toNat + 2 ^ 32 * (s.wreg (a + 1)).toNat)) true)) ∧
      (∀ c, s.armRefusal g = some c → s.atInstr (.grpArm d a b) = true → exec (.grpArm d a b) s = .next
        (ends (s.refuse 0x0D c g) false)) ∧
      (s.armRefusal g = none → s.atInstr (.grpArm d a b) = true → exec (.grpArm d a b) s = .next
        (ends ((s.armNow g).immediate g) true)) ∧
      (s.atInstr (.grpAbort d a b) = true → exec (.grpAbort d a b) s = .next (ends (s.abortCmd g) true))

/-- R219, R224: STG and RSTG stage into the selected group, and BA tells whether the write was accepted; without a selection they are
refused with 0x10, and to a register that is no RWS one or that the device alone stages BA = 0 is all. RAISE gives a Condition record; ERD
reads the event being served; ERET ends the call.
The model's choices it rests on: assumptions 29, 84 (a register the device alone stages) and 94 (no code for a register that is not RWS);
what ERD reads outside the error task is free (9). -/
def Obligations.ScanStagingAndEvents : Prop :=
  ∀ (d a : BitVec 6) (b : BitVec 14) (s : State),
    let g := s.fld .SCN_GRP_GROUP
    let adr := ((s.scn.pfx.getD 0).toNat % 4 * 16384 + b.toNat) * 4
    let ends := fun (t : State) (ba : Bool) => (t.setScn fun x => { x with ba := ba, pc := x.pc + 1, pfx := none }).queueOf s
    let stages := fun (i : Instr) (t : Target) => s.atInstr i = true →
      (s.flag .SCN_GRP_VALID = false → exec i s = .next (ends (s.refuse 0x0D 0x10 t.adr) false)) ∧
      (s.flag .SCN_GRP_VALID = true → t.deviceOnly = true → exec i s = .next (ends s false)) ∧
      (s.flag .SCN_GRP_VALID = true → t.deviceOnly = false → s.stageWhyNot g t (s.wreg d) = none →
        exec i s = .next (ends (s.setGroup g fun x => { x with entries := putEntry t (s.wreg d) x.entries }) true)) ∧
      (s.flag .SCN_GRP_VALID = true → t.deviceOnly = false → ∀ c, s.stageWhyNot g t (s.wreg d) = some (c, true) →
        exec i s = .next (ends ((s.refuse 0x0D c t.adr).setGroup g fun x => { x with refused := true }) false)) ∧
      (s.flag .SCN_GRP_VALID = true → t.deviceOnly = false → ∀ c, s.stageWhyNot g t (s.wreg d) = some (c, false) →
        exec i s = .next (ends (s.refuse (if t = modeTarget then 0 else 0x0D) c t.adr) false))
    stages (.stg d a b) ⟨true, s.effAdr a b⟩ ∧
      (hasAcc .rws adr = true → s.domainOff (pageDomain (adr / 0x1000)) = false → stages (.rstg d a b) ⟨false, adr⟩) ∧
      ((hasAcc .rws adr = false ∨ s.domainOff (pageDomain (adr / 0x1000)) = true) → s.atInstr (.rstg d a b) = true →
        exec (.rstg d a b) s = .next (ends s false)) ∧
      (s.atInstr (.raise d a b) = true → d.toNat % 4 ≠ 3 → exec (.raise d a b) s = .next
        ((((s.condition (b.toNat % 4096) (d.toNat % 4) 0xFF 0x0D0000 (s.wreg a).toNat).dropCheck).setScn fun x =>
          { x with pc := x.pc + 1, pfx := none }).queueOf s)) ∧
      (∀ e, s.scn.serving = some e → s.atInstr (.erd d a b) = true → exec (.erd d a b) s = .next (s.setScn fun x =>
        { x with w := Sparse.put 0 x.w d.toNat (e.word (a.toNat % 4)), pc := x.pc + 1, pfx := none })) ∧
      (s.scn.serving = none → s.atInstr (.erd d a b) = true → exec (.erd d a b) s = .next (s.usedFree.setScn fun x =>
        { x with w := Sparse.put 0 x.w d.toNat (s.freeVal.setWidth 32), pc := x.pc + 1, pfx := none })) ∧
      (∀ e, s.scn.serving = some e → s.atInstr (.eret d a b) = true → s.slot e.cls ≠ some e → exec (.eret d a b) s = .next
        (((((s.putB .SCN_STAT_ERRTASK false).bump .SCN_ERRTASK_CALLS).setScn fun x =>
          { x with serving := none, pfx := none }).phase2).queueOf s)) ∧
      (∀ e, s.scn.serving = some e → s.atInstr (.eret d a b) = true → s.slot e.cls = some e → exec (.eret d a b) s = .next
        ((((((s.putB .SCN_STAT_ERRTASK false).bump .SCN_ERRTASK_CALLS).setScn fun x =>
          { x with serving := none, pfx := none }).completeClass e.cls).phase2).queueOf s)) ∧
      (s.scn.serving = none → s.atInstr (.eret d a b) = true → exec (.eret d a b) s = .next ((s.endCycle 2 s.scn.pc).queueOf s))

/-- R208, R222: a lockstep mismatch is an E3 with the word's address; a push on a full stack or a pop from an empty one ends the cycle
with cause STACK; execution past the last word, a jump or a call that leads there with CODE_END. Where no program stands at such a word,
nothing happens.
The model's choices it rests on: what the cores differ in is free (assumption 18). -/
def Obligations.ScanFaults : Prop :=
  ∀ (s : State) (w : Word),
    let op := (w >>> 26).toNat
    let b := (w.extractLsb' 0 14).toNat
    let len := s.scn.code.length
    let stack := exec .stackFault s = .next ((s.endCycle 3 s.scn.pc).queueOf s)
    let past := exec .codeEnd s = .next ((s.endCycle 4 s.scn.pc).queueOf s)
    let full := (op = 0x23 ∧ 4 ≤ s.scn.loops.length) ∨ (op = 0x24 ∧ s.scn.loops = []) ∨ (op = 0x25 ∧ 8 ≤ s.scn.calls.length) ∨
      (op = 0x26 ∧ s.scn.calls = [])
    let beyond := (op = 0x22 ∧ s.jumpCond ((w >>> 20).toNat % 8) = true ∧ len ≤ s.scn.pc + 1 + b) ∨
      (op = 0x25 ∧ s.scn.calls.length < 8 ∧ len ≤ (s.scn.pfx.getD 0).toNat % 4 * 16384 + b)
    (s.atCode w = true → exec .lockstepMismatch s = .next
      ((((s.differs w).putB .WIR_ST_STAT_LOCKSTEP_FAIL true).raise 3 0x0D 0 7 s.scn.pc).queueOf s)) ∧
    (s.atCode w = true → full → stack) ∧ (s.atCode w = true → ¬ full → exec .stackFault s = .next s) ∧
    (s.atCode w = true → beyond → past) ∧ (s.atCode w = true → ¬ beyond → exec .codeEnd s = .next s) ∧
    (s.awake = true → s.inProgram = true → len ≤ s.scn.pc → past) ∧
    ((s.awake = false ∨ s.inProgram = false) →
      exec .lockstepMismatch s = .next s ∧ exec .stackFault s = .next s ∧ exec .codeEnd s = .next s) ∧
    (len ≤ s.scn.pc → exec .lockstepMismatch s = .next s ∧ exec .stackFault s = .next s)
/-! ### Power, reset, inspection -/

/-- R26, R34, R349, R438: main supply returns, and the field die sets the power-up state at once; main supply fails, every core domain
without power, the Spring count, MRAM and xSPI kept; a Spring power-on reset restarts the count from 0 and puts every register outside the
pages that show the supplies and the field lands at its reset value; RESET_N and WAKE_N act by the mode.
The model's choices it rests on: the order of start-up as commands (assumption 2), the values the spec gives no reset for (72), the straps
of the power-up state (82). -/
def Obligations.SupplyAndReset : Prop :=
  ∀ s : State,
    let kept := fun (t : State) => t.time.count = s.time.count ∧ t.sed.ring = s.sed.ring ∧ t.xspi = s.xspi
    let dead := fun (t : State) => t.mode = .sleep ∧ t.mainOn = false ∧ t.held = true ∧ t.safeN = false
    (s.mainOn = false → exec .mainSupplyReturn s = .next (({ s with
      mainOn := true, mode := .startUp, held := true, stopped := false, strapsDue := true,
      cause := s.cause % 2 + 2 + s.cause / 64 * 64 } : State).powerUpField.queueOf s)) ∧
    (s.mainOn = true → exec .mainSupplyReturn s = .next s) ∧
    (∃ t, exec .mainSupplyLoss s = .next t ∧ t = s.loseMain.queueOf s ∧ dead t ∧ kept t) ∧
    (∃ t, exec .springPowerOn s = .next t ∧ t.time.count = 0 ∧ t.locks = [] ∧ t.cause % 2 = 1 ∧ t.held = true ∧ t.xspi = s.xspi ∧
      t.sed.ring = s.sed.ring ∧ (∀ a, [0x01, 0x05, 0x15, 0x16, 0x17].contains (a / 0x1000) = false → t.reg a = regDefault a)) ∧
    (s.mode ≠ .sleep → ∃ t, exec .resetNLow s = .next t ∧ t = (s.warmReset 2).queueOf s ∧ t.mode = .startUp ∧ t.held = true ∧
      t.cause % 8 = 4 ∧ t.safeN = false ∧ kept t) ∧
    (s.mode = .sleep → exec .resetNLow s = .next s) ∧
    (s.mode = .sleep → s.mainOn = true → exec .wakeNLow s = .next
      (({ s with mode := .startUp, held := true, waking := true, cause := 32 } : State).powerUpField.queueOf s)) ∧
    ((s.mode ≠ .sleep ∨ s.mainOn = false) → exec .wakeNLow s = .next s)

/-- R35: a software reset acts only in Commission or Safe; in Run or Degraded the write is ignored and the SYS page's ERR_CODE set. A
write of another key does nothing. -/
def Obligations.SoftwareReset : Prop :=
  ∀ s : State, s.hostMay 0 = true →
    ((s.mode = .commission ∨ s.mode = .safe) → exec (.sysSwrstWrite 0xA5A5) s = .next ((s.warmReset 4).queueOf s)) ∧
    ((s.mode = .run ∨ s.mode = .degraded) → exec (.sysSwrstWrite 0xA5A5) s = .next ((s.refuse 0x00 0x02 0x5C).queueOf s)) ∧
    ∀ v : Word, v ≠ 0xA5A5 → exec (.sysSwrstWrite v) s = .next s

/-- R27 to R30, R90, R416: the end of the power-good filter runs start-up; a go from the host applies the image in banks 8 to 15, or shows
why it does not; the end of the join wait goes on with the siblings that agree, waits where a pair stands against this member, and ends in
Commission otherwise; FREEZE_N freezes with the time kept; the Weir's watchdog resets after the device watchdog's E3; a software reset
written in start-up does nothing.
The model's choices it rests on: assumptions 2, 27, 61 (the end of a wait is its row) and 82. -/
def Obligations.StartUpAndFreeze : Prop :=
  ∀ (s : State),
    let load := s.loadImage (fun o n => s.bytes (0x02000000 + o) n) 3
    let waits := s.joining = true ∧ s.applied = true ∧ s.setExists = false ∧ s.sib.wgrp = none ∧ (s.group s.wgrpNo).weir = false
    (∀ (st xt pl : Bool) (p b : Fin 4) (al : Bool),
      (s.held = true → s.mainOn = true → s.mode = .startUp → exec (.powerGoodFilterExpiry st xt pl p b al) s = .next
        ((s.release st xt pl p b al).queueOf s)) ∧
      ((s.held = false ∨ s.mainOn = false ∨ s.mode ≠ .startUp) → exec (.powerGoodFilterExpiry st xt pl p b al) s = .next s)) ∧
    (s.hostMay 0 = true →
      (s.mode = .startUp → s.applied = false → (s.boot = 1 ∨ s.boot = 2) → exec .sysBootCtrlGo s = .next
        ((if load.2 then load.1.beginJoin else load.1).queueOf s)) ∧
      ((s.mode ≠ .startUp ∨ s.applied = true ∨ (s.boot ≠ 1 ∧ s.boot ≠ 2)) → exec .sysBootCtrlGo s = .next s) ∧
      (s.mode = .startUp → exec (.sysSwrstWrite 0xA5A5) s = .next s)) ∧
    (s.awake = true →
      (waits → s.agreeingSibs ≠ [] → exec .joinWaitExpiry s = .next (s.joinDone.queueOf s)) ∧
      (waits → s.agreeingSibs = [] → s.pairAgainst = true → exec .joinWaitExpiry s = .next s) ∧
      (waits → s.agreeingSibs = [] → s.pairAgainst = false → exec .joinWaitExpiry s = .next ((s.enterCommission 7).queueOf s)) ∧
      (¬ waits → exec .joinWaitExpiry s = .next s)) ∧
    (let frozen := fun (t : State) =>
       (({ t with mode := .frozen } : State).put64 0x31044 0x31048 s.now).putB .SPR_STAT_FROZE true
     (s.mode ≠ .sleep → s.mode ≠ .frozen →
       (s.awake = true → exec .freezeNLow s = .next ((frozen (s.loseMode.sendHealth true)).queueOf s)) ∧
       (s.awake = false → exec .freezeNLow s = .next ((frozen s).queueOf s))) ∧
     ((s.mode = .sleep ∨ s.mode = .frozen) → exec .freezeNLow s = .next s)) ∧
    (s.awake = true → s.wdtPending = true → exec .weirWatchdogReset s = .next ((s.warmReset 3).queueOf s)) ∧
    ((s.awake = false ∨ s.wdtPending = false) → exec .weirWatchdogReset s = .next s)

/-- R417, R418: IDCODE shifts 0x1730056B out; BYPASS and a refused EXTEST pass one bit; EXTEST and SAMPLE_PRELOAD load the boundary
register; FRZ_SEEK places, and FRZ_RD shifts out, the words of a section while the device is readable, zeros otherwise.
The model's choices it rests on: the layout of the sections and the codes of FRZ_SEEK (assumption 44). -/
def Obligations.InspectionPort : Prop :=
  ∀ (s : State) (width bits words : Nat) (sect : Fin 8) (word : BitVec 29),
    let off := s.setTap fun x => { x with extest := false }
    exec .idcode s = .next (off.send (.tdo 32 0x1730056B)) ∧
    exec (.bypass width bits) s = .next (off.send (.tdo width (2 * bits % 2 ^ width))) ∧
    (s.inspectHold = false → exec (.extest width bits) s = .next (off.send (.tdo width (2 * bits % 2 ^ width)))) ∧
    (s.inspectHold = true → ∃ t, exec (.extest width bits) s = .next t ∧ t.tap.extest = true ∧ t.tap.bsr = bits % 2 ^ width ∧
      t.regs = s.regs ∧ t.basin = s.basin) ∧
    (∃ t, exec (.samplePreload width bits) s = .next t ∧ t.tap.extest = false ∧ t.tap.bsr = bits % 2 ^ width ∧
      t.regs = s.regs ∧ t.basin = s.basin) ∧
    (s.readable = true → exec (.frzSeek sect word) s = .next (s.setTap fun x =>
      { x with extest := false, sect := sect.val, word := word.toNat })) ∧
    (s.readable = false → exec (.frzSeek sect word) s = .next off) ∧
    (s.readable = false → exec (.frzRd words) s = .next (off.send (.tdo (32 * words) 0))) ∧
    (s.readable = true → exec (.frzRd words) s = .next
      (((State.shiftWords words off).1.send (.tdo (32 * words) (State.shiftWords words off).2)).queueOf s))

/-- R403 to R405, R410, R425: idle domains and banks, the reservoir's ready signal, the field supply lost and returned.
The model's choices it rests on: a wake is its row or the next base tick edge (assumption 77); the end of a wait is its row (61). -/
def Obligations.PowerDomains : Prop :=
  ∀ (s : State),
    (∀ d : Fin 14, s.awake = true →
      let may := s.net.idle.contains d.val = false ∧ bitOf (s.fld .PWR_HOLD) d.val = false ∧ s.domainBusy d.val = false ∧
        s.holdsLock d.val = false
      let t := (({ s with net := { s.net with idle := addOnce s.net.idle d.val } } : State).domBit .PWR_IDLE_STAT_IDLE d.val true).domBit
        .PWR_ON d.val false
      (may → d.val ≠ 5 → exec (.domainIdle d) s = .next (t.queueOf s)) ∧
      (may → d.val = 5 → exec (.domainIdle d) s = .next (((t.putB .CLK_STAT_RUN_S false).putB .CLK_STAT_LOCK_S false).queueOf s)) ∧
      (¬ may → exec (.domainIdle d) s = .next s)) ∧
    (∀ d : Fin 14, s.awake = true →
      let t := (({ s with net := { s.net with idle := s.net.idle.filter (· != d.val) } } : State).domBit .PWR_IDLE_STAT_IDLE d.val
        false).domBit .PWR_ON d.val true
      (s.net.idle.contains d.val = true → d.val ≠ 5 → exec (.domainWake d) s = .next ((t.bump .PWR_WAKES_OTHER).queueOf s)) ∧
      (s.net.idle.contains d.val = true → d.val = 5 → exec (.domainWake d) s = .next
        ((((t.putB .CLK_STAT_RUN_S true).putB .CLK_STAT_LOCK_S true).bump .PWR_WAKES_SOLVER).queueOf s)) ∧
      (s.net.idle.contains d.val = false → exec (.domainWake d) s = .next s)) ∧
    (∀ b : Fin 16, s.awake = true →
      let may := s.flag .PWR_BANK_LS_EN = true ∧ (∀ w ∈ s.bsn.waiting, w.1 ≠ b.val) ∧ s.lockOf b.val = none
      (may → exec (.bankLightSleep b) s = .next { s with net := { s.net with idle := addOnce s.net.idle (16 + b.val) } }) ∧
      (¬ may → exec (.bankLightSleep b) s = .next s)) ∧
    (s.mainOn = true → exec .vresReady s = .next
      ((((s.putB .RSV_STAT_READY true).put .RSV_STAT_VRES 10500).sample 0x04 1 0 10500).queueOf s)) ∧
    (s.mainOn = false → exec .vresReady s = .next s) ∧
    (let t := ({ s with field := { s.field with lpOn := false, outPend := [] } } : State).darkField
     ((s.held = true ∨ s.mode = .sleep) → exec .lpSupplyLoss s = .next (t.queueOf s)) ∧
     (s.held = false → s.mode ≠ .sleep → exec .lpSupplyLoss s = .next
       (((((t.put .PWR_SUP_LP_OK 0).putB .CLK_STAT_FOSC_OK false).domBit .PWR_ON 12 false).domBit .PWR_ON 13 false).queueOf s))) ∧
    (let t : State := { s with field := { s.field with lpOn := true } }
     let u : State := { t.powerUpField with field := { t.powerUpField.field with outImage := none } }
     (s.field.lpOn = true → exec .lpSupplyReturn s = .next s) ∧
     (s.field.lpOn = false → (s.mode = .sleep ∨ s.mainOn = false) → exec .lpSupplyReturn s = .next t) ∧
     (s.field.lpOn = false → s.mode ≠ .sleep → s.mainOn = true → s.held = true → exec .lpSupplyReturn s = .next (u.queueOf s)) ∧
     (s.field.lpOn = false → s.mode ≠ .sleep → s.mainOn = true → s.held = false → exec .lpSupplyReturn s = .next
       (((((u.put .PWR_SUP_LP_OK 1).putB .CLK_STAT_FOSC_OK true).domBit .PWR_ON 12 true).domBit .PWR_ON 13 true).queueOf s)))

/-! ### Faults -/

/-- R89, R90, R101: watchdogs and self-tests. A clock count outside 24,750 to 25,250 warns, twice in a row fails with an E3; each test's
bit shows the last result and a failure raises its class; a lane that fails leaves the schedules.
The model's choices it rests on: the E3 of the clock monitor once an episode (assumption 68), margins cut to the unit (40). -/
def Obligations.WatchdogsAndSelfTests : Prop :=
  ∀ s : State, s.awake = true →
    let runs := fun (i : Instr) (t : State) => exec i s = .next (t.queueOf s)
    (s.live = true → runs .deviceWatchdogExpiry (s.raise 3 0x05 0 1 (s.scn.served % 0x1000000))) ∧
    (s.live = false → exec .deviceWatchdogExpiry s = .next s) ∧
    (let t := s.raise 3 0x05 0 3 4
     runs .fieldLinkWatchdogExpiry (({ t with field := { t.field with outPend := [], outImage := none } } : State).openTrips).powerUpField) ∧
    (∀ n, 24750 ≤ n → n ≤ 25250 → runs (.clockMonitorWindow n)
      ((((s.put .WIR_CLK_MON_COUNT n).putB .WIR_CLK_MON_WARN false).putB .WIR_CLK_MON_FAIL false).putB .WIR_ST_STAT_CLK_FAIL false)) ∧
    (∀ n, (n < 24750 ∨ 25250 < n) →
      (s.flag .WIR_CLK_MON_WARN = false → runs (.clockMonitorWindow n)
        (((s.put .WIR_CLK_MON_COUNT (min 65535 n)).putB .WIR_CLK_MON_WARN true).putB .WIR_CLK_MON_FAIL false)) ∧
      (let t := (((s.put .WIR_CLK_MON_COUNT (min 65535 n)).putB .WIR_CLK_MON_WARN true).putB .WIR_CLK_MON_FAIL true).putB
         .WIR_ST_STAT_CLK_FAIL true
       (s.flag .WIR_CLK_MON_WARN = true → s.flag .WIR_CLK_MON_FAIL = false → runs (.clockMonitorWindow n)
         (t.raise 3 0x05 0 2 (min 65535 n))) ∧
       (s.flag .WIR_CLK_MON_WARN = true → s.flag .WIR_CLK_MON_FAIL = true → runs (.clockMonitorWindow n) t))) ∧
    (∀ k, runs (.weirPeriodicTest (some k)) ((s.putB .WIR_ST_STAT_PER_FAIL true).raise 3 0x05 0 4 k)) ∧
    runs (.weirPeriodicTest none) (s.putB .WIR_ST_STAT_PER_FAIL false) ∧
    (∀ k : Fin 32, runs (.configurationRehash (some k)) ((s.putB .WIR_ST_STAT_REHASH_FAIL true).raise 3 0x05 0 5 k.val)) ∧
    runs (.configurationRehash none) (s.putB .WIR_ST_STAT_REHASH_FAIL false) ∧
    (∀ n : Fin 256,
      let out := s.fld (.SLV_LANE_OUT (n.val / 32))
      let fails := fun (t : State) => (((t.putB .WIR_ST_STAT_LANE_FAIL true).putB .SLC_LANE_FAIL_VALID true).put .SLC_LANE_FAIL_LANE
        n.val).raise 2 0x0B n.val 1 n.val
      (bitOf out (n.val % 32) = true → runs (.solverLaneTest n false) (fails s)) ∧
      (bitOf out (n.val % 32) = false → runs (.solverLaneTest n false) (fails
        ((s.put (.SLV_LANE_OUT (n.val / 32)) (out + 2 ^ (n.val % 32))).put .SLV_LANES_IN_SERVICE (s.fld .SLV_LANES_IN_SERVICE - 1)))) ∧
      (s.flag .SLC_LANE_FAIL_VALID = true → s.fld .SLC_LANE_FAIL_LANE = n.val → runs (.solverLaneTest n true)
        (s.putB .WIR_ST_STAT_LANE_FAIL false)) ∧
      ((s.flag .SLC_LANE_FAIL_VALID = false ∨ s.fld .SLC_LANE_FAIL_LANE ≠ n.val) → exec (.solverLaneTest n true) s = .next s)) ∧
    (∀ (c : Fin 8) (ppm : Int),
      let d := clampInt (-32768) 32767 ppm
      let s1 := ((s.put (.ADC_REF_PPM c.val) (twos 16 d)).putB (.ADC_REF_FAIL c.val) (decide (1000 < d.natAbs))).sample 0x13 3 c.val (twos 32 d)
      let s2 := s1.putB .WIR_ST_STAT_REF_FAIL ((List.range 8).any fun k => s1.flag (.ADC_REF_FAIL k))
      let w := mostWorn ((List.range 8).map fun k => (k, (signed 16 (s2.fld (.ADC_REF_PPM k))).natAbs))
      let t := s2.setMargin 9 (marginOf 1000 w.2) w.1
      (d.natAbs ≤ 1000 → runs (.converterReferenceCheck c ppm) t) ∧
      (1000 < d.natAbs → runs (.converterReferenceCheck c ppm) (t.raise 1 0x13 c.val 3 (twos 24 d))))

/-- R94, R95, R104, R407, R409: an event reaches the error manager; the running handler of an unassigned event completes; an injected
event needs Commission and a class up to 3; a pop shows the oldest log entry and removes it; temperature and PLL events.
The model's choices it rests on: when a handler completes (assumption 13), the DETAIL of an injected event (74). -/
def Obligations.ErrorManager : Prop :=
  ∀ s : State, s.awake = true →
    let runs := fun (i : Instr) (t : State) => exec i s = .next (t.queueOf s)
    (∀ (c : Fin 5) (p : Fin 50) (i : Half) (k : Byte) (d : BitVec 24),
      runs (.eventRaise c p i k d) (s.raise c.val p.val i.toNat k.toNat d.toNat)) ∧
    (∀ c e, s.runningClass = some c → s.slot c = some e →
      (s.assigned e = false → runs .handlerComplete (s.completeClass c)) ∧
      (s.assigned e = true → exec .handlerComplete s = .next s)) ∧
    (s.runningClass = none → exec .handlerComplete s = .next s) ∧
    (∀ v : Word, s.hostMay 7 = true →
      ((s.mode ≠ .commission ∨ 3 < bitsOf v.toNat 30 28) → runs (.errInjectWrite v) (s.refuse 0x07 0x32 0x7094)) ∧
      (s.mode = .commission → bitsOf v.toNat 30 28 ≤ 3 → runs (.errInjectWrite v)
        (s.usedFree.raise (bitsOf v.toNat 30 28) (bitsOf v.toNat 23 16) (bitsOf v.toNat 15 0) 0xFF s.freeVal.toNat))) ∧
    (∀ e t r, s.hostMay 7 = true → s.regsWf = true → s.err.log = (e, t) :: r → ∃ u, exec .errLogPop s = .next u ∧ u.err.log = r ∧
      u.fld .ERR_LOG_INFO_CAUSE = e.cause % 256 ∧ u.get64 0x7084 0x7088 = t % 2 ^ 64 ∧ u.basin = s.basin) ∧
    (∀ e t r, s.hostMay 7 = true → s.err.log = (e, t) :: r →
      let u := ((({ s with err := { s.err with log := r } } : State).putB .ERR_LOG_SRC_ESC e.esc).put .ERR_LOG_SRC_CLASS e.cls).put
        .ERR_LOG_SRC_SRC e.src
      runs .errLogPop (((u.put .ERR_LOG_INFO_CAUSE e.cause).put .ERR_LOG_INFO_DETAIL e.detail).put64 0x7084 0x7088 t)) ∧
    (s.hostMay 7 = true → s.err.log = [] → exec .errLogPop s = .next s) ∧
    (∀ (f : Bool) (deg : Int), runs (.junctionTemperature f deg) (s.temperature f deg)) ∧
    (s.net.idle.contains 5 = true → exec (.pllUnlock 0) s = .next s) ∧
    (s.net.idle.contains 5 = false → runs (.pllUnlock 0) (((s.putB .CLK_STAT_LOCK_S false).bump .CLK_UNLOCK_CNT).raise 3 0x02 0 1 0)) ∧
    runs (.pllUnlock 1) (((s.putB .CLK_STAT_LOCK_Y false).bump .CLK_UNLOCK_CNT).raise 3 0x02 0 1 1) ∧
    runs (.pllUnlock 2) (((s.putB .CLK_STAT_LOCK_N false).bump .CLK_UNLOCK_CNT).raise 3 0x02 0 1 2)


/-! ### The triplet -/

/-- R42: the states of a link. Light starts training; 1 ms of training without success, and 100 µs of silence in Up or Refused, take
the link Down; 10 ms of Fault restart training; an idle sequence with a right CRC counts as heard, another is passed over.
The model's choices it rests on: the time-outs run on the PTP clock (assumption 25), a command with an instant acts inside its tick (7),
the first training that fails leads Down (83). -/
def Obligations.LinkStates : Prop :=
  ∀ (s : State) (l : Fin 2) (ns : Nat) (bytes : List Byte), s.awake = true →
    let t := s.at ns
    let runs := fun (i : Instr) (t : State) => exec i s = .next (t.queueOf s)
    (t.pos ≠ 0 → t.link l.val = 0 → runs (.yarnanSignalDetect l ns) (t.setLink l.val 1)) ∧
    ((t.pos = 0 ∨ t.link l.val ≠ 0) → runs (.yarnanSignalDetect l ns) t) ∧
    (t.link l.val = 1 → 1000000 ≤ t.linkAge l.val → runs (.linkTrainingTimeout l ns) (t.linkDown l.val)) ∧
    ((t.link l.val ≠ 1 ∨ t.linkAge l.val < 1000000) → runs (.linkTrainingTimeout l ns) t) ∧
    (let silent := (t.link l.val = 2 ∨ t.link l.val = 3) ∧ Sparse.at 0 t.sib.heard l.val + 100000 ≤ t.now
     (silent → runs (.linkSilenceTimeout l ns) (t.linkDown l.val)) ∧ (¬ silent → runs (.linkSilenceTimeout l ns) t)) ∧
    (t.link l.val = 4 → 10000000 ≤ t.linkAge l.val → runs (.linkFaultTimeout l ns) (t.setLink l.val 1)) ∧
    ((t.link l.val ≠ 4 ∨ t.linkAge l.val < 10000000) → runs (.linkFaultTimeout l ns) t) ∧
    (let valid := t.pos ≠ 0 ∧ t.link l.val ≠ 0 ∧ bytes.length = 16 ∧ (crc16 (bytes.take 14)).toNat = fieldAt bytes 14 2
     (valid → runs (.idleSequence l ns bytes) (t.setSib fun x => { x with heard := Sparse.put 0 x.heard l.val t.now })) ∧
     (¬ valid → runs (.idleSequence l ns bytes) t))

/-- R41, R42: a frame with a wrong CRC, a LEN above 2,048 or an unknown KIND is discarded and counted, whatever its kind, on a link that
receives; a link that is Down or in Fault, and position S, receive nothing. -/
def Obligations.BadFramesDiscarded : Prop :=
  ∀ (s : State) (l : Fin 2) (ns : Nat) (delay : Half) (kind flags : Byte) (seq : Word) (ref : DWord) (payload : List Byte) (crc : Word),
    s.awake = true →
    let t := s.at ns
    let hears := t.pos ≠ 0 ∧ t.link l.val ≠ 0 ∧ t.link l.val ≠ 4
    let bad := fun (k : Nat) (hears : Prop) (c : Instr) =>
      (¬ hears → exec c s = .next (t.queueOf s)) ∧
      (hears → (crc ≠ crc32 (crcBytes k flags.toNat payload.length seq.toNat ref.toNat payload) ∨ 2048 < payload.length ∨ k = 0 ∨ 6 < k) →
        exec c s = .next ((t.badFrame l.val k flags).queueOf s))
    bad 1 hears (.cycleImageFrame l ns flags seq ref payload crc) ∧ bad 2 hears (.voteFrame l ns flags seq ref payload crc) ∧
      bad 3 hears (.groupHashFrame l ns flags seq ref payload crc) ∧ bad 4 hears (.timeFrame l ns delay flags seq ref payload crc) ∧
      bad 5 hears (.healthFrame l ns delay flags seq ref payload crc) ∧ bad 6 hears (.bulkFrame l ns flags seq ref payload crc) ∧
      bad kind.toNat (t.pos ≠ 0 ∧ t.link l.val = 2) (.frameRelay l ns kind flags seq ref payload crc)

/-- R39, R43, R44, R46, R48, R60: a good frame for this member over an Up link, directly from the link's own sibling or relayed from the
other, marks link and sibling heard and delivers its contents: image and latch words, the vote, the group's message, the offset of time,
the health, the copied bytes. One that is not for this member marks the link alone; a direct frame between the siblings is relayed with
its relay flag set.
The model's choices it rests on: assumptions 7, 16, 21 and 23. -/
def Obligations.SiblingFrames : Prop :=
  ∀ (s : State) (l : Fin 2) (ns : Nat) (delay : Half) (kind flags : Byte) (seq : Word) (ref : DWord) (payload : List Byte) (crc : Word)
    (k : Nat), s.awake = true →
    let runs := fun (i : Instr) (t : State) => exec i s = .next (t.queueOf s)
    let v := (s.at ns).linkHeard l.val
    let relayed := flags.getLsbD 3
    let mine := sibOf v.pos (flags.toNat / 64) = some k ∧ bitsOf flags.toNat 5 4 = v.pos ∧ relayed = (k != l.val)
    let t := v.sibHeard k relayed
    let good := fun (n : Nat) => badYarnan n flags seq ref payload crc = false
    (v.link l.val = 2 → mine → v.pos ≠ 0 →
      (good 1 →
        let start := fun (p : Peer) => if p.cycle = ref.toNat then p
          else { p with cycle := ref.toNat, image := [], latch := [], complete := false }
        let word := fun (p : Peer) (e : Nat × Word) => if inOutput e.1 then { p with image := Sparse.put none p.image e.1 (some e.2) }
          else { p with latch := Sparse.put none p.latch e.1 (some e.2) }
        let last := fun (p : Peer) => { p with complete := p.complete || (flags.getLsbD 2 && !p.broken) }
        runs (.cycleImageFrame l ns flags seq ref payload crc) (State.imagesHeld t
          (t.setPeer k fun p => (unpackRuns payload.length payload).foldl word (last (start p))))) ∧
      (good 2 → runs (.voteFrame l ns flags seq ref payload crc)
        (t.setPeer k fun p => { p with vote := some (parseVote ref.toNat payload) }).judgeHashes.sidelineBeyond) ∧
      (good 3 →
        let fp := BitVec.ofNat 128 (fieldAt payload 16 16)
        let h := BitVec.ofNat 128 (fieldAt payload 0 16)
        let g := bitsOf ref.toNat 63 60
        let role := bitsOf ref.toNat 59 58
        let c := ((t.setPeer k fun p => { p with health := p.health.map fun h => { h with fp := fp } }).putB (.SIB_PEER_CFG_AGREE k)
          (fp == t.fp)).compareConfig
        runs (.groupHashFrame l ns flags seq ref payload crc) ((c.groupMessage k g role (ref.toNat % 2 ^ 58) h).learnVoteIn g role h)) ∧
      (good 4 →
        let offset := fun (w : State) (hop : Nat) => w.setPeer k fun p => { p with
          offset := some ((fieldAt payload 0 8 : Int) - ((w.now : Int) - (w.fld (.SIB_LINK_DELAY l.val) + hop : Nat)),
            (fieldAt payload 8 6 : Int) - (w.time.count : Int)),
          offRef := ref.toNat }
        (relayed = false → seq.toNat % 1024 ≠ 0 → runs (.timeFrame l ns delay flags seq ref payload crc) (offset t 0)) ∧
        (relayed = false → seq.toNat % 1024 = 0 → runs (.timeFrame l ns delay flags seq ref payload crc)
          (offset (t.put (.SIB_LINK_DELAY l.val) delay.toNat) 0)) ∧
        (relayed = true → runs (.timeFrame l ns delay flags seq ref payload crc) (offset t.usedFree (t.freeVal.toNat % 65536)))) ∧
      (good 6 → runs (.bulkFrame l ns flags seq ref payload crc) (t.takeBulk k ref.toNat payload))) ∧
    (v.link l.val ≠ 0 → v.link l.val ≠ 4 → v.pos ≠ 0 →
      (v.link l.val ≠ 2 ∨ sibOf v.pos (flags.toNat / 64) = none ∨ bitsOf flags.toNat 5 4 ≠ v.pos ∨
        (sibOf v.pos (flags.toNat / 64) = some k ∧ relayed = (k == l.val))) →
      (good 1 → runs (.cycleImageFrame l ns flags seq ref payload crc) v) ∧ (good 2 → runs (.voteFrame l ns flags seq ref payload crc) v) ∧
      (good 3 → runs (.groupHashFrame l ns flags seq ref payload crc) v) ∧
      (good 4 → runs (.timeFrame l ns delay flags seq ref payload crc) v) ∧ (good 6 → runs (.bulkFrame l ns flags seq ref payload crc) v)) ∧
    (v.link l.val ≠ 0 → v.link l.val ≠ 4 → v.pos ≠ 0 → good 5 →
      let u := if relayed then v else v.trainLink l.val (flags.toNat / 64) delay.toNat
      (u.link l.val = 2 → sibOf u.pos (flags.toNat / 64) = some k → bitsOf flags.toNat 5 4 = u.pos → relayed = (k != l.val) →
        runs (.healthFrame l ns delay flags seq ref payload crc) ((u.sibHeard k relayed).takeHealth k payload)) ∧
      ((u.link l.val ≠ 2 ∨ sibOf u.pos (flags.toNat / 64) = none ∨ bitsOf flags.toNat 5 4 ≠ u.pos ∨
          (sibOf u.pos (flags.toNat / 64) = some k ∧ relayed = (k == l.val))) →
        runs (.healthFrame l ns delay flags seq ref payload crc) u)) ∧
    (v.pos ≠ 0 → v.link l.val = 2 → good kind.toNat →
      let passes := flags.toNat / 64 = sibPos v.pos l.val ∧ bitsOf flags.toNat 5 4 = sibPos v.pos (1 - l.val) ∧ relayed = false ∧
        v.link (1 - l.val) = 2
      (passes → runs (.frameRelay l ns kind flags seq ref payload crc) ((v.putB (.SIB_LINK_STAT_RELAYING (1 - l.val)) true).send
        (.yarnan (1 - l.val) { kind := kind.toNat, flags := flags ||| 8#8, seq := seq, ref := ref, payload := payload, crc := crc }))) ∧
      (¬ passes → runs (.frameRelay l ns kind flags seq ref payload crc) v))

/-- R48, R55, R65, R66, R309: the Health frame of a base tick; the exchange of time when every voting sibling's offset is held or
SIB_CYC_TMO has passed; a sibling silent for SIB_LOST_T; isolation frames with their complement checked, a bad one and a silent line
opening every switch's vote on that line; a leg that deviates for WIR_LEG_DEV.FILT base ticks.
The model's choices it rests on: assumptions 7, 14, 20, 21, 23, 25 and 87. -/
def Obligations.SiblingSupervision : Prop :=
  ∀ (s : State) (ns : Nat) (k : Fin 2) (n : Fin 8) (f : BitVec 20), s.awake = true →
    let runs := fun (i : Instr) (t : State) => exec i s = .next (t.queueOf s)
    let t := s.at ns
    runs (.healthFrameSend ns) ((t.setAdc fun a => { a with sent := t.ownAins }).sendHealth (t.role t.pos == 4)) ∧
    (∀ r, t.sib.timeRef = some r →
      let due := (t.heldOffsets r).length = t.votingSibs.length ∨ t.sib.timeSent + t.fld .SIB_CYC_TMO * 1000 ≤ t.now
      (due → runs (.timeExchangeComplete ns) (t.timeExchange r)) ∧ (¬ due → runs (.timeExchangeComplete ns) t)) ∧
    (t.sib.timeRef = none → runs (.timeExchangeComplete ns) t) ∧
    (let lost := t.pos ≠ 0 ∧ (t.peer k.val).lost = false ∧ (t.peer k.val).heardAt + t.fld .SIB_LOST_T_LOST * 1000 ≤ t.now
     (lost → runs (.siblingLost k ns) (t.loseSibling k.val)) ∧ (¬ lost → runs (.siblingLost k ns) t)) ∧
    (s.pos = 0 → exec (.isolationFrame k f) s = .next s ∧ exec (.isolationLineTimeout k) s = .next s ∧
      exec (.legDeviation k n) s = .next s) ∧
    (s.pos ≠ 0 →
      let opens := (s.setLine k.val 0xFF true).isoUpdate
      ((f.getLsbD 0 = true ∨ (f.extractLsb' 1 2).toNat ≠ sibPos s.pos k.val ∨ f.extractLsb' 11 8 ≠ ~~~ f.extractLsb' 3 8 ∨
          f.getLsbD 19 = false) → runs (.isolationFrame k f) opens) ∧
      (f.getLsbD 0 = false → (f.extractLsb' 1 2).toNat = sibPos s.pos k.val → f.extractLsb' 11 8 = ~~~ f.extractLsb' 3 8 →
          f.getLsbD 19 = true →
        runs (.isolationFrame k f) (((s.setLine k.val (f.extractLsb' 3 8).toNat false).setSib fun x =>
          { x with isoMiss := Sparse.put 0 x.isoMiss k.val 0 }).isoUpdate.learnOwn)) ∧
      (2 ≤ Sparse.at 0 s.sib.isoMiss k.val → runs (.isolationLineTimeout k) opens) ∧
      (Sparse.at 0 s.sib.isoMiss k.val < 2 → exec (.isolationLineTimeout k) s = .next s) ∧
      (let off := s.role (sibPos s.pos k.val) = 3 ∧ max 1 (s.fld .WIR_LEG_DEV_FILT) ≤ Sparse.at 0 (s.peer k.val).legCnt n.val
       (off → runs (.legDeviation k n) (s.setSib fun x => { x with deviates := addOnce x.deviates (8 * k.val + n.val) })) ∧
       (¬ off → exec (.legDeviation k n) s = .next s)))

/-- R59 to R61, R437: the rejoin. The copy ends in the shadow period on the joiner, and on a voting member the copy has been sent and the
joiner is in shadow; an unfinished copy fails after 200 ms; an image arrives; a complete shadow has the Weir stage the vote; an admissible
sibling is admitted with AUTO_REJOIN, at most every 60 s.
The model's choices it rests on: assumptions 7, 21, 24 and 27. -/
def Obligations.Rejoin : Prop :=
  ∀ (s : State) (ns : Nat) (p : Fin 4) (header body : List Byte), s.awake = true →
    let runs := fun (i : Instr) (t : State) => exec i s = .next (t.queueOf s)
    let t := s.at ns
    let ph := s.fld .SIB_REJOIN_STAT_PHASE
    let q := s.fld .SIB_REJOIN_ADMIT_POS
    (ph = 3 → s.pos ≠ 0 →
      (s.role s.pos ≠ 3 → s.mayRejoin = true → runs .bulkCopyComplete s.beginShadow) ∧
      (s.role s.pos ≠ 3 → s.mayRejoin = false → exec .bulkCopyComplete s = .next s) ∧
      (s.role s.pos = 3 → (∀ k, sibOf s.pos q = some k → runs .bulkCopyComplete
        ((((s.sendBulk k).setRole q 2).put .SIB_REJOIN_STAT_PHASE 4).put .SIB_REJOIN_STAT_SHADOW_DONE 0 |>.setSib fun x =>
          { x with windows := Sparse.put 0 x.windows q 0 })) ∧
        (sibOf s.pos q = none → exec .bulkCopyComplete s = .next s))) ∧
    ((ph ≠ 3 ∨ s.pos = 0) → exec .bulkCopyComplete s = .next s) ∧
    (t.fld .SIB_REJOIN_STAT_PHASE = 3 → t.sib.bulkAt + 200000000 ≤ t.now → runs (.bulkCopyTimeout ns) (t.rejoinFail 2)) ∧
    ((t.fld .SIB_REJOIN_STAT_PHASE ≠ 3 ∨ t.now < t.sib.bulkAt + 200000000) → runs (.bulkCopyTimeout ns) t) ∧
    (s.pos ≠ 0 → s.mayRejoin = true → ph ≠ 3 → ph ≠ 4 → runs (.rejoinImageReceived header body) (s.rejoinImage header body)) ∧
    ((s.pos = 0 ∨ s.mayRejoin = false ∨ ph = 3 ∨ ph = 4) → exec (.rejoinImageReceived header body) s = .next s) ∧
    (let done := s.role s.pos = 3 ∧ ph = 4 ∧ s.role q = 2 ∧ s.sib.wgrp = none ∧ (s.group s.wgrpNo).weir = false ∧
       s.fld .SIB_REJOIN_SHADOW_CYC ≤ s.fld .SIB_REJOIN_STAT_SHADOW_DONE
     (done → runs .shadowComplete (s.weirStage (0x20 + q))) ∧ (¬ done → exec .shadowComplete s = .next s)) ∧
    (let admits := t.pos ≠ 0 ∧ t.role t.pos = 3 ∧ t.flag .SIB_CTRL_AUTO_REJOIN = true ∧ t.admissible p.val = true ∧
       (t.fld .SIB_REJOIN_STAT_PHASE = 0 ∨ 5 ≤ t.fld .SIB_REJOIN_STAT_PHASE) ∧
       (∀ a, Sparse.at none t.sib.admitAt p.val = some a → a + 60000000000 ≤ t.now) ∧ t.sib.wgrp = none ∧
       (t.group t.wgrpNo).weir = false
     (admits → runs (.autoRejoinAdmission p ns)
       ((t.setSib fun x => { x with admitAt := Sparse.put none x.admitAt p.val (some t.now) }).weirStage (0x10 + p.val))) ∧
     (¬ admits → runs (.autoRejoinAdmission p ns) t))

/-! ### Commit groups -/

/-- R73, R75, R76, R83, R84: a group opens empty where it is Free, else 0x1C; arming is refused with a code or proposes a boundary; an
Open group aborts at once, one armed or agreed tells its siblings; a staged Basin word and a staged register go into the selected group,
with none selected 0x10, on a locked page 0x0F; the configuration of an Open group is written. R79, R82, R85: at its boundary a group
applies with every other group due, an Applying group goes on when no other requester locks its banks, outcomes are compared.
The model's choices it rests on: a command with an instant acts inside its tick (assumption 7), where a refusal puts its DETAIL (71),
R84's choices (84), repetitions of outcomes (85), an edge waits for an Applying group (88). -/
def Obligations.CommitGroups : Prop :=
  ∀ (s : State) (g : Fin 16) (v : Word) (adr : BitVec 18),
    let runs := fun (i : Instr) (t : State) => exec i s = .next (t.queueOf s)
    (s.hostMay 8 = true →
      ((s.group g.val).state = 0 → s.mayOpen = true →
        runs (.txnOpen g) (s.setGroup g.val fun x => { x.newUse with
          state := 1, entries := [], refused := false, host := false, weir := false, result := 0, hash := 0, bound := 0, sibVote := [] }) ∧
        (Sparse.wf (fun _ => ({} : Group)) s.txn = true → ∃ t, exec (.txnOpen g) s = .next t ∧ (t.group g.val).state = 1 ∧
          (t.group g.val).entries = [] ∧ t.regs = s.regs ∧ t.basin = s.basin ∧ ∀ h, h ≠ g.val → t.group h = s.group h)) ∧
      (((s.group g.val).state ≠ 0 ∨ s.mayOpen = false) → runs (.txnOpen g) (s.refuse 0x08 0x1C g.val)) ∧
      (∀ c, s.armRefusal g.val = some c → runs (.txnArm g) (s.refuse 0x08 c g.val)) ∧
      (s.armRefusal g.val = none → runs (.txnArm g) ((s.armNow g.val).immediate g.val)) ∧
      (let x := s.group g.val
       let armed := x.state = 2 ∨ x.state = 3
       let voted := Sparse.at false x.sibVote 0 || Sparse.at false x.sibVote 1
       (x.state = 1 → runs (.txnAbort g) (s.abortGroup g.val 2)) ∧
       (armed → s.noHashes = true → runs (.txnAbort g) (s.abortGroup g.val 2)) ∧
       (armed → s.noHashes = false → runs (.txnAbort g) ((s.sendBoth 3 (groupRef g.val 1 (s.boundTime g.val)) true
         (s.hashPayload x.hash)).abortGroup g.val (if voted then 7 else 2))) ∧
       ((x.state = 0 ∨ 4 ≤ x.state) → exec (.txnAbort g) s = .next s)) ∧
      (s.flag (.TXN_SEL_EN 8) = true → runs (.txnStageDataWrite v)
        (s.stage (s.fld (.TXN_SEL_GROUP 8)) ⟨true, s.fld .TXN_STAGE_ADDR_WADDR⟩ v true 8).1) ∧
      (s.flag (.TXN_SEL_EN 8) = false → runs (.txnStageDataWrite v) (s.refuse 8 0x10 (s.fld .TXN_STAGE_ADDR_WADDR))) ∧
      (let h := bitsOf v.toNat 19 16
       let chained := (s.group h).state = 2 ∨ (s.group h).state = 3
       ((s.group g.val).state ≠ 1 → exec (.txnGrpCfgWrite g v) s = .next s) ∧
       ((s.group g.val).state = 1 → v.getLsbD 20 = true → ¬ chained → runs (.txnGrpCfgWrite g v) (s.refuse 0x08 0x19 h)) ∧
       ((s.group g.val).state = 1 → (v.getLsbD 20 = false ∨ chained) → runs (.txnGrpCfgWrite g v)
         (s.store (· == .rw) (0x8080 + 4 * g.val) v)))) ∧
    (s.awake = true →
      (let a := adr.toNat
       let p := a / 0x1000
       let takes := a % 4 = 0 ∧ hasAcc .rws a = true ∧ s.domainOff (pageDomain p) = false
       (takes → s.locked p = false → s.flag (.TXN_SEL_EN p) = true → runs (.rwsWrite adr v)
         (s.stage (s.fld (.TXN_SEL_GROUP p)) ⟨false, a⟩ v true p).1) ∧
       (takes → s.locked p = false → s.flag (.TXN_SEL_EN p) = false → runs (.rwsWrite adr v) (s.refuse p 0x10 a)) ∧
       (takes → s.locked p = true → s.flag (.TXN_SEL_EN p) = true → runs (.rwsWrite adr v)
         ((s.refuse p 0x0F a).setGroup (s.fld (.TXN_SEL_GROUP p)) fun x => { x with refused := true })) ∧
       (takes → s.locked p = true → s.flag (.TXN_SEL_EN p) = false → runs (.rwsWrite adr v) (s.refuse p 0x0F a)) ∧
       (¬ takes → exec (.rwsWrite adr v) s = .next s)) ∧
      (let t := (if s.groupDue g.val (s.time.edge - 1) then s.at (s.group g.val).bound else s).stoppedSlots
       (t.groupDue g.val t.now = true → runs (.groupBoundary g) t.dueGroups) ∧
       (t.groupDue g.val t.now = false → runs (.groupBoundary g) t)) ∧
      ((s.group g.val).state = 4 →
        let t := s.takeBanks (s.group g.val).entries
        (t.applyWaits (s.group g.val).entries = true → t.applying = true → runs (.groupApply g) t) ∧
        (t.applyWaits (s.group g.val).entries = false → (t.finishApply g.val).applying = true →
          runs (.groupApply g) (t.finishApply g.val)) ∧
        (t.applyWaits (s.group g.val).entries = false → (t.finishApply g.val).applying = false →
          runs (.groupApply g) (t.finishApply g.val).endEdge)) ∧
      ((s.group g.val).state ≠ 4 → s.applying = true → exec (.groupApply g) s = .next s) ∧
      ((s.group g.val).outcome = none → exec (.outcomeCompare g) s = .next s) ∧
      (∀ own, (s.group g.val).outcome = some own →
        let all := (s.heldOutcomes g.val false).length = s.votingSibs.length
        ((s.group g.val).compared = false → all → runs (.outcomeCompare g)
          ((s.judgeOutcomes g.val own false).setGroup g.val fun y => { y.retire with compared := true })) ∧
        (((s.group g.val).compared = true ∨ ¬ all) → exec (.outcomeCompare g) s = .next s)) ∧
      ((s.group g.val).reps = 0 → runs (.outcomeRepeatEnd g)
        ((s.compareOutcomes g.val true).setGroup g.val fun x => { x with outcome := none })) ∧
      ((s.group g.val).reps ≠ 0 → exec (.outcomeRepeatEnd g) s = .next s))

/-! ### The Basin's arbiter, the monitors -/

/-- R112: each bank grants to the requester of lowest rank number; among requesters of equal rank to the first requester number after
the last one granted at that rank on that bank, in cyclic order 0 to 11. A rank write moves no pointer. Nothing is granted where no unmasked requester competes. -/
def Obligations.ArbiterGrants : Prop :=
  ∀ (s : State) (b : Nat),
    (s.granted b = none ↔ s.competing b = []) ∧
    (∀ r, s.granted b = some r →
      r ∈ s.competing b ∧ (∀ q, q ∈ s.competing b → s.rankOf r ≤ s.rankOf q) ∧
      ∀ q, q ∈ s.competing b → s.rankOf q = s.rankOf r →
        (r + 12 - Sparse.at 0 s.bsn.pointers (8 * b + s.rankOf r) % 12) % 12 ≤
          (q + 12 - Sparse.at 0 s.bsn.pointers (8 * b + s.rankOf r) % 12) % 12) ∧
    ∀ (i : Fin 2) (v : Word), ∃ t, exec (.bsnRankWrite i v) s = .next t ∧ t.bsn = s.bsn

/-- R110, R112 to R117, R90: a request waits, and wakes what it needs; the granted requester's request goes and the pointer of its rank
alone moves to it, a request for a lock with the lock; a lock is asked for only above the banks already locked (0x40), decided by rank,
and released; a 65th beat is refused (0x41); the watchdog breaks a lock with an E2 against its owner; a masked requester's requests are
dropped; the scrub reads the next beat in a cycle that no requester takes, or when it has waited 65,536 cycles. -/
def Obligations.BankRequestsAndLocks : Prop :=
  ∀ (s : State) (b : Fin 16) (r : Fin 12), s.awake = true →
    let runs := fun (i : Instr) (t : State) => exec i s = .next (t.queueOf s)
    let same := fun (i : Instr) => exec i s = .next s
    let below := ∀ c : Nat, b.val < c → c < 16 → ∀ l, s.lockOf c = some l → l.owner ≠ r.val
    let free := s.setLock b.val none
    (s.masked r.val = false → ∀ e, runs (.basinRequest b (some r) e) ((s.wakeBank b.val r.val).setBsn fun x =>
      { x with waiting := addOnce x.waiting (b.val, r.val) })) ∧
    (s.masked r.val = true → ∀ e, same (.basinRequest b (some r) e)) ∧
    (∀ e, s.scrubFirst b.val = true → same (.basinRequest b none e)) ∧
    (∀ e, s.scrubFirst b.val = false → s.granted b.val = none → runs (.basinRequest b none e)
      (s.scrubWaits b.val (s.lockOf b.val).isSome)) ∧
    (∀ q e, s.scrubFirst b.val = false → s.granted b.val = some q →
      let t := s.setBsn fun x => { x with
        waiting := x.waiting.filter fun w => w != (b.val, q), lockAsks := x.lockAsks.filter fun w => w != (b.val, q),
        pointers := Sparse.put 0 x.pointers (8 * b.val + s.rankOf q) (q + 1) }
      let done := fun (t : State) => runs (.basinRequest b none e)
        ((t.scrubWaits b.val true).readFinds q (e.map fun e => (e.1, b.val * 0x100000 + e.2.toNat)))
      (s.bsn.lockAsks.contains (b.val, q) = true → runs (.basinRequest b none e) ((t.setLock b.val (some ⟨q, 0⟩)).scrubWaits b.val true)) ∧
      (s.bsn.lockAsks.contains (b.val, q) = false →
        (s.lockOf b.val = none → done t) ∧
        (∀ l, s.lockOf b.val = some l → l.beats < 64 → done (t.setLock b.val (some { l with beats := l.beats + 1 }))) ∧
        (∀ l, s.lockOf b.val = some l → 64 ≤ l.beats → done ((t.setLock b.val none).refuse 0x09 0x41 b.val)))) ∧
    (s.masked r.val = true → same (.basinLockAcquire r b)) ∧
    (s.masked r.val = false → ¬ below → runs (.basinLockAcquire r b) (s.refuse 0x09 0x40 b.val)) ∧
    (s.masked r.val = false → below →
      let t := (s.wakeBank b.val r.val).setBsn fun x =>
        { x with waiting := addOnce x.waiting (b.val, r.val), lockAsks := addOnce x.lockAsks (b.val, r.val) }
      let now := t.scrubFirst b.val = false ∧ t.granted b.val = some r.val
      (s.lockOf b.val = none → now → runs (.basinLockAcquire r b) ((t.grant b.val r.val).scrubWaits b.val true)) ∧
      (s.lockOf b.val = none → ¬ now → runs (.basinLockAcquire r b) t) ∧
      (∀ l, s.lockOf b.val = some l → l.owner ≠ r.val → runs (.basinLockAcquire r b) t) ∧
      (∀ l, s.lockOf b.val = some l → l.owner = r.val → same (.basinLockAcquire r b))) ∧
    (∀ ask, (s.lockOf b.val = none → same (.basinLockRelease r b ask)) ∧
      ∀ l, s.lockOf b.val = some l →
        (l.owner ≠ r.val → same (.basinLockRelease r b ask)) ∧
        (l.owner = r.val → (ask = false ∨ l.beats < 64) → runs (.basinLockRelease r b ask) free) ∧
        (l.owner = r.val → ask = true → 64 ≤ l.beats → runs (.basinLockRelease r b ask) (free.refuse 0x09 0x41 b.val))) ∧
    (∀ l, s.lockOf b.val = some l → runs (.lockWatchdogExpiry b)
      (((free.put .WIR_LOCK_FAULT_BANK b.val).put .WIR_LOCK_FAULT_OWNER l.owner).raise 2 (reqSource l.owner).1
        (reqSource l.owner).2 0xE0 (b.val * 0x10000 + l.owner))) ∧
    (s.lockOf b.val = none → same (.lockWatchdogExpiry b)) ∧
    (s.masked r.val = true → runs (.requesterMask r) (s.setBsn fun x => { x with
      waiting := x.waiting.filter fun w => w.2 != r.val, lockAsks := x.lockAsks.filter fun w => w.2 != r.val })) ∧
    (s.masked r.val = false → same (.requesterMask r)) ∧
    (∀ (i : Fin 2) (v : Word), s.hostMay 9 = true → runs (.bsnRankWrite i v) (s.store (· == .rw) (0x9040 + 4 * i.val) v)) ∧
    (let beat := Sparse.at 0 s.bsn.scrub b.val
     let t := (s.scrubWaits b.val false).setBsn fun x => { x with scrub := Sparse.put 0 x.scrub b.val (beat + 1),
                                                                  scrubStart := if x.scrub = [] then s.now else x.scrubStart }
     let addr := fun (k : Fin 8) => b.val * 0x100000 + 8 * beat + k.val
     (∀ found, (s.scrubMay b.val = false ∨ bankBeats ≤ beat) → same (.basinScrub b found)) ∧
     (s.scrubMay b.val = true → beat < bankBeats →
       runs (.basinScrub b none) t.scrubPass ∧
       (∀ k, runs (.basinScrub b (some (false, k))) (t.eccFind 0x09 b.val false (addr k)).scrubPass) ∧
       ∀ k, runs (.basinScrub b (some (true, k))) ((((t.putB .WIR_ST_STAT_SCRUB_UE true).setBsn fun x =>
         { x with scrubBad := true }).eccFind 0x09 b.val true (addr k)).scrubPass)))

/-- R119, R121: one page's monitor data are copied and cleared, a write of MON_SEL clears them; MON_ALL acts on every page, with PTP time
kept; an armed snapshot is taken at its time, one whose time has passed at once. A page whose domain is off takes no command (R9).
The model's choices it rests on: a command with an instant acts inside its tick (assumption 7). -/
def Obligations.Monitors : Prop :=
  ∀ (s : State) (p : Fin 50) (v : Word), s.awake = true →
    (s.domainOff (pageDomain p.val) = false →
      let live := fun (t : State) => { t with monLive := Sparse.put {} t.monLive p.val {} }
      exec (.monSnap p) s = .next { s with monSnap := Sparse.put {} s.monSnap p.val (Sparse.at {} s.monLive p.val) } ∧
      exec (.monClr p) s = .next (live s) ∧
      exec (.monSelWrite p v) s = .next ((live (s.store (· == .rw) (0x1000 * p.val + 0x24) v)).queueOf s)) ∧
    (s.domainOff (pageDomain p.val) = true →
      exec (.monSnap p) s = .next s ∧ exec (.monClr p) s = .next s ∧ exec (.monSelWrite p v) s = .next s) ∧
    (s.hostMay 0x30 = true →
      exec .monAllSnap s = .next ({ s with monSnap := s.monLive }.put64 0x30050 0x30054 s.now) ∧
      exec .monAllClr s = .next { s with monLive := [] } ∧
      (s.now < s.snapAt → exec .monAllArm s = .next { s with monArmed := true }) ∧
      (s.snapAt ≤ s.now → exec .monAllArm s = .next ({ s with monSnap := s.monLive }.put64 0x30050 0x30054 s.now))) ∧
    (let t := s.at s.snapAt
     (s.monArmed = true → s.snapAt ≤ t.now → exec .monArmedSnapshot s = .next
       ({ t with monArmed := false, monSnap := s.monLive }.put64 0x30050 0x30054 t.now)) ∧
     ((s.monArmed = false ∨ t.now < s.snapAt) → exec .monArmedSnapshot s = .next s))

/-! ### Ticks -/

/-- R11, R12, R79, R187, R246, R353, R15: the base tick works at its edge: the groups due, then the station cycle, the samples, the
outputs, the frames, and last the clock's adjustment, after which the next edge is the one that follows the adjusted time; where a group
waits for a locked bank, the rest waits; a station cycle start is worked once; the snapshot once a cycle, after the groups due at its
instant, and context 0 triggered by it. A command with an instant moves the time to it where it lies before the next edge.
The model's choices it rests on: the order of the blocks at an edge (assumption 10), an instant inside its tick (7), context 0 alone
triggered by the snapshot (10), an edge waits for an Applying group (88). -/
def Obligations.Ticks : Prop :=
  ∀ (s : State) (sense : List (Nat × Nat × Nat)), s.awake = true →
    (∀ ns, (s.inTick ns = true → s.at ns = s.moved ns) ∧ (s.inTick ns = false → s.at ns = s)) ∧
    (s.time.running = true →
      let e := s.endEdge
      let t := (e.setTime fun x => { x with ns := x.edge }).dueGroups
      let rest := fun (t : State) => (((t.edgeInputs sense).edgeWork (tickOf t.time.edge)).edgeFrames (e.slot 2)).adjustClock
      (t.applying = false → exec (.baseTick sense) s = .next ((rest t).queueOf s)) ∧
      (t.applying = true → exec (.baseTick sense) s = .next
        ((t.setTime fun x => { x with held := some (sense, e.slot 2) }).queueOf s)) ∧
      (t.applying = false → ∃ u, exec (.baseTick sense) s = .next u ∧ u.time.edge % 250000 = 0 ∧ u.now < u.time.edge ∧
        u.time.step = none ∧ u.sib.phaseAdj = 0) ∧
      (t.cycleDue = true → t.applying = false → exec .stationCycleStart s = .next (t.cycleEdge.queueOf s)) ∧
      (t.cycleDue = true → t.applying = true → exec .stationCycleStart s = .next (t.queueOf s)) ∧
      (t.cycleDue = false → exec .stationCycleStart s = .next s)) ∧
    (s.time.running = false → exec (.baseTick sense) s = .next s ∧ exec .stationCycleStart s = .next s) ∧
    (let c := s.cycleStart
     let t := (s.at (c + s.snapOffset)).dueGroups
     let u := (t.snapshot.lightIntegral).setStn fun x => { x with snapAt := c + t.snapOffset }
     let due := t.time.running = true ∧ t.now = c + t.snapOffset ∧ t.stn.snapAt ≠ c + t.snapOffset
     (due → u.fld (.SLV_CTX_CFG_TRIG 0) = 1 → exec .snapshotInstant s = .next ((u.trigger 0).queueOf s)) ∧
     (due → u.fld (.SLV_CTX_CFG_TRIG 0) ≠ 1 → exec .snapshotInstant s = .next (u.queueOf s)) ∧
     (¬ due → exec .snapshotInstant s = .next (t.queueOf s)))

/-! ### The scan cycle and the vote -/

/-- R54, R209, R210, R212, R441: the cycle's phases. The next cycle starts after phase 6 with the number that follows; cycle 0 with the
siblings' latches; a joiner with a voting sibling's cycle; after an overrun with a later cycle of a sibling. Phase 4 latches, composes and
sends the image; the vote waits for every voting sibling's image or for SIB_CYC_TMO, a start for its wait or SIB_CYC_TMO; an overrun ends
the cycle with its E2; the latch for cycle 0 is taken and sent once.
The model's choices it rests on: assumptions 7, 17, 32 and 95. -/
def Obligations.ScanCycle : Prop :=
  ∀ (s : State) (ns : Nat), s.awake = true →
    let t := s.at ns
    let ph := t.fld .SCN_STAT_PHASE
    let run := t.flag .SCN_STAT_RUN
    let runs := fun (i : Instr) (t : State) => exec i s = .next (t.queueOf s)
    let zero := t.scn.zero = true ∧ ph = 0
    (run = false → runs (.scanCycleStart ns) t) ∧
    (run = true → t.shadowWaits = true →
      let k := t.votingSibs.find? fun k => (t.peer k).complete && (t.peer k).cycle != zeroRef
      (k = none → runs (.scanCycleStart ns) t) ∧
      (∀ m, k = some m → runs (.scanCycleStart ns)
        ((t.shadowView (t.peer m).cycle).startWith (t.peer m).cycle ((t.peer m).cycle + 1) true))) ∧
    (run = true → t.shadowWaits = false → zero →
      (t.zeroLatch.siblingsReady zeroRef = true → runs (.scanCycleStart ns) (t.zeroLatch.startWith zeroRef 0 true)) ∧
      (t.zeroLatch.siblingsReady zeroRef = false → runs (.scanCycleStart ns) t.zeroLatch)) ∧
    (run = true → t.shadowWaits = false → ¬ zero →
      (ph ≠ 6 → runs (.scanCycleStart ns) t) ∧
      (ph = 6 → t.scn.waitAlign = false → runs (.scanCycleStart ns) (t.startWith t.scn.cycle (t.scn.cycle + 1) true)) ∧
      (ph = 6 → t.scn.waitAlign = true →
        (∀ m, t.laterCycle t.scn.overrun = some m → runs (.scanCycleStart ns) (t.startWith m (m + 1) false)) ∧
        (t.laterCycle t.scn.overrun = none → t.alone = true → runs (.scanCycleStart ns) (t.takeLatch.startOwn (t.scn.overrun + 1))) ∧
        (t.laterCycle t.scn.overrun = none → t.alone = false → runs (.scanCycleStart ns) t))) ∧
    (ph = 3 → runs (.phase4 ns) t.phase4) ∧ (ph ≠ 3 → runs (.phase4 ns) t) ∧
    (let held := t.siblingsReady t.scn.cycle = true ∧ t.hashesReady = true
     (ph = 5 → (held ∨ run = false) → runs (.vote ns) t.finishCycle) ∧ (ph ≠ 5 → runs (.vote ns) t) ∧
     (¬ held → run = true → runs (.vote ns) t)) ∧
    (let due := t.scn.imageAt + t.fld .SIB_CYC_TMO * 1000 ≤ t.now
     (¬ due → runs (.cycleImageTimeout ns) t) ∧
     (due → ph = 5 → runs (.cycleImageTimeout ns) t.finishCycle) ∧
     (due → ph ≠ 5 → run = false → runs (.cycleImageTimeout ns) t) ∧
     (due → run = true → zero → t.shadowWaits = false → runs (.cycleImageTimeout ns) (t.zeroLatch.startWith zeroRef 0 true)) ∧
     (due → run = true → t.scn.waitAlign = true → ph = 6 → runs (.cycleImageTimeout ns) (t.takeLatch.startOwn (t.scn.overrun + 1))) ∧
     (due → run = true → ph ≠ 5 → (t.scn.zero = false ∨ ph ≠ 0 ∨ t.shadowWaits = true) → (t.scn.waitAlign = false ∨ ph ≠ 6) →
       runs (.cycleImageTimeout ns) t)) ∧
    (let late := 1 ≤ ph ∧ ph ≤ 5 ∧ t.scn.startAt + t.fld .SCN_CYC_MAX * 1000 < t.now
     (late → runs (.scanCycleOverrun ns) (t.endCycle 1 (min 0xFFFFFF ((t.now - t.scn.startAt) / 1000)))) ∧
     (¬ late → runs (.scanCycleOverrun ns) t)) ∧
    (let due := s.flag .SCN_STAT_RUN = true ∧ s.scn.zero = true ∧ s.fld .SCN_STAT_PHASE = 0 ∧ s.shadowWaits = false
     (due → s.scn.zeroTaken = false →
       let u := s.takeLatch.setScn fun x => { x with zeroTaken := true, imageAt := s.now }
       runs .cycleZeroLatch (u.sendPayloads 1 zeroRef (packRuns u.latchRuns))) ∧
     ((¬ due ∨ s.scn.zeroTaken = true) → exec .cycleZeroLatch s = .next s))

/-- R50, R53, R58, R440: the vote of a word. With three images a word that two of them hold is the voted one, and the position whose word
differs is outvoted; where all differ, or two images differ, the word is undecided and takes its safe value, or its last voted one where no
safety-flagged point holds it; a single image is taken as it is.
The model's choices it rests on: the vote word by word (assumption 16). -/
def Obligations.WordVotes : Prop :=
  ∀ (s : State) (w p q r : Nat) (a b c : Word),
    (a = b → (s.voteWord [(p, a), (q, b), (r, c)] w).value = a ∧ (s.voteWord [(p, a), (q, b), (r, c)] w).split = false) ∧
    (a = c → (s.voteWord [(p, a), (q, b), (r, c)] w).value = a ∧ (s.voteWord [(p, a), (q, b), (r, c)] w).split = false) ∧
    (b = c → (s.voteWord [(p, a), (q, b), (r, c)] w).value = b ∧ (s.voteWord [(p, a), (q, b), (r, c)] w).split = false) ∧
    (a = b → b ≠ c → (s.voteWord [(p, a), (q, b), (r, c)] w).out = r) ∧ (a = c → a ≠ b → (s.voteWord [(p, a), (q, b), (r, c)] w).out = q) ∧
    (b = c → a ≠ b → (s.voteWord [(p, a), (q, b), (r, c)] w).out = p) ∧
    (a = b → b = c → (s.voteWord [(p, a), (q, b), (r, c)] w).out = 0) ∧
    (a ≠ b → b ≠ c → a ≠ c → s.voteWord [(p, a), (q, b), (r, c)] w = ⟨s.splitValue w, 0, true⟩) ∧
    (a ≠ b → s.voteWord [(p, a), (q, b)] w = ⟨s.splitValue w, 0, true⟩) ∧ s.voteWord [(p, a), (q, a)] w = ⟨a, 0, false⟩ ∧
    s.voteWord [(p, a)] w = ⟨a, 0, false⟩ ∧
    (s.safetyPoint w = none → s.splitValue w = Sparse.at 0 s.scn.voted w) ∧ ∀ v, s.safetyPoint w = some v → s.splitValue w = v

/-! ### The solver -/

/-- R13, R138, R139, R157: the order on the fabric. A trigger makes an idle context pending with its start instant and counts an overrun of
a busy one; a free fabric goes to a waiting context of the highest priority, a checkpointed one before a ready one of the same; a ready
one of higher priority preempts.
The model's choices it rests on: which context a free fabric takes among equals (assumption 91). -/
def Obligations.SolverOrder : Prop :=
  ∀ (s : State) (n : Fin 4), s.awake = true →
    let runs := fun (i : Instr) (t : State) => exec i s = .next (t.queueOf s)
    let st := s.ctxState n.val
    (let due := s.fld (.SLV_CTX_CFG_TRIG n.val) = 2 ∧ s.now % (max 1 (s.fld (.SLV_CTX_PERIOD n.val)) * 1000000000) = 0
     (due → runs (.solverTrigger n) (s.trigger n.val)) ∧ (¬ due → exec (.solverTrigger n) s = .next s)) ∧
    (let may := s.flag (.SLV_CTX_CFG_EN n.val) = true ∧ s.loopsMayRun = true ∧ s.mayOpen = true
     ((¬ may ∨ st = 0) → s.trigger n.val = s) ∧
     (may → 2 ≤ st → s.trigger n.val = s.bump (.SLV_CTX_STAT_OVR n.val)) ∧
     (let t := (s.put (.SLV_CTX_STAT_STATE n.val) 2).setCtx n.val fun c => { c with start := s.now }
      let u := { t with slv := { t.slv with ready := t.slv.ready ++ [n.val] } }
      (may → st = 1 → (∀ r, s.slv.running = some r → (u.ctx r).barrier = none) → s.trigger n.val = u) ∧
      (may → st = 1 → ∀ r b, s.slv.running = some r → (u.ctx r).barrier = some b → s.trigger n.val = u.preempt))) ∧
    (let waits := fun k => (k < 4 ∧ s.ctxState k = 4) ∨ (k ∈ s.slv.ready ∧ s.ctxState k = 2)
     ∀ m, s.nextCtx = some m → waits m ∧ (∀ k, waits k → s.fpri m ≤ s.fpri k) ∧
       (s.ctxState m = 2 → ∀ k, k < 4 → s.ctxState k = 4 → s.fpri m < s.fpri k)) ∧
    (s.slv.running = none → s.nextCtx = some n.val →
      (st = 2 → runs (.solverRunStart n) (s.startRun n.val)) ∧ (st = 4 → runs (.contextResume n) (s.resume n.val))) ∧
    ((s.slv.running ≠ none ∨ s.nextCtx ≠ some n.val ∨ st ≠ 2) → exec (.solverRunStart n) s = .next s) ∧
    ((s.slv.running ≠ none ∨ s.nextCtx ≠ some n.val ∨ st ≠ 4) → exec (.contextResume n) s = .next s) ∧
    (let first := s.firstOf s.readyCtx = some n.val
     (∀ r, s.slv.running = some r → first → s.ctxState r = 3 → s.fpri n.val < s.fpri r →
       runs (.contextPreempt n) ((s.checkpoint r).startRun n.val)) ∧
     (∀ r, s.slv.running = some r → (¬ first ∨ s.ctxState r ≠ 3 ∨ s.fpri r ≤ s.fpri n.val) → exec (.contextPreempt n) s = .next s) ∧
     (s.slv.running = none → exec (.contextPreempt n) s = .next s))

/-- R137, R158, R159, R161, R165, R166, R168 to R172, R162: each step of a schedule acts where the running context stands at a step of
its kind, with the run clock brought up to now, and at its end gives way to a ready context of higher priority; anywhere else it does
nothing. A run that is to abort scatters nothing. -/
def Obligations.SolverSteps : Prop :=
  ∀ (s : State) (n : Fin 4), s.awake = true →
    let c := s.runClock n.val
    let does := fun (k : Nat) (i : Instr) (t : State) =>
      (s.atStep n.val k = true → exec i s = .next ((t.stepEnd n.val).queueOf s)) ∧ (s.atStep n.val k = false → exec i s = .next s)
    let tests := fun (k : Nat) (i : Instr) (t : State) =>
      (s.atTest n.val k = true → exec i s = .next ((t.stepEnd n.val).queueOf s)) ∧ (s.atTest n.val k = false → exec i s = .next s)
    does 1 (.gatherStep n) (c.gatherStep n.val) ∧ does 2 (.kernelStep n) (c.kernelStep n.val) ∧
    does 3 (.productStep n) (c.productStep n.val) ∧ does 4 (.factorStep n) (c.factorStep n.val) ∧
    does 5 (.solveStep n) (c.solveStep n.val) ∧ does 6 (.reduceStep n) (c.reduceStep n.val) ∧
    ((c.ctx n.val).abortDue = false → does 8 (.scatterStep n) ((c.scatter n.val).immediate (c.fld (.SLC_GRP_PUB n.val)))) ∧
    ((c.ctx n.val).abortDue = true → does 8 (.scatterStep n) c) ∧
    tests 1 (.residTest n) (c.residTest n.val) ∧ tests 2 (.loopTest n) (c.loopTest n.val) ∧
    tests 3 (.meritTest n) (c.meritTest n.val) ∧ tests 4 (.baddataTest n) (c.badDataTest n.val) ∧
    tests 5 (.infeasTest n) (c.infeasTest n.val) ∧
    ∀ t : State, (t.ctxState n.val = 3 → (t.ctx n.val).abortDue = true → t.stepEnd n.val = t.failRun n.val 6) ∧
      ((t.ctxState n.val ≠ 3 ∨ (t.ctx n.val).abortDue = false) → t.stepEnd n.val = t.preempt)

/-- R169, R170, R171, R174: a LOOP test converges when every RESID passed, ends with the cap at SLC_ITER_CAP, with the deadline at
SLC_DEADLINE, and branches otherwise; a MERIT test keeps the best iterate with its merit; the INFEAS_N-th failure in a row of one step
decides for the scatter with status 4. Where voting siblings take part the decision is staged as a mark, else it is taken at once.
The model's choices it rests on: the order of the tests at a LOOP, the barrier of an INFEAS test (assumption 28). -/
def Obligations.SolverTests : Prop :=
  ∀ (s : State) (n : Fin 4),
    let c := s.ctx n.val
    let total := s.totalIter n.val + 1
    let after := fun (d : Nat) => (((s.put (.SLC_ITER_TOTAL n.val) total).setCtx n.val fun x =>
      { x with iter := x.iter + 1, longest := max x.longest (c.clock - c.iterAt), iterAt := x.clock, residOk := true }).sample 0x0B 1 n.val
      (c.clock - c.iterAt)).decision n.val d
    (c.residOk = true → s.loopTest n.val = after 1) ∧
    (c.residOk = false → c.iter + 1 = s.fld (.SLC_ITER_CAP n.val) → s.loopTest n.val = after 2) ∧
    (c.residOk = false → c.iter + 1 ≠ s.fld (.SLC_ITER_CAP n.val) → s.fld (.SLC_DEADLINE_US n.val) ≤ c.clock → s.loopTest n.val = after 3) ∧
    (c.residOk = false → c.iter + 1 ≠ s.fld (.SLC_ITER_CAP n.val) → c.clock < s.fld (.SLC_DEADLINE_US n.val) → s.loopTest n.val = after 0) ∧
    (∀ (t : State) (d : Nat), ((t.voting = false ∨ t.alone = true ∨ t.barrierSibs n.val = []) → t.decision n.val d = t.takeDecision n.val d) ∧
      (t.voting = true → t.alone = false → t.barrierSibs n.val ≠ [] → t.decision n.val d = t.stageMark n.val d)) ∧
    (let t := s.setCtx n.val fun x => { x with barrier := none }
     let ends := fun (k : Nat) => (t.setCtx n.val fun x => { x with status := k, solved := k }).nextStep n.val
     s.takeDecision n.val 0 = (t.setCtx n.val fun x => { x with step := (t.stepNow n.val).param % 16384 }) ∧
     s.takeDecision n.val 1 = ends 1 ∧ s.takeDecision n.val 2 = ends 2 ∧ s.takeDecision n.val 3 = t.toScatter n.val 3 ∧
     s.takeDecision n.val 4 = t.toScatter n.val 4) ∧
    (∀ m : Word, (∀ a, s.opnd n.val (s.stepNow n.val).opa = some a → m = engVal (a.val 0) 0x3F800000 (a.cls 0)) →
      (s.opnd n.val (s.stepNow n.val).opa = none → m = 0) →
      ((c.best = none ∨ flt m c.bestMerit = true) → s.meritTest n.val = (((s.setCtx n.val fun x =>
        { x with merit := m, best := some (s.resultVals n.val), bestMerit := m, bestResid := x.resid, bestIter := total }).put
          (.SLC_ITER_BEST n.val) total).nextStep n.val)) ∧
      (c.best ≠ none → flt m c.bestMerit = false → s.meritTest n.val = ((s.setCtx n.val fun x => { x with merit := m }).nextStep n.val))) ∧
    (let bad := fle (w32 (s.fld (.SLC_TOL (8 * n.val + (s.stepNow n.val).param % 8)))) (s.rhoStep n.val)
     let count := fun (k : Nat) => s.setCtx n.val fun x => { x with infeas := Sparse.put 0 x.infeas c.step k }
     let k := Sparse.at 0 c.infeas c.step + 1
     (bad = true → max 1 (s.fld .SLC_INFEAS_N) ≤ k → s.infeasTest n.val = (count k).decision n.val 4) ∧
     (bad = true → k < max 1 (s.fld .SLC_INFEAS_N) → s.infeasTest n.val = (count k).nextStep n.val) ∧
     (bad = false → s.infeasTest n.val = (count 0).nextStep n.val))

/-- R174, R175, R176, R201, R203, R205: agreed marks release a barrier; unagreed ones replace continue by deadline and re-solve by accept;
the end of the wait: alone with one voting sibling the run ends, a member with which none agrees raises the E3, a missing sibling is
dropped; a generator whose samples have been given, a capture unit whose entries have been recorded and a full saturation window end.
The model's choices it rests on: assumptions 28, 61, 78 and 93. -/
def Obligations.BarriersAndEnds : Prop :=
  ∀ (s : State) (n : Fin 4) (g : Fin 8) (l : Fin 512), s.awake = true →
    let runs := fun (i : Instr) (t : State) => exec i s = .next (t.queueOf s)
    let c := s.runClock n.val
    (∀ b, (s.ctx n.val).barrier = some b →
      (s.marksAgree n.val = true → runs (.barrierAgreed n) ((c.leaveBarrier n.val).stepEnd n.val)) ∧
      (s.marksAgree n.val = false → exec (.barrierAgreed n) s = .next s)) ∧
    ((s.ctx n.val).barrier = none → exec (.barrierAgreed n) s = .next s) ∧
    ((c.ctx n.val).barrier = none → runs (.barrierTimeout n) c ∧ runs (.syncWaitExpiry n) (c.stepEnd n.val)) ∧
    (∀ b, (c.ctx n.val).barrier = some b →
      (let t := ((c.abortGroup (c.fld (.SLC_GRP_SYNC n.val)) 2).bump (.SLC_SYNC_STAT_SPLIT n.val)).setCtx n.val fun x =>
         { x with flags := x.flags ||| 16 }
       (c.marksAgree n.val = false → b.decision = 0 → runs (.barrierTimeout n) (t.stageMark n.val 3)) ∧
       (c.marksAgree n.val = false → b.decision = 5 → runs (.barrierTimeout n) (t.stageMark n.val 6)) ∧
       ((c.marksAgree n.val = true ∨ (b.decision ≠ 0 ∧ b.decision ≠ 5)) → runs (.barrierTimeout n) c)) ∧
      (c.marksAgree n.val = true → runs (.syncWaitExpiry n) ((c.leaveBarrier n.val).stepEnd n.val)) ∧
      (c.marksAgree n.val = false → c.votingSibs.length = 1 → runs (.syncWaitExpiry n)
        (((c.failRun n.val 6).raise 2 0x0A n.val 0x0C b.decision).stepEnd n.val)) ∧
      (c.marksAgree n.val = false → c.votingSibs.length ≠ 1 →
        let grp := c.group (c.fld (.SLC_GRP_SYNC n.val))
        (∀ k ∈ c.barrierSibs n.val, ∀ h, Sparse.at none grp.sibHash k = some h → h.1 ≠ grp.hash) →
          runs (.syncWaitExpiry n) ((c.raise 3 0x0A n.val 0x0B (c.totalIter n.val)).stepEnd n.val)) ∧
      runs (.syncWaitExpiry n) ((c.syncExpiry n.val).stepEnd n.val)) ∧
    (let ends := (0 < s.genWord g.val 4 ∧ s.genWord g.val 4 ≤ (s.gen g.val).k) ∨
       (s.genWord g.val 4 = 0 ∧ s.flag (.LOP_TEST_RUN g.val) = false)
     (ends → (s.gen g.val).on = true → runs (.testGeneratorEnd g) (((s.setGen g.val { s.gen g.val with on := false }).putB
       (.LOP_TEST_STAT_DONE g.val) true).putB (.LOP_TEST_RUN g.val) false)) ∧
     ((¬ ends ∨ (s.gen g.val).on = false) → exec (.testGeneratorEnd g) s = .next s)) ∧
    (let full := (s.capture n.val).state = 3 ∧ s.capTotal n.val - s.capPre n.val ≤ (s.capture n.val).post
     (full → runs (.captureDone n) (s.endCapture n.val 4).discardEvents) ∧ (¬ full → exec (.captureDone n) s = .next s)) ∧
    (let x := s.slotOf l.val
     let size := max 15 (bitsOf (s.slotCfg l.val 0x2C).toNat 31 16) + 1
     (size ≤ x.satN → runs (.saturationWindowEnd l) (s.satWindowEnd l.val x.satCnt size)) ∧
     (x.satN < size → exec (.saturationWindowEnd l) s = .next s))

/-! ### Stations, feeders and quantities -/

/-- R234 to R248: a datagram at STN_PORT is judged as a measurement or join frame whichever row brings it; a stopped manager, and a MAC of
no station ring, change nothing; a datagram shorter than its header counts as another, one with a wrong CRC as such; the command build of
a station cycle comes after the groups due, waits for the vote of its tick, or runs at its instant.
The model's choices it rests on: an instant inside its tick (assumption 7), the length of a Join (96). -/
def Obligations.StationFrames : Prop :=
  ∀ (s : State) (mac : Fin 8) (src : BitVec 48) (ip : Word) (d : List Byte), s.awake = true →
    let runs := fun (i : Instr) (t : State) => exec i s = .next (t.queueOf s)
    let both := fun (t : State) => runs (.measurementFrame mac src ip d) t ∧ runs (.joinFrame mac src ip d) t
    let b := s.cycleStart + s.fld .STN_TIMING_BUILD_US * 1000
    let t := (s.at b).dueGroups
    let heard := s.flag .STN_CTRL_EN = true ∧ 2 ≤ mac.val ∧ mac.val ≤ 5
    both (s.stationFrame mac.val src.toNat ip.toNat d) ∧
    (¬ heard → both s) ∧
    (heard → d.length < 32 → both (s.bump .STN_RX_OTHER)) ∧
    (heard → 32 ≤ d.length → fieldAt d 0x16 2 ≤ 1432 → (byteAt d 0x14 = 2 → fieldAt d 0x16 2 = 20) →
      d.length = 32 + fieldAt d 0x16 2 + (if bitOf (byteAt d 0x15) 3 then 8 else 0) →
      wordAt d 0x1C ≠ crc32 (d.take 0x1C ++ (d.take (32 + fieldAt d 0x16 2)).drop 32) → both (s.bump .STN_RX_CRC)) ∧
    ((t.flag .STN_CTRL_EN = false ∨ t.now < b) → runs .commandBuild t) ∧
    (t.flag .STN_CTRL_EN = true → b ≤ t.now →
      (t.buildWaits (tickOf b) = true → runs .commandBuild (t.setStn fun x => { x with build := some (tickOf b) })) ∧
      (t.buildWaits (tickOf b) = false → runs .commandBuild (t.buildCommands (tickOf b))))

/-- R265, R266, R272, R275, R283, R284: a voltage input's crossing, less than 12.5 ms after the last accepted one ignored; its timeout; the
fixed window; the triggers of the load-shed stages, which raise the level once; the blackout, whose DETAIL is the absence in ms and which
raises the level to 8.
The model's choices it rests on: assumptions 7, 11, 63 and 97. -/
def Obligations.FeederEvents : Prop :=
  ∀ (s : State) (i : Fin 4) (g : Fin 8) (ns : Nat), s.awake = true →
    let runs := fun (i : Instr) (t : State) => exec i s = .next (t.queueOf s)
    let t := s.at ns
    (s.crossingNow i.val = none → exec (.zeroCrossing i) s = .next s) ∧
    (∀ c, s.crossingNow i.val = some c →
      let u := s.setNrg fun x => { x with armed := x.armed.filter (· != i.val) }
      (Sparse.at none s.nrg.crossed i.val = none → runs (.zeroCrossing i) (u.acceptCrossing i.val c)) ∧
      (∀ l, Sparse.at none s.nrg.crossed i.val = some l →
        (c < l + 12500000 → runs (.zeroCrossing i) u) ∧ (l + 12500000 ≤ c → runs (.zeroCrossing i) (u.acceptCrossing i.val c)))) ∧
    (t.absentAt i.val ≤ t.now → runs (.zeroCrossingTimeout i ns) (t.voltageAbsent i.val)) ∧
    (t.now < t.absentAt i.val → runs (.zeroCrossingTimeout i ns) t) ∧
    (let e := s.nrg.winStart + 20000000
     let w := s.at e
     (w.nrg.fixed = true → e ≤ w.now → runs .fixedWindowEnd ((w.windowEnd e true).overWindow e false)) ∧
     ((w.nrg.fixed = false ∨ w.now < e) → exec .fixedWindowEnd s = .next s)) ∧
    (let stage := fun (i : Instr) (holds : Bool) (kind : Nat) =>
       let on := s.stageOn g.val = true ∧ holds = true ∧ s.shedLevel < g.val + 1
       (on → runs i ((s.shedRise (g.val + 1) kind s.lastCrossing).raise 0 0x10 (g.val + 1) 1 (kind * 256 + (g.val + 1)))) ∧
       (¬ on → exec i s = .next s)
     stage (.underfrequency g) (s.underHolds g.val) 1 ∧ stage (.feederOverload g) (s.overHolds g.val) 4) ∧
    (let out := t.flag .PMS_CTRL_EN = true ∧ t.fsrcAbsent = true ∧ t.flag .PMS_LEVEL_BLACKOUT = false ∧
       t.pms.absentFrom + t.fld .PMS_RESTORE_BLACKOUT_T * 1000000 ≤ t.now
     let u := t.putB .PMS_LEVEL_BLACKOUT true
     let ms := fun (u : State) => min 0xFFFFFF ((u.now - u.pms.absentFrom) / 1000000)
     (out → u.shedLevel < 8 → runs (.blackout ns) ((u.shedRise 8 0 u.now).raise 1 0x10 0 3 (ms (u.shedRise 8 0 u.now)))) ∧
     (out → 8 ≤ u.shedLevel → runs (.blackout ns) (u.raise 1 0x10 0 3 (ms u))) ∧
     (¬ out → runs (.blackout ns) t))

/-- R289 to R298, R406: the energy interval ends at a multiple of NRG_INT; the periodic save, once an interval; a power failure saves and
freezes, a dip leaves its bit and event; the Spring's pulse counter counts an enabled input's edge of its sense, forward or in reverse, and
keeps its level; a pulse output ends at its time.
The model's choices it rests on: assumptions 11 and 100. -/
def Obligations.QuantityEvents : Prop :=
  ∀ (s : State) (i : Fin 8) (o : Fin 4) (us : Nat) (whole closed : Bool),
    let runs := fun (i : Instr) (t : State) => exec i s = .next (t.queueOf s)
    (s.awake = true →
      let due := s.now % (max 60 (s.fld .NRG_INT_S) * 1000000000) = 0
      let saves := s.flag .NRG_CTRL_SAVE_EN = true ∧ s.rsv.frozen = false ∧
        ∀ t, s.rsv.savedAt = some t → t + s.savePeriod * 1000000000 ≤ s.now
      let ends := s.nrg.outHigh.contains o.val = true ∧ Sparse.at 0 s.nrg.outEnd o.val ≤ s.now
      (due → runs .energyInterval s.energyInterval.dropCheck) ∧ (¬ due → exec .energyInterval s = .next s) ∧
      (saves → runs .periodicSave (s.saveSlot 1 true)) ∧ (¬ saves → exec .periodicSave s = .next s) ∧
      (ends → runs (.pulseOutputEnd o) (s.setNrg fun n => { n with outHigh := n.outHigh.filter (· != o.val) })) ∧
      (¬ ends → exec (.pulseOutputEnd o) s = .next s)) ∧
    (let t := s.finalCommit whole us
     (s.mode ≠ .sleep → s.mainOn = true → s.rsv.frozen = false →
       runs (.powerFailDetect whole false us) ({ t with rsv := { t.rsv with frozen := true } }.putB .PWR_SUP_PF true) ∧
       (t.awake = true → runs (.powerFailDetect whole true us) ((t.putB .NRG_SLOT_STAT_PF_DIP true).raise 0 0x11 0 5 0)) ∧
       (t.awake = false → runs (.powerFailDetect whole true us) (t.putB .NRG_SLOT_STAT_PF_DIP true))) ∧
     ((s.mode = .sleep ∨ s.mainOn = false ∨ s.rsv.frozen = true) → ∀ dip, exec (.powerFailDetect whole dip us) s = .next s)) ∧
    (let w := s.fld .PLS_SPC_STAT_CLOSED
     let t := s.put .PLS_SPC_STAT_CLOSED (if closed then w ||| 2 ^ i.val else w - (if bitOf w i.val then 2 ^ i.val else 0))
     let counts := t.flag (.PLS_SPC_CFG_EN i.val) = true ∧ bitOf w i.val ≠ closed ∧ closed ≠ t.flag (.PLS_SPC_CFG_EDGE i.val)
     let back := t.flag (.PLS_SPC_CFG_DIR_EN i.val) = true ∧ bitOf (t.fld .PLS_SPC_STAT_CLOSED) (t.fld (.PLS_SPC_CFG_DIR_SRC i.val)) = true
     let count := fun (f : Fd) => runs (.springPulseCount i closed) (t.put f (t.fld f + 1))
     (counts → back → count (.PLS_SPC_REV_COUNT i.val)) ∧ (counts → ¬ back → count (.PLS_SPC_FWD_COUNT i.val)) ∧
     (¬ counts → runs (.springPulseCount i closed) t)) ∧
    (s.regsWf = true → ∃ t, exec (.springPulseCount i closed) s = .next t ∧ bitOf (t.fld .PLS_SPC_STAT_CLOSED) i.val = closed ∧
      t.basin = s.basin ∧
      let counts := s.flag (.PLS_SPC_CFG_EN i.val) = true ∧ bitOf (s.fld .PLS_SPC_STAT_CLOSED) i.val ≠ closed ∧
        closed ≠ s.flag (.PLS_SPC_CFG_EDGE i.val)
      let back := s.flag (.PLS_SPC_CFG_DIR_EN i.val) = true ∧ bitOf (t.fld .PLS_SPC_STAT_CLOSED) (s.fld (.PLS_SPC_CFG_DIR_SRC i.val)) = true
      (¬ counts → ∀ k : Fin 8, t.fld (.PLS_SPC_FWD_COUNT k.val) = s.fld (.PLS_SPC_FWD_COUNT k.val) ∧
        t.fld (.PLS_SPC_REV_COUNT k.val) = s.fld (.PLS_SPC_REV_COUNT k.val)) ∧
      (counts → ¬ back → t.fld (.PLS_SPC_FWD_COUNT i.val) = (s.fld (.PLS_SPC_FWD_COUNT i.val) + 1) % 2 ^ 32 ∧
        t.fld (.PLS_SPC_REV_COUNT i.val) = s.fld (.PLS_SPC_REV_COUNT i.val)) ∧
      (counts → back → t.fld (.PLS_SPC_REV_COUNT i.val) = (s.fld (.PLS_SPC_REV_COUNT i.val) + 1) % 2 ^ 32 ∧
        t.fld (.PLS_SPC_FWD_COUNT i.val) = s.fld (.PLS_SPC_FWD_COUNT i.val)))

/-! ### Analogue -/

/-- R303, R304, R306, R307, R312, R313: triggers of the sequences, a conversion of the next step on the grid, the queue's drain to the
ring, the read of ADC_DATA, the input's fault, settling end and loop supply. Without the LP supply nothing converts.
The model's choices it rests on: assumptions 7, 11, 64 and 75. -/
def Obligations.ConverterAndInputs : Prop :=
  ∀ (s : State) (q : Fin 4) (i : Fin 16) (ns : Nat) (codes : List Half), s.awake = true →
    let runs := fun (i : Instr) (t : State) => exec i s = .next (t.queueOf s)
    let t := s.at ns
    let due := t.trigInstant q.val t.now = true ∧ t.field.lpOn = true
    (due → runs (.sequenceTrigger q ns) (t.triggerSeq q.val)) ∧ (¬ due → runs (.sequenceTrigger q ns) t) ∧
    (let u := s.at (ns / 1000 * 1000 + 1000)
     (u.field.lpOn = true → runs (.adcTrigEdge ns) (forN 4 (fun k w => if w.fld (.ADC_SEQ_TRIG k) = 3 then w.triggerSeq k else w) u)) ∧
     (u.field.lpOn = false → runs (.adcTrigEdge ns) u)) ∧
    (let u := s.at (ns / 1000 * 1000)
     (∀ k x, u.nextConversion = some (k, x) → u.field.lpOn = true → runs (.conversion ns codes) (u.convertStep k x codes)) ∧
     ((u.nextConversion = none ∨ u.field.lpOn = false) → runs (.conversion ns codes) u)) ∧
    (∀ n : Fin 4097,
      ((s.fld .ADC_RING_LEN_LOG2 = 0 ∨ s.masked 11 = true) → exec (.queueDrain n) s = .next s) ∧
      (s.fld .ADC_RING_LEN_LOG2 ≠ 0 → s.masked 11 = false → runs (.queueDrain n)
        (forN (min n.val s.adc.queue.length) (fun _ t => t.drainOne) s))) ∧
    runs (.ainFault i) (s.inputFault i.val) ∧
    (let e := (s.ain i.val).settleEnd
     let u := s.at e
     ((u.ain i.val).settleEnd ≤ u.now → runs (.ainSettlingEnd i) (u.putB (.AIN_STAT_SETTLING i.val) false)) ∧
     (u.now < (u.ain i.val).settleEnd → exec (.ainSettlingEnd i) s = .next s)) ∧
    (∀ thermal : Bool,
      let f := if thermal then Fd.AIN_STAT_LS_THERM i.val else .AIN_STAT_LS_LIMIT i.val
      let on := s.flag (.AIN_CFG_LS i.val) = true ∧ s.fld (.AIN_CFG_MODE i.val) = 1 ∧ s.field.lpOn = true
      runs (.loopSupplyFault i thermal false) (s.putB f false) ∧
      (on → s.flag f = false → runs (.loopSupplyFault i thermal true) ((s.putB f true).raise 1 0x14 i.val 2 (if thermal then 2 else 1))) ∧
      ((¬ on ∨ s.flag f = true) → exec (.loopSupplyFault i thermal true) s = .next s)) ∧
    (s.domainOff (pageDomain 0x13) = false → exec .adcDataRead s = .next
      { ((s.putB .ADC_DATA_VALID false).putB .ADC_DATA_OVR false) with readData := [s.reg 0x13080] }) ∧
    (s.domainOff (pageDomain 0x13) = false → s.regsWf = true → ∃ u, exec .adcDataRead s = .next u ∧ u.readData = [s.reg 0x13080] ∧
      u.flag .ADC_DATA_VALID = false ∧ u.flag .ADC_DATA_OVR = false ∧ u.fld .ADC_DATA_VALUE = s.fld .ADC_DATA_VALUE ∧ u.adc = s.adc) ∧
    (s.domainOff (pageDomain 0x13) = true → exec .adcDataRead s = .next { s with readData := [0] })

/-- R316, R317, R318: a leg's compliance fault with its readback, raised once, its end, a hot stage at 0 mA and its return below 100 °C, and
the test registers, which need Commission. Without the LP supply nothing of the field side changes.
The model's choices it rests on: the legs in service (assumption 20). -/
def Obligations.CurrentOutputs : Prop :=
  ∀ (s : State) (n : Fin 8) (uA deg : Nat) (v : Word), s.awake = true →
    let runs := fun (i : Instr) (t : State) => exec i s = .next (t.queueOf s)
    (s.field.lpOn = false → ∀ set, exec (.compliance n set uA) s = .next s) ∧
    (s.field.lpOn = true →
      let t := ((s.putB (.AOU_STAT_COMP n.val) true).putB (.AOU_STAT_OPEN n.val) (decide (uA < 500))).put (.AOU_STAT_READBACK n.val)
        (min 65535 (uA * 65536 / 24000))
      (s.flag (.AOU_STAT_COMP n.val) = false → runs (.compliance n true uA) (t.raise 1 0x15 n.val 1 (min 0xFFFFFF uA))) ∧
      (s.flag (.AOU_STAT_COMP n.val) = true → runs (.compliance n true uA) t) ∧
      runs (.compliance n false uA) ((s.putB (.AOU_STAT_COMP n.val) false).putB (.AOU_STAT_OPEN n.val) false)) ∧
    (let t := s.sample 0x15 3 n.val deg
     let hot := t.flag (.AOU_STAT_THERM n.val)
     (t.field.lpOn = true → 115 ≤ deg → hot = false → runs (.aouThermal n deg)
       (((t.putB (.AOU_STAT_THERM n.val) true).setLeg n.val 0).raise 1 0x15 n.val 2 (min 0xFFFFFF deg))) ∧
     (t.field.lpOn = true → deg < 100 → hot = true → runs (.aouThermal n deg)
       ((t.putB (.AOU_STAT_THERM n.val) false).driveCurrent n.val)) ∧
     ((t.field.lpOn = false ∨ (115 ≤ deg ∧ hot = true) ∨ (100 ≤ deg ∧ deg < 115) ∨ (deg < 100 ∧ hot = false)) →
       runs (.aouThermal n deg) t)) ∧
    (s.hostMay 0x15 = true →
      (s.mode = .commission → runs (.aouTestWrite n v) (s.store (· == .rw) (0x15000 + (0x100 + 4 * n.val)) v)) ∧
      (s.mode ≠ .commission → runs (.aouTestWrite n v) (s.refuse 0x15 0x70 (0x15000 + (0x100 + 4 * n.val)))))

/-! ### Digital -/

/-- R324, R325, R326, R328, R330, R331: the sampling of the channels; a channel's filtered state, wire break, readback and open wire; an
overload switches the output off, keeps its command and retries after RETRY seconds; temperature; the test registers need Commission.
The model's choices it rests on: assumptions 7, 11 and 64. -/
def Obligations.DigitalChannels : Prop :=
  ∀ (s : State) (n : Fin 32) (x : Nat) (v : Word) (l : List (Nat × Nat × Nat × Bool)), s.awake = true →
    let runs := fun (i : Instr) (t : State) => exec i s = .next (t.queueOf s)
    runs (.filteredStateChange n) (s.filtered n.val) ∧ runs (.wireBreak n x) (s.wireBreak n.val x) ∧
    runs (.readback n) (s.readback n.val) ∧ runs (.openWire n) (s.openWire n.val) ∧
    (s.field.lpOn = false → exec (.dioSample l) s = .next s) ∧
    (s.field.lpOn = true → runs (.dioSample l) (((l.take 32).zipIdx).foldl
      (fun t e => t.dioSample e.2 e.1.1 e.1.2.1 e.1.2.2.1 e.1.2.2.2) (s.at (s.time.edge - 32000)))) ∧
    (let off := (s.protectOut n.val).setDch n.val fun d =>
       { d with cmd := true, retryAt := s.now + s.fld (.DIO_CFG_RETRY n.val) * 1000000000 }
     ((s.dch n.val).on = true → s.field.lpOn = true → runs (.overload n x)
       ((off.putB (.DIO_STAT_OVL n.val) true).raise 1 0x16 n.val 1 (min 0xFFFFFF x))) ∧
     (((s.dch n.val).on = false ∨ s.field.lpOn = false) → exec (.overload n x) s = .next s)) ∧
    (let t := s.at (s.dch n.val).retryAt
     let again := t.flag (.DIO_STAT_OVL n.val) = true ∧ 0 < t.fld (.DIO_CFG_RETRY n.val) ∧ (t.dch n.val).retryAt ≤ t.now ∧ t.field.lpOn = true
     (again → runs (.overloadRetry n) ((t.putB (.DIO_STAT_OVL n.val) false).resumeOut n.val)) ∧
     (¬ again → exec (.overloadRetry n) s = .next s)) ∧
    (let t := s.sample 0x16 3 n.val x
     let hot := t.flag (.DIO_STAT_THERM n.val)
     (t.field.lpOn = true → 115 ≤ x → hot = false → runs (.overtemp n x)
       (((t.protectOut n.val).putB (.DIO_STAT_THERM n.val) true).raise 1 0x16 n.val 2 x)) ∧
     (t.field.lpOn = true → x < 100 → hot = true → runs (.overtemp n x) ((t.putB (.DIO_STAT_THERM n.val) false).resumeOut n.val)) ∧
     ((t.field.lpOn = false ∨ (115 ≤ x ∧ hot = true) ∨ (100 ≤ x ∧ x < 115) ∨ (x < 100 ∧ hot = false)) → runs (.overtemp n x) t)) ∧
    (s.hostMay 0x16 = true → ∀ val : Bool,
      let a := 0x16000 + (if val then 0x50 else 0x4C)
      (s.mode = .commission → runs (.dioTestWrite val v) (forN 32 (fun k u => u.driveOut k (tickOf u.now)) (s.setReg a v))) ∧
      (s.mode ≠ .commission → runs (.dioTestWrite val v) (s.refuse 0x16 0x71 a)))

/-- R336 to R342: the pulse test of trip elements at its slots and its reclosing, an open path, and the host's pulse test in Commission, of
one element or, at position S alone, of both, refused (0x80) elsewhere and while one runs.
The model's choices it rests on: assumption 7. -/
def Obligations.TripElements : Prop :=
  ∀ (s : State) (n : Fin 8) (e : Fin 2) (ns ia ib : Nat) (v : Word), s.awake = true →
    let runs := fun (i : Instr) (t : State) => exec i s = .next (t.queueOf s)
    (let t := s.at ns
     let due := t.flag .TRP_TEST_EN = true ∧ t.slotInstant n.val e.val t.now = true ∧ t.field.lpOn = true
     (due → runs (.pulseTestSlot n e ia ns) (t.pulseSlot n.val e.val ia)) ∧ (¬ due → runs (.pulseTestSlot n e ia ns) t)) ∧
    (s.field.test = none → exec (.pulseTestReclose ia ib) s = .next s) ∧
    (∀ k, s.field.test = some k →
      (ia ≤ 1 → ib ≤ 300 → runs (.pulseTestReclose ia ib) (s.reclose k 1 ia ib)) ∧
      ((1 < ia ∨ 300 < ib) → 300 ≤ ib → runs (.pulseTestReclose ia ib) (s.reclose k 2 ia ib)) ∧
      (1 < ia → ib < 300 → exec (.pulseTestReclose ia ib) s = .next s)) ∧
    (let t := (s.elemCurrent n.val 0 ia).elemCurrent n.val 1 ib
     let closed := t.flag (.TRP_STAT_CLOSED_A n.val) = true ∧ t.flag (.TRP_STAT_CLOSED_B n.val) = true
     let shown := t.flag (.TRP_STAT_PATH_OPEN n.val)
     (closed → shown = false → ia ≤ 1 → 10 ≤ ib → runs (.pathOpen n ia ib)
       ((t.putB (.TRP_STAT_PATH_OPEN n.val) true).raise 1 0x17 n.val 2 0)) ∧
     (closed → shown = false → ib ≤ 1 → 10 ≤ ia → runs (.pathOpen n ia ib)
       ((t.putB (.TRP_STAT_PATH_OPEN n.val) true).raise 1 0x17 n.val 2 1)) ∧
     (closed → shown = true → ((ia ≤ 1 ∧ 10 ≤ ib) ∨ (ib ≤ 1 ∧ 10 ≤ ia)) → runs (.pathOpen n ia ib) t) ∧
     ((¬ closed ∨ ((1 < ia ∨ ib < 10) ∧ (1 < ib ∨ ia < 10))) → runs (.pathOpen n ia ib) (t.putB (.TRP_STAT_PATH_OPEN n.val) false))) ∧
    (s.hostMay 0x17 = true →
      let k := 2 * bitsOf v.toNat 2 0 + b2n (bitOf v.toNat 3)
      let t := fun (both : Bool) => { s with field := { s.field with
        ptCmd := some (k, both), ptEnd := s.now + clampNat 10 500 (bitsOf v.toNat 25 16) * 1000 } }
      (s.mode = .commission → s.field.ptCmd = none → v.getLsbD 4 = false → runs (.trpPtCmd v) ((t false).setElement k true)) ∧
      (s.mode = .commission → s.field.ptCmd = none → v.getLsbD 4 = true → s.pos = 0 → runs (.trpPtCmd v)
        (((t true).setElement (2 * bitsOf v.toNat 2 0) true).setElement (2 * bitsOf v.toNat 2 0 + 1) true)) ∧
      ((s.mode ≠ .commission ∨ s.field.ptCmd ≠ none ∨ (v.getLsbD 4 = true ∧ s.pos ≠ 0)) → runs (.trpPtCmd v) (s.refuse 0x17 0x80 0x17044))) ∧
    (let w := s.at s.field.ptEnd
     (w.field.ptCmd = none → exec (.trpPtCmdEnd ia) s = .next s) ∧
     (∀ k both, w.field.ptCmd = some (k, both) →
       let u := ((({ w with field := { w.field with ptCmd := none } }).setElement (2 * (k / 2)) false).setElement (2 * (k / 2) + 1)
         false).elemCurrent (k / 2) (k % 2) ia
       (both = true → 10 ≤ ia → runs (.trpPtCmdEnd ia) (u.put (.TRP_STAT_TEST (k / 2)) 1)) ∧
       (both = true → ia < 10 → runs (.trpPtCmdEnd ia) (u.putB (.TRP_STAT_PATH_OPEN (k / 2)) true)) ∧
       (both = false → 10 ≤ ia → runs (.trpPtCmdEnd ia) (u.raise 1 0x17 (k / 2) 3 ia)) ∧
       (both = false → ia < 10 → runs (.trpPtCmdEnd ia) u)))

/-! ### Time -/

/-- R343, R344, R349, R351: the Spring counts each of its ticks, where nothing committed waits; the read of TICK_LO latches the high half; a snapshot copies
the count and the civil offset; a stopped crystal, a low cell, the rail that feeds the Spring.
The model's choices it rests on: committed values wait for a tick of the Spring (assumption 69). -/
def Obligations.SpringEvents : Prop :=
  ∀ (s : State) (v : Word) (mV : Nat) (b : Bool),
    let runs := fun (i : Instr) (t : State) => exec i s = .next (t.queueOf s)
    (s.regsWf = true → s.time.springPend = [] → s.time.medianPend = none → s.flag .SPR_SET_HI_GO = false → s.flag .SPR_CMP_HI_ARM = false →
      ∃ t, exec .springTick s = .next t ∧ t.time.count = (s.time.count + 1) % 2 ^ 48 ∧ t.basin = s.basin ∧ t.mode = s.mode ∧
      t.time.ns = s.time.ns ∧ t.xspi = s.xspi ∧ t.scn = s.scn) ∧
    (let t := (s.springValues.springCount.springHour.springCompare).putB .SPR_STAT_XTAL_STOP false
     runs .springTick (t.setTime fun x => { x with sqw := t.squareWave, xtalStop := false })) ∧
    (s.awake = true → exec .sprTickLoRead s = .next
      { (s.put .SPR_TICK_HI_COUNT (s.time.count / 4294967296)) with readData := [w32 s.time.count] }) ∧
    (s.awake = true → s.regsWf = true → ∃ t, exec .sprTickLoRead s = .next t ∧ t.readData = [w32 s.time.count] ∧
      t.fld .SPR_TICK_HI_COUNT = s.time.count / 2 ^ 32 % 2 ^ 16 ∧ t.time = s.time ∧ t.basin = s.basin) ∧
    (s.hostMay 3 = true → v.getLsbD 0 = true → runs (.sprSnap v)
      (((s.put .SPR_SNAP_LO_VALUE s.time.count).put .SPR_SNAP_HI_VALUE (s.time.count / 4294967296)).put .SPR_SNAP_OFS_VALUE
        (s.fld .SPR_CIVIL_OFS))) ∧
    (s.hostMay 3 = true → v.getLsbD 0 = true → s.regsWf = true → ∃ t, exec (.sprSnap v) s = .next t ∧
      t.fld .SPR_SNAP_LO_VALUE = s.time.count % 2 ^ 32 ∧ t.fld .SPR_SNAP_HI_VALUE = s.time.count / 2 ^ 32 % 2 ^ 16 ∧
      t.fld .SPR_SNAP_OFS_VALUE = s.fld .SPR_CIVIL_OFS ∧ t.basin = s.basin ∧ t.time = s.time) ∧
    (s.hostMay 3 = true → v.getLsbD 0 = false → exec (.sprSnap v) s = .next s) ∧
    (s.awake = true → s.flag .SPR_STAT_XTAL_STOP = true → exec .xtalStop s = .next s) ∧
    (s.awake = true → s.flag .SPR_STAT_XTAL_STOP = false → runs .xtalStop
      (((((s.putB .SPR_STAT_XTAL_STOP true).putB .SPR_STAT_COUNT_VALID false).putB .SPR_STAT_TIME_VALID false).setTime
        fun x => { x with xtalStop := true }).raise 2 0x03 0 2 0)) ∧
    exec (.railSwitch b) s = .next (s.putB .SPR_STAT_ON_BAT b) ∧
    (let t := s.setTime fun x => { x with vbat := mV }
     let m := t.sample 0x03 1 0 mV
     let low := fun (t : State) => t.putB .SPR_STAT_CELL_LOW true
     (s.awake = false →
       (s.flag .SPR_STAT_CELL_LOW = false → mV < 2200 → runs (.cellLow mV) (low t)) ∧
       ((s.flag .SPR_STAT_CELL_LOW = true ∨ 2200 ≤ mV) → runs (.cellLow mV) t)) ∧
     (s.awake = true →
       (m.flag .SPR_STAT_CELL_LOW = false → mV < 2200 → runs (.cellLow mV) ((low m).raise 0 0x03 0 1 (min 0xFFFFFF mV))) ∧
       (m.flag .SPR_STAT_CELL_LOW = true → mV < 2200 → runs (.cellLow mV) m) ∧
       (2200 ≤ mV → mV < 2250 → runs (.cellLow mV) m) ∧
       (2250 ≤ mV → runs (.cellLow mV) (m.putB .SPR_STAT_CELL_LOW false))))

/-- R353, R355 to R357: the increment and the step of the PTP clock, refused in Holdover; a Sync; Holdover; the PPS input and output; a launch.
The model's choices it rests on: assumptions 7, 48 and 50. -/
def Obligations.PtpEvents : Prop :=
  ∀ (s : State) (m : Fin 8) (d : Byte) (v : Word) (ns : Nat),
    let t := s.at ns
    let runs := fun (i : Instr) (t : State) => exec i s = .next (t.queueOf s)
    (s.hostMay 0x18 = true → s.flag .PTP_STAT_HOLD = true →
      runs (.ptpIncFracWrite v) (s.refuse 0x18 0x90 0x18048) ∧ runs (.ptpStepHiWrite v) (s.refuse 0x18 0x90 0x18058)) ∧
    (s.hostMay 0x18 = true → s.flag .PTP_STAT_HOLD = false → runs (.ptpIncFracWrite v)
      ((s.setReg 0x18048 v).setTime fun x => { x with incNs := s.fld .PTP_INC_INC_NS, incFrac := v.toNat })) ∧
    (s.hostMay 0x18 = true → s.flag .PTP_STAT_HOLD = false → s.regsWf = true → ∃ u, exec (.ptpIncFracWrite v) s = .next u ∧ u.reg 0x18048 = v ∧
      u.time.incNs = s.fld .PTP_INC_INC_NS ∧ u.time.incFrac = v.toNat ∧ u.time.ns = s.time.ns ∧ u.basin = s.basin) ∧
    (s.hostMay 0x18 = true → s.flag .PTP_STAT_HOLD = false → s.lowHeld = [] → ∃ u, exec (.ptpStepHiWrite v) s = .next u ∧
      u.time.step = some (signed 64 (s.fld .PTP_STEP_LO_STEP + 2 ^ 32 * v.toNat)) ∧ u.time.ns = s.time.ns ∧ u.basin = s.basin) ∧
    (s.hostMay 0x18 = true → s.flag .PTP_STAT_HOLD = false →
      let w := s.takeLow 0x18054
      runs (.ptpStepHiWrite v) (((w.setReg 0x18058 v).putB .PTP_STAT_STEP_PEND true).setTime fun x =>
        { x with step := some (signed 64 (w.fld .PTP_STEP_LO_STEP + 4294967296 * v.toNat)) })) ∧
    (s.awake = true →
      runs (.syncMessage m d ns) (t.syncSeen m.val d.toNat) ∧
      (let lost := t.flag .PTP_CTRL_EN = true ∧ t.flag .PTP_STAT_HOLD = false ∧ t.time.syncAt + t.holdTime ≤ t.now
       (lost → runs (.holdover ns) ((t.putB .PTP_STAT_HOLD true).raise 0 0x18 0 1 (t.fld .PTP_STAT_LAST_MAC))) ∧
       (¬ lost → runs (.holdover ns) t)) ∧
      runs (.ppsInEdge ns) ((t.put64 0x18064 0x18068 (t.now / 8 * 8)).putB .PTP_STAT_PPS_SEEN true) ∧
      (let falls := t.time.ppsHigh = true ∧ t.time.ppsEnd ≤ t.now
       let rises := t.flag .PTP_CTRL_PPS_OUT_EN = true ∧ t.now % 1000000000 = 0 ∧ t.time.ppsHigh = false
       (falls → runs (.ppsOut ns) ((t.setTime fun x => { x with ppsHigh := false }).send (.pps false))) ∧
       (rises → runs (.ppsOut ns)
         ((t.setTime fun x => { x with ppsHigh := true, ppsEnd := t.now + t.fld .PTP_PPS_W_MS * 1000000 }).send (.pps true))) ∧
       (¬ falls → ¬ rises → runs (.ppsOut ns) t)) ∧
      runs (.launchDue m ns) (t.nextFrame m.val))

/-! ### Links -/

/-- R361 to R368, R373: frames and messages of a MAC are taken as its page says; a frame with a wrong FCS or of a wrong size is counted and
dropped; a partner's data end with its TTL; LLDP and supervision frames go into launch queue 1; the link's state; the host's transmit
command is refused (0xB0) for a bad length or a busy slot, else the frame waits with its slot; the end of a frame counts it, frees its slot
and starts the next.
The model's choices it rests on: assumptions 7, 51, 52, 53 and 54. -/
def Obligations.EthernetEvents : Prop :=
  ∀ (s : State) (m : Fin 8) (p : Fin 4) (ns : Nat) (bytes : List Byte) (ok : Bool) (src : BitVec 48) (v : Word), s.awake = true →
    let runs := fun (i : Instr) (t : State) => exec i s = .next (t.queueOf s)
    let t := s.at ns
    runs (.ethernetFrame m ns bytes ok) (t.etherIn m.val bytes ok) ∧
    (t.flag (.ETH_CTRL_EN m.val) = false → runs (.ethernetFrame m ns bytes ok) t) ∧
    (t.flag (.ETH_CTRL_EN m.val) = true →
      runs (.ethernetFrame m ns bytes false) (t.bump (.ETH_ERR_FCS m.val)) ∧
      ((bytes.length < 60 ∨ 1532 < bytes.length) → runs (.ethernetFrame m ns bytes true) (t.bump (.ETH_ERR_SIZE m.val)))) ∧
    runs (.lldpdu m ns bytes) (t.lldpIn m.val bytes) ∧
    (∀ x e, (t.mac m.val).lldp = some (x, e) →
      (e ≤ t.now → runs (.lldpTtlExpiry m ns) (t.setMac m.val fun x => { x with lldp := none })) ∧
      (t.now < e → runs (.lldpTtlExpiry m ns) t)) ∧
    ((t.mac m.val).lldp = none → runs (.lldpTtlExpiry m ns) t) ∧
    runs (.arpRequest m bytes) (s.arpIn m.val bytes) ∧ runs (.icmpEcho m src bytes) (s.echoIn m.val (beBytes 6 src.toNat) bytes) ∧
    runs (.igmpQuery m bytes) (s.queryIn m.val bytes) ∧
    (s.flag (.ETH_CTRL_LLDP_TX m.val) = true → runs (.lldpTransmit m)
      (s.enqueueFrame m.val 1 { launch := s.now, bytes := s.ownLldp m.val })) ∧
    (s.flag (.ETH_CTRL_LLDP_TX m.val) = false → exec (.lldpTransmit m) s = .next s) ∧
    ((s.prpOn p.val && bitOf (s.fld .PRP_CTRL_SUP) p.val) = false → exec (.prpSupervision p) s = .next s) ∧
    (s.prpOn p.val = true → bitOf (s.fld .PRP_CTRL_SUP) p.val = true → runs (.prpSupervision p)
      (s.usedFree.sendPair p.val 1 s.now (s.taggedFrame [0x01, 0x15, 0x4E, 0x00, 0x01, 0x00] 0 0x88FB
        ([0x00, 0x01] ++ beBytes 2 s.freeVal.toNat ++ [0x14, 0x06] ++ s.macAddr (2 * p.val) ++ [0x00, 0x00])))) ∧
    (s.flag (.ETH_STAT_LINK m.val) = true → runs (.linkDown m) ((s.putB (.ETH_STAT_LINK m.val) false).raise 0 (0x1A + m.val) 0 1 0)) ∧
    (s.flag (.ETH_STAT_LINK m.val) = false → exec (.linkDown m) s = .next s) ∧
    (∀ k : Fin 4, exec (.ethLinkUp m k) s = .next ((s.putB (.ETH_STAT_LINK m.val) true).put (.ETH_STAT_SPEED m.val) k.val)) ∧
    (let len := (Fd.ETH_TX_CMD_LEN m.val).of v
     let k := (Fd.ETH_TX_CMD_SLOT m.val).of v
     let f : TxFrame := { launch := s.get64 (0x1A06C + 0x1000 * m.val) (0x1A070 + 0x1000 * m.val), slot := some k, ts := bitOf v.toNat 31,
                          bytes := s.reqReadBytes (s.fld (.ETH_TX_BASE m.val) + 2048 * k) len }
     s.hostMay (0x1A + m.val) = true →
      ((len < 60 ∨ 1514 < len ∨ s.slotBusy m.val k = true) → runs (.ethTxCmd m v)
        (s.refuse (0x1A + m.val) 0xB0 (0x1A074 + 0x1000 * m.val))) ∧
      (60 ≤ len → len ≤ 1514 → s.slotBusy m.val k = false → runs (.ethTxCmd m v)
        (s.hostFrame m.val (2 + (Fd.ETH_TX_CMD_Q m.val).of v) k f))) ∧
    ((s.mac m.val).sending = none → exec (.ethTransmitEnd m) s = .next s) ∧
    (∀ f, (s.mac m.val).sending = some f →
      let u := (s.setMac m.val fun x => { x with sending := none }).bump (.ETH_CNT_TX m.val)
      (f.slot = none → runs (.ethTransmitEnd m) (u.nextFrame m.val)) ∧
      ∀ k, f.slot = some k → runs (.ethTransmitEnd m) ((u.setSlotBusy m.val k false).nextFrame m.val))

/-- R369 to R377: a CAN frame enters a receive queue with room for it, else is counted lost, with its identifier, flags and payload as its
form has them; the end of a transmission sent, in error and retried or dropped, or after a lost arbitration; Bus Off and its recovery; the
pop and the go; an RS-485 frame starts when its line is idle and its time has come, ends with its interrupt; a received byte enters the
ring with its marks.
The model's choices it rests on: assumptions 7, 55 (from ISO 11898-1) and 56. -/
def Obligations.FieldBusEvents : Prop :=
  ∀ (s : State) (b : Fin 4) (ns : Nat) (tec rec : BitVec 9) (v : Word), s.awake = true →
    let runs := fun (i : Instr) (t : State) => exec i s = .next (t.queueOf s)
    let same := fun (i : Instr) => exec i s = .next s
    let at_ := s.at ns
    (∀ (xtd fd brs esi : Bool) (id : BitVec 29) (dlc : BitVec 4) (data : List Byte),
      let i := Instr.canFrameReceived b ns xtd id fd brs esi dlc data tec rec
      let hears := at_.flag (.CAN_CTRL_EN b.val) = true ∧ at_.fld (.CAN_STAT_STATE b.val) < 2
      let n := dlcBytes fd dlc.toNat
      let f : CanFrame := { xtd := xtd, id := if xtd then id.toNat else id.toNat % 2048, fd := fd, brs := fd && brs, esi := fd && esi,
                            dlc := dlc.toNat, data := (data ++ List.replicate n 0).take n, ts := ns }
      let t := ((at_.bump (.CAN_CNT_RX b.val)).canErrors b.val tec.toNat rec.toNat).mapCheck b.val f
      (¬ hears → runs i at_) ∧
      (hears → (t.canBus b.val).rx.length < 512 → runs i ((t.setCan b.val fun c => { c with rx := c.rx ++ [f] }).irq (0x23 + b.val) 8)) ∧
      (hears → 512 ≤ (t.canBus b.val).rx.length → runs i (t.bump (.CAN_CNT_LOST b.val)))) ∧
    (∀ (r : Fin 3), (s.canBus b.val).sending = none → same (.canTransmitEnd b r tec rec)) ∧
    (∀ x, (s.canBus b.val).sending = some x →
      let u := s.setCan b.val fun c => { c with sending := none }
      let ends := fun (r : Fin 3) (t : State) => runs (.canTransmitEnd b r tec rec) ((t.canErrors b.val tec.toNat rec.toNat).canNext b.val)
      ends 0 (u.send (.can b.val x.f)) ∧
      (x.tries < s.fld (.CAN_CTRL_RETRY b.val) → ends 1 (u.setCan b.val fun c => { c with pend := { x with tries := x.tries + 1 } :: c.pend })) ∧
      (s.fld (.CAN_CTRL_RETRY b.val) ≤ x.tries → ends 1 (u.bump (.CAN_CNT_DROP b.val))) ∧
      ends 2 (u.setCan b.val fun c => { c with pend := x :: c.pend })) ∧
    (let past := s.flag (.CAN_CTRL_EN b.val) = true ∧ (127 < tec.toNat ∨ 127 < rec.toNat)
     (past → runs (.busOff b tec rec) (s.canErrors b.val tec.toNat rec.toNat)) ∧ (¬ past → same (.busOff b tec rec))) ∧
    (let back := s.flag (.CAN_CTRL_EN b.val) = true ∧ s.flag (.CAN_CTRL_AUTO_RECOV b.val) = true ∧ s.fld (.CAN_STAT_STATE b.val) = 2
     (back → runs (.busOffRecovery b)
       ((((s.put (.CAN_STAT_STATE b.val) 0).put (.CAN_STAT_TEC b.val) 0).put (.CAN_STAT_REC b.val) 0).canNext b.val)) ∧
     (¬ back → same (.busOffRecovery b))) ∧
    (s.hostMay (0x23 + b.val) = true →
      (let t := s.setCan b.val fun c => { c with rx := c.rx.tail }
       (v.getLsbD 0 = true → (t.canBus b.val).rx = [] → runs (.canRxPop b v) t) ∧
       (v.getLsbD 0 = true → (t.canBus b.val).rx ≠ [] → runs (.canRxPop b v) (t.irq (0x23 + b.val) 8))) ∧
      (v.getLsbD 0 = true → Sparse.wf (fun _ => ({} : Can)) s.net.can = true → ∃ t, exec (.canRxPop b v) s = .next t ∧
        (t.canBus b.val).rx = (s.canBus b.val).rx.tail ∧ (t.canBus b.val).pend = (s.canBus b.val).pend ∧ t.basin = s.basin) ∧
      (v.getLsbD 0 = false → same (.canRxPop b v)) ∧
      (let q := (((s.canBus b.val).pend ++ (s.canBus b.val).sending.toList).filter fun x => !x.map).length
       let w := v &&& 0x7FFFFFFF#32
       let t := s.store (· == .rw) (0x230C4 + 0x1000 * b.val) w
       (v.getLsbD 31 = true → 16 ≤ q → runs (.canTxGo b v) (s.refuse (0x23 + b.val) 0xB6 (0x230C4 + 0x1000 * b.val))) ∧
       (v.getLsbD 31 = true → q < 16 → runs (.canTxGo b v) (t.canQueue b.val { map := false, f := s.hostCan b.val w })) ∧
       (v.getLsbD 31 = false → runs (.canTxGo b v) t))) ∧
    (s.hostMay (0x27 + b.val) = true →
      let n := (Fd.SER_TX_CMD_LEN b.val).of v
      let due := if v.getLsbD 31 then s.get64 (0x27060 + 0x1000 * b.val) (0x27064 + 0x1000 * b.val) else 0
      (s.flag (.SER_STAT_BUSY b.val) = true → runs (.serTxCmd b v) (s.refuse (0x27 + b.val) 0xB1 (0x2705C + 0x1000 * b.val))) ∧
      (s.flag (.SER_STAT_BUSY b.val) = false → (n = 0 ∨ 4096 < n ∨ s.flag (.SER_CTRL_EN b.val) = false) → same (.serTxCmd b v)) ∧
      (s.flag (.SER_STAT_BUSY b.val) = false → s.flag (.SER_CTRL_EN b.val) = true → 1 ≤ n → n ≤ 4096 → runs (.serTxCmd b v)
        (((s.setSer b.val fun y => { y with
          tx := some (s.reqReadBytes (s.fld (.SER_TX_BASE b.val)) n), started := false, due := due }).putB (.SER_STAT_BUSY b.val) true).serStart
            b.val))) ∧
    runs (.serTxTimeReached b ns) (at_.serStart b.val) ∧
    ((s.serLine b.val).started = true → runs (.serTransmitEnd b)
      (((s.setSer b.val fun y => { y with tx := none, started := false }).putB (.SER_STAT_BUSY b.val) false).irq (0x27 + b.val) 9)) ∧
    ((s.serLine b.val).started = false → same (.serTransmitEnd b)) ∧
    (∀ (c : Byte) (parity framing brk : Bool),
      let i := Instr.serByteReceived b ns c parity framing brk
      let start := at_.now - at_.serFrame b.val * at_.serBit b.val / 2
      let takes := fun (gap : Nat) =>
        let t := at_.setSer b.val fun y => { y with lastRx := some (start, at_.now) }
        let u := if parity then t.bump (.SER_STAT_PARITY b.val) else t
        let w := if framing then u.bump (.SER_STAT_FRAMING b.val) else u
        runs i (w.serRing b.val (c.toNat + 256 * b2n parity + 512 * b2n framing + 1024 * gap + 2048 * b2n brk + 65536 * (at_.now % 2 ^ 48)))
      let hears := at_.flag (.SER_CTRL_EN b.val) = true ∧ (at_.serLine b.val).started = false
      (¬ hears → runs i at_) ∧
      (hears → (at_.serLine b.val).lastRx = none → takes 1) ∧
      (∀ x e, hears → (at_.serLine b.val).lastRx = some (x, e) →
        (2 * e + at_.serGap b.val ≤ 2 * start → takes 1) ∧ (2 * start < 2 * e + at_.serGap b.val → takes 0)))

/-! ### The host's ports -/

/-- R377 to R383: the Basin through BAR 2, what lies beyond its end cut off, the re-arm of vectors, the SPI port, the xSPI operations and
board management. A transaction whose header CRC is wrong answers its status alone; an operation's end shows its result.
The model's choices it rests on: assumptions 46, 57, 58 and 89. -/
def Obligations.HostPorts : Prop :=
  ∀ (s : State) (a : BitVec 26) (bs : List Byte) (v : Word) (w : Fin 65) (ue : Option (Fin 64)) (n : Fin 513) (ok : Bool), s.awake = true →
    let runs := fun (i : Instr) (t : State) => exec i s = .next (t.queueOf s)
    let same := fun (i : Instr) => exec i s = .next s
    runs (.bar2Access a (.write bs) n) (s.reqSpan 8 a.toNat ((bs.take 256).take (67108864 - a.toNat))) ∧
    (∀ ecc, let t := s.readFinds 8 (ecc.map fun e => (e.1, a.toNat / 4 + e.2.val))
      runs (.bar2Access a (.read ecc) n) { t with readData := t.reqReadSpan a.toNat (min n.val (67108864 - a.toNat)) }) ∧
    (s.hostMay 0x2B = true → runs (.hifRearm v)
      (forN 32 (fun k t => if bitOf v.toNat k && t.vecActive k then t.send (.msix k) else t) s)) ∧
    (bs.length < 6 → same (.hostSpiTransaction bs w ue)) ∧
    (let t := s.bump .HIF_SPI_CNT_FRAMES
     6 ≤ bs.length →
      (crc8 (bs.take 5) ≠ byteAt bs 5 → runs (.hostSpiTransaction bs w ue)
        ((t.bump .HIF_SPI_CNT_CRC).send (.spi [spiStatus true false false false false]))) ∧
      (crc8 (bs.take 5) = byteAt bs 5 → (spiHead bs).rd = true → runs (.hostSpiTransaction bs w ue) (t.spiReadTrans (spiHead bs) w.val ue)) ∧
      (crc8 (bs.take 5) = byteAt bs 5 → (spiHead bs).rd = false → runs (.hostSpiTransaction bs w ue)
        (t.spiWriteTrans (spiHead bs) (bs.drop 6)))) ∧
    (s.hostMay 0x2C = true → runs .ospRead (s.ospStart 1) ∧ runs .ospProgram (s.ospStart 2) ∧ runs .ospErase (s.ospStart 3)) ∧
    (s.net.xspiOp = none → same (.ospDone ok)) ∧
    (∀ o, s.net.xspiOp = some o → runs (.ospDone ok)
      ((((((s.ospRun o ok).setNet fun x => { x with xspiOp := none }).putB .OSP_STAT_BUSY false).putB .OSP_STAT_ERR (!ok)).putB
        .OSP_STAT_DONE true).irq 0x2C 8)) ∧
    (∀ e : Fin 16,
      let polls := s.flag .BMI_CTRL_EN = true ∧ s.flag (.BMI_POLL_EN e.val) = true
      (polls → runs (.bmiPoll e) (s.setBmi fun x => { x with due := addOnce x.due e.val }).bmiNext) ∧ (¬ polls → same (.bmiPoll e))) ∧
    (s.hostMay 0x2D = true →
      let t := s.store (· == .rw) 0x2D0C0 (v &&& 0x7FFFFFFF#32)
      (s.flag .BMI_XSTAT_BUSY = true → same (.bmiXfer v)) ∧
      (s.flag .BMI_XSTAT_BUSY = false → v.getLsbD 31 = true → runs (.bmiXfer v)
        ((t.setBmi fun x => { x with waiting := true }).putB .BMI_XSTAT_BUSY true).bmiNext) ∧
      (s.flag .BMI_XSTAT_BUSY = false → v.getLsbD 31 = false → runs (.bmiXfer v) t)) ∧
    (∀ f : Fin 5, s.net.bmi.running = none → same (.bmiTransferEnd f bs)) ∧
    (∀ (f : Fin 5) (k : Nat), s.net.bmi.running = some k →
      let t := s.setBmi fun x => { x with running := none }
      let ends := fun (t : State) => runs (.bmiTransferEnd f bs) t.bmiNext
      (k < 16 → 1 ≤ f.val → ends (t.pollFail k f.val)) ∧ (k < 16 → f.val = 0 → ends (t.pollValue k bs)) ∧
      (16 ≤ k → k ≠ 32 → f.val = 0 → ends (t.setBmi fun x =>
        { x with expo := Sparse.put none x.expo (k - 16) (some (signed 5 (fieldAt bs 0 1 % 32))) })) ∧
      (16 ≤ k → k ≠ 32 → 1 ≤ f.val → ends t) ∧
      (k = 32 →
        let u := (t.putB .BMI_XSTAT_BUSY false).put .BMI_XSTAT_FAIL f.val
        (f.val = 0 → s.flag .BMI_XFER_RD = true → ends (u.put .BMI_XDATA_DATA (leNat (bs.take (s.fld .BMI_XFER_N + 1))))) ∧
        ((1 ≤ f.val ∨ s.flag .BMI_XFER_RD = false) → ends u)))

/-! ### Sediment and wear -/

/-- R385 to R402, R411 to R414: records, summaries and health at their instants, the move of a batch and its release, the host's reader,
refused (0xC0) while it is busy; the plan of the day, late where it fell outside the modes that allow it; the crystals' margins.
The model's choices it rests on: assumption 40. -/
def Obligations.SedimentAndWear : Prop :=
  ∀ (s : State),
    let runs := fun (i : Instr) (t : State) => exec i s = .next (t.queueOf s)
    let same := fun (i : Instr) => exec i s = .next s
    (s.awake = true →
      (∀ (code : BitVec 16) (act : Fin 3) (src : BitVec 24) (v : Word), runs (.recordProduce code act src v)
        (s.condition code.toNat act.val 0xFF src.toNat v.toNat).dropCheck) ∧
      runs .recordDurable s.makeDurable ∧
      (s.now % (max 1 (s.fld .SED_INT_S) * 1000000000) = 0 → runs .summaryInterval s.summaries.dropCheck) ∧
      (s.now % (max 1 (s.fld .SED_INT_S) * 1000000000) ≠ 0 → same .summaryInterval) ∧
      (s.now % 60000000000 = 0 → runs .healthRecord s.healthRecord.dropCheck) ∧
      (s.now % 60000000000 ≠ 0 → same .healthRecord) ∧
      (∀ f : Bool, runs (.batchMove f) (s.batchMove f)) ∧
      runs .foldRelease s.releaseDue ∧
      (s.flag .SED_RD_STAT_BUSY = true → runs .sedRdDone s.copyRecords) ∧
      (s.flag .SED_RD_STAT_BUSY = false → same .sedRdDone) ∧
      (∀ a b : Int,
        let shows := fun (t : State) => runs (.crystalHourlyMean a b)
          ((t.sample 0x03 2 0 (twos 32 b)).setMargin 8 (marginOf 20000 (b - Config.springFirst).natAbs) 0)
        (s.flag .PTP_STAT_HOLD = true → shows s) ∧
        (s.flag .PTP_STAT_HOLD = false →
          (∀ f, s.wear.xtalFirst = some f → shows (s.setMargin 7 (marginOf 20000 (a - f).natAbs) 0)) ∧
          (s.wear.xtalFirst = none → s.flag .PTP_STAT_VALID = true → shows
            ((s.setWear fun x => { x with xtalFirst := some a }).setMargin 7 100 0)) ∧
          (s.wear.xtalFirst = none → s.flag .PTP_STAT_VALID = false → shows s)))) ∧
    (s.hostMay 0x2E = true →
      (s.flag .SED_RD_STAT_BUSY = true → runs .sedRdGo (s.refuse 0x2E 0xC0 0x2E078)) ∧
      (s.flag .SED_RD_STAT_BUSY = false → runs .sedRdGo (s.putB .SED_RD_STAT_BUSY true))) ∧
    (∀ (l : List Nat) (b : Fin 16) (n : Nat) (r t : List (Option Nat)) (c : Option Nat),
      let mayRun := s.awake = true ∧ (s.mode = .commission ∨ s.live = true ∨ s.mode = .safe)
      let due := s.now / 1000000000 % 86400 = s.planSecond ∨ (s.wear.planLate = true ∧ ∃ t, s.wear.planAt = some t ∧ t ≤ s.now)
      (s.flag .WER_CTRL_EN = false → same (.dailyPlan l b n r t c)) ∧
      (s.flag .WER_CTRL_EN = true → mayRun → due → runs (.dailyPlan l b n r t c) (s.plan l b.val n r t c)) ∧
      (s.flag .WER_CTRL_EN = true → mayRun → ¬ due → same (.dailyPlan l b n r t c)) ∧
      (s.flag .WER_CTRL_EN = true → ¬ mayRun → runs (.dailyPlan l b n r t c)
        (s.setWear fun x => { x with planLate := true, planAt := none })))

/-! ### The window's registers -/

/-- R6, R8, R9, R230, R432, R433, R435, R436: register commands of the window; an address that the rows of a kind do not name does
nothing; a register that reads clear is read and cleared by the same read; the lock of a page, under which every host command of the page
is refused with 0x0F, and which a domain that is off ignores; the force key. -/
def Obligations.RegisterCommands : Prop :=
  ∀ (s : State) (p : Fin 50) (adr : BitVec 18) (v : Word), s.awake = true →
    let runs := fun (i : Instr) (t : State) => exec i s = .next (t.queueOf s)
    let same := fun (i : Instr) => exec i s = .next s
    runs (.registerWrite adr v) (s.regWrite adr.toNat v) ∧
    (let acts := adr.toNat % 4 = 0 ∧ (adr.toNat % 0x1000 = 0x18 ∨ hasAcc .w1c adr.toNat = true)
     (acts → runs (.w1cWrite adr v) (s.regWrite adr.toNat v)) ∧ (¬ acts → same (.w1cWrite adr v))) ∧
    (let acts := adr.toNat % 4 = 0 ∧ hasAcc .rc adr.toNat = true
     (acts → runs (.rcRead adr) (s.regReadData adr.toNat)) ∧ (¬ acts → same (.rcRead adr))) ∧
    (lowWord adr.toNat = true → runs (.loWordRead adr) (s.regReadData adr.toNat)) ∧
    (lowWord adr.toNat = false → same (.loWordRead adr)) ∧
    (s.domainOff (pageDomain p.val) = false →
      exec (.pageLock p) s = .next { s with locks := addOnce s.locks p.val } ∧
      exec (.pageUnlock p) s = .next { s with locks := s.locks.filter (· != p.val) } ∧
      runs (.cntClr p) (s.clearPageRc p.val)) ∧
    (s.domainOff (pageDomain p.val) = true → same (.pageLock p) ∧ same (.pageUnlock p) ∧ same (.cntClr p)) ∧
    (s.hostMay 0x0D = true →
      (s.scn.forceKey = some v → runs (.scnForceKeyWrite v)
        ((s.putB .SCN_STAT_KEY_OK true).setScn fun x => { x with keyUntil := s.now + s.fld .SCN_KEY_TTL * 1000000000 })) ∧
      (s.scn.forceKey ≠ some v → runs (.scnForceKeyWrite v) (s.putB .SCN_STAT_KEY_OK false))) ∧
    (let t := s.at s.scn.keyUntil
     let ends := t.flag .SCN_STAT_KEY_OK = true ∧ t.scn.keyUntil ≤ t.now
     (ends → runs .forceKeyExpiry (t.putB .SCN_STAT_KEY_OK false)) ∧ (¬ ends → same .forceKeyExpiry)) ∧
    (let guarded := fun (page off : Nat) (i : Instr) =>
       (s.domainOff (pageDomain page) = true → same i) ∧
       (s.domainOff (pageDomain page) = false → s.locked page = true → runs i (s.refuse page 0x0F (0x1000 * page + off)))
     (∀ g : Fin 16, guarded 0x08 0x40 (.txnOpen g) ∧ guarded 0x08 0x40 (.txnArm g) ∧ guarded 0x08 0x40 (.txnAbort g) ∧
       guarded 0x08 (0x80 + 4 * g.val) (.txnGrpCfgWrite g v)) ∧
     (∀ n : Fin 8, guarded 0x15 (0x100 + 4 * n.val) (.aouTestWrite n v) ∧ guarded (0x1A + n.val) 0x74 (.ethTxCmd n v)) ∧
     (∀ b : Fin 4, guarded (0x23 + b.val) 0x68 (.canRxPop b v) ∧ guarded (0x23 + b.val) 0xC4 (.canTxGo b v) ∧
       guarded (0x27 + b.val) 0x5C (.serTxCmd b v)) ∧
     (∀ i : Fin 2, guarded 0x09 (0x40 + 4 * i.val) (.bsnRankWrite i v)) ∧
     guarded 0x00 0x5C (.sysSwrstWrite v) ∧ guarded 0x00 0x54 .sysBootCtrlGo ∧ guarded 0x03 0x64 (.sprSnap v) ∧
     guarded 0x07 0x94 (.errInjectWrite v) ∧ guarded 0x07 0x78 .errLogPop ∧ guarded 0x0D 0x54 (.scnForceKeyWrite v) ∧
     guarded 0x16 0x50 (.dioTestWrite true v) ∧ guarded 0x16 0x4C (.dioTestWrite false v) ∧ guarded 0x17 0x44 (.trpPtCmd v) ∧
     guarded 0x18 0x48 (.ptpIncFracWrite v) ∧ guarded 0x18 0x58 (.ptpStepHiWrite v) ∧ guarded 0x2B 0x48 (.hifRearm v) ∧
     guarded 0x2C 0x50 .ospRead ∧ guarded 0x2C 0x50 .ospProgram ∧ guarded 0x2C 0x50 .ospErase ∧ guarded 0x2D 0xC0 (.bmiXfer v) ∧
     guarded 0x2E 0x78 .sedRdGo ∧ guarded 0x30 0x40 .monAllSnap ∧ guarded 0x30 0x40 .monAllClr ∧ guarded 0x30 0x40 .monAllArm)

end
end

