-- ==== Sys2Proof/Laws/Act.lean ====
section
/-! SUPPORT. What the shared frames of the meanings do: a command that needs the core domains, a command of the host on a page, an instant
of the base tick in progress, the queue of another state. A prover cites these instead of unfolding the meanings. -/

namespace Sys2Proof.Machine

/-- A command whose operation runs: the core domains are on. -/
theorem coreAct_run {s : State} (f : State → State) (h : s.awake = true) : coreAct s f = .next ((f s).queueOf s) := by
  simp [coreAct, effect, State.queueOf, h]

/-- A command that needs the core domains does nothing while they are held. -/
theorem coreAct_held {s : State} (f : State → State) (h : s.awake = false) : coreAct s f = .next s := by
  simp [coreAct, effect, h]

/-- A host's command on a page that takes it. -/
theorem hostAct_run {s : State} {p off : Nat} (f : State → State) (h : s.hostMay p = true) :
    hostAct p off s f = .next ((f s).queueOf s) := by
  simp only [State.hostMay, Bool.and_eq_true, Bool.not_eq_true'] at h
  simp [hostAct, coreAct, effect, State.hostWrite, State.queueOf, h.1.1, h.1.2, h.2]

/-- A host's command on a locked page is refused with code 0x0F. -/
theorem hostAct_locked {s : State} {p off : Nat} (f : State → State) (h : s.awake = true) (hd : s.domainOff (pageDomain p) = false)
    (hl : s.locked p = true) : hostAct p off s f = .next ((s.refuse p 0x0F (0x1000 * p + off)).queueOf s) := by
  simp [hostAct, coreAct, effect, State.hostWrite, State.queueOf, h, hd, hl]

/-- A host that may write a page finds the core domains on. -/
theorem hostMay_awake {s : State} {p : Nat} (h : s.hostMay p = true) : s.awake = true := by
  simp only [State.hostMay, Bool.and_eq_true] at h
  exact h.1.1

/-- An instant of the base tick in progress is moved to. -/
theorem at_inTick {s : State} {ns : Nat} (h : s.inTick ns = true) : s.at ns = s.moved ns := by
  simp only [State.inTick, Bool.and_eq_true, decide_eq_true_eq] at h
  simp [State.at, State.moved, State.now] at *
  omega

/-- The queue of a state with the same queue. -/
theorem queueOf_same {t s : State} (h : t.pending = s.pending) : t.queueOf s = t := by
  cases t
  simp only [State.queueOf] at *
  simp [h]

@[simp] theorem queueOf_self (s : State) : s.queueOf s = s := rfl
@[simp] theorem queueOf_pending (t s : State) : (t.queueOf s).pending = s.pending := rfl
@[simp] theorem effect_self (s : State) : effect s s = .next s := rfl
@[simp] theorem moved_awake (s : State) (ns : Nat) : (s.moved ns).awake = s.awake := rfl
@[simp] theorem moved_pending (s : State) (ns : Nat) : (s.moved ns).pending = s.pending := rfl
@[simp] theorem moved_fld (s : State) (ns : Nat) (f : Fd) : (s.moved ns).fld f = s.fld f := rfl
@[simp] theorem moved_flag (s : State) (ns : Nat) (f : Fd) : (s.moved ns).flag f = s.flag f := rfl
@[simp] theorem moved_now (s : State) (ns : Nat) : (s.moved ns).now = ns := rfl
@[simp] theorem moved_mode (s : State) (ns : Nat) : (s.moved ns).mode = s.mode := rfl
@[simp] theorem moved_pos (s : State) (ns : Nat) : (s.moved ns).pos = s.pos := rfl
@[simp] theorem moved_sib (s : State) (ns : Nat) : (s.moved ns).sib = s.sib := rfl
@[simp] theorem moved_scn (s : State) (ns : Nat) : (s.moved ns).scn = s.scn := rfl
@[simp] theorem moved_slv (s : State) (ns : Nat) : (s.moved ns).slv = s.slv := rfl
@[simp] theorem moved_err (s : State) (ns : Nat) : (s.moved ns).err = s.err := rfl
@[simp] theorem moved_sed (s : State) (ns : Nat) : (s.moved ns).sed = s.sed := rfl
@[simp] theorem moved_txn (s : State) (ns : Nat) : (s.moved ns).txn = s.txn := rfl
@[simp] theorem moved_bsn (s : State) (ns : Nat) : (s.moved ns).bsn = s.bsn := rfl
@[simp] theorem moved_field (s : State) (ns : Nat) : (s.moved ns).field = s.field := rfl
@[simp] theorem moved_lop (s : State) (ns : Nat) : (s.moved ns).lop = s.lop := rfl
@[simp] theorem moved_adc (s : State) (ns : Nat) : (s.moved ns).adc = s.adc := rfl
@[simp] theorem moved_nrg (s : State) (ns : Nat) : (s.moved ns).nrg = s.nrg := rfl
@[simp] theorem moved_rsv (s : State) (ns : Nat) : (s.moved ns).rsv = s.rsv := rfl
@[simp] theorem moved_stn (s : State) (ns : Nat) : (s.moved ns).stn = s.stn := rfl
@[simp] theorem moved_lum (s : State) (ns : Nat) : (s.moved ns).lum = s.lum := rfl
@[simp] theorem moved_pms (s : State) (ns : Nat) : (s.moved ns).pms = s.pms := rfl
@[simp] theorem moved_net (s : State) (ns : Nat) : (s.moved ns).net = s.net := rfl
@[simp] theorem moved_wear (s : State) (ns : Nat) : (s.moved ns).wear = s.wear := rfl
@[simp] theorem moved_tap (s : State) (ns : Nat) : (s.moved ns).tap = s.tap := rfl
@[simp] theorem moved_basin (s : State) (ns : Nat) : (s.moved ns).basin = s.basin := rfl
@[simp] theorem moved_regs (s : State) (ns : Nat) : (s.moved ns).regs = s.regs := rfl
@[simp] theorem moved_out (s : State) (ns : Nat) : (s.moved ns).out = s.out := rfl
@[simp] theorem moved_fresh (s : State) (ns : Nat) : (s.moved ns).fresh = s.fresh := rfl
@[simp] theorem moved_link (s : State) (ns k : Nat) : (s.moved ns).link k = s.link k := rfl
@[simp] theorem moved_role (s : State) (ns k : Nat) : (s.moved ns).role k = s.role k := rfl
@[simp] theorem moved_peer (s : State) (ns k : Nat) : (s.moved ns).peer k = s.peer k := rfl
@[simp] theorem moved_group (s : State) (ns k : Nat) : (s.moved ns).group k = s.group k := rfl
@[simp] theorem moved_ctx (s : State) (ns k : Nat) : (s.moved ns).ctx k = s.ctx k := rfl
@[simp] theorem moved_mac (s : State) (ns k : Nat) : (s.moved ns).mac k = s.mac k := rfl
@[simp] theorem moved_canBus (s : State) (ns k : Nat) : (s.moved ns).canBus k = s.canBus k := rfl
@[simp] theorem moved_serLine (s : State) (ns k : Nat) : (s.moved ns).serLine k = s.serLine k := rfl
@[simp] theorem moved_dch (s : State) (ns k : Nat) : (s.moved ns).dch k = s.dch k := rfl
@[simp] theorem moved_ain (s : State) (ns k : Nat) : (s.moved ns).ain k = s.ain k := rfl
@[simp] theorem moved_reg (s : State) (ns k : Nat) : (s.moved ns).reg k = s.reg k := rfl
@[simp] theorem moved_byte (s : State) (ns k : Nat) : (s.moved ns).byte k = s.byte k := rfl
@[simp] theorem moved_word (s : State) (ns k : Nat) : (s.moved ns).word k = s.word k := rfl
@[simp] theorem moved_locks (s : State) (ns : Nat) : (s.moved ns).locks = s.locks := rfl
@[simp] theorem moved_wgrpNo (s : State) (ns : Nat) : (s.moved ns).wgrpNo = s.wgrpNo := rfl
@[simp] theorem moved_hostMay (s : State) (ns p : Nat) : (s.moved ns).hostMay p = s.hostMay p := rfl
@[simp] theorem moved_alone (s : State) (ns : Nat) : (s.moved ns).alone = s.alone := rfl
@[simp] theorem moved_inTick (s : State) (ns : Nat) : (s.moved ns).time.edge = s.time.edge := rfl

end Sys2Proof.Machine
end

