-- ==== Sys2Proof/Laws/Sparse.lean ====
section
/-! SUPPORT. Laws of sparse contents: a write reads back, every other key stays, the canonical form stays. -/

namespace Sys2Proof.Machine

variable {α : Type} [DecidableEq α]

omit [DecidableEq α] in
/-- A key below every listed one reads as an unlisted key. -/
theorem sparse_get_above {d : Nat → α} : ∀ {m : Sparse α} {b k : Nat}, Sparse.above b m = true → k ≤ b → Sparse.get d m k = d k
  | [], _, _, _, _ => rfl
  | (j, v) :: r, b, k, h, hk => by
    have hj : b < j := by simpa [Sparse.above] using h
    simp [Sparse.get, show k ≠ j by omega, show k < j by omega]

/-- What the canonical form says of a list with a first entry. -/
theorem sparse_wf_cons {d : Nat → α} {j : Nat} {v : α} {r : Sparse α} :
    Sparse.wf d ((j, v) :: r) = true ↔ Sparse.above j r = true ∧ v ≠ d j ∧ Sparse.wf d r = true := by
  simp [Sparse.wf, and_assoc]

omit [DecidableEq α] in
/-- A bound below a bound. -/
theorem sparse_above_mono {m : Sparse α} {b c : Nat} (h : Sparse.above b m = true) (hc : c ≤ b) : Sparse.above c m = true := by
  cases m with
  | nil => rfl
  | cons e r =>
    simp only [Sparse.above, decide_eq_true_eq] at *
    omega

/-- A canonical list without its first entry lies above it. -/
theorem sparse_above_set {d : Nat → α} {b k : Nat} {v : α} : ∀ {m : Sparse α}, Sparse.above b m = true → Sparse.wf d m = true → b < k →
    Sparse.above b (Sparse.set d m k v) = true
  | [], _, _, hk => by
    simp only [Sparse.set]
    split <;> simp [Sparse.above, hk]
  | (j, w) :: r, h, hw, hk => by
    have hj : b < j := by simpa [Sparse.above] using h
    have ha := (sparse_wf_cons.mp hw).1
    simp only [Sparse.set]
    split
    · split
      · exact sparse_above_mono ha (by omega)
      · simp [Sparse.above, hk]
    · split
      · split <;> simp [Sparse.above, hk, hj]
      · simp [Sparse.above, hj]

/-- A write keeps the canonical form. -/
theorem sparse_wf_set {d : Nat → α} {k : Nat} {v : α} : ∀ {m : Sparse α}, Sparse.wf d m = true → Sparse.wf d (Sparse.set d m k v) = true
  | [], _ => by
    simp only [Sparse.set]
    split <;> simp_all [Sparse.wf, Sparse.above]
  | (j, w) :: r, h => by
    obtain ⟨ha, hn, hr⟩ := sparse_wf_cons.mp h
    simp only [Sparse.set]
    split
    · split
      · exact hr
      · refine sparse_wf_cons.mpr ⟨?_, by assumption, hr⟩
        simp_all
    · split
      · split
        · exact h
        · exact sparse_wf_cons.mpr ⟨by simpa [Sparse.above], by assumption, h⟩
      · exact sparse_wf_cons.mpr ⟨sparse_above_set ha hr (by omega), hn, sparse_wf_set hr⟩

/-- A write reads back. -/
theorem sparse_get_set_same {d : Nat → α} {k : Nat} {v : α} : ∀ {m : Sparse α}, Sparse.wf d m = true →
    Sparse.get d (Sparse.set d m k v) k = v
  | [], _ => by
    simp only [Sparse.set]
    split <;> simp_all [Sparse.get]
  | (j, w) :: r, h => by
    obtain ⟨ha, hn, hr⟩ := sparse_wf_cons.mp h
    simp only [Sparse.set]
    split
    · split
      · subst_vars
        exact sparse_get_above ha (Nat.le_refl _)
      · simp [Sparse.get]
    · split
      · split
        · simp_all [Sparse.get]
        · simp [Sparse.get]
      · simp only [Sparse.get]
        rw [if_neg (by assumption), if_neg (by assumption)]
        exact sparse_get_set_same hr

/-- A write leaves every other key. -/
theorem sparse_get_set_other {d : Nat → α} {k i : Nat} {v : α} (hi : i ≠ k) : ∀ {m : Sparse α}, Sparse.wf d m = true →
    Sparse.get d (Sparse.set d m k v) i = Sparse.get d m i
  | [], _ => by
    simp only [Sparse.set]
    split <;> simp [Sparse.get, hi]
  | (j, w) :: r, h => by
    obtain ⟨ha, hn, hr⟩ := sparse_wf_cons.mp h
    simp only [Sparse.set]
    split
    · subst_vars
      split
      · simp only [Sparse.get, if_neg hi]
        split
        · exact sparse_get_above ha (by omega)
        · rfl
      · simp [Sparse.get, hi]
    · split
      · split
        · rfl
        · simp only [Sparse.get, if_neg hi]
          split
          · rw [if_neg (by omega), if_pos (by omega)]
          · rfl
      · simp only [Sparse.get]
        rw [sparse_get_set_other hi hr]

/-- The same laws for contents whose unlisted keys all read as one value. -/
theorem sparse_at_put_same {i : α} {m : Sparse α} {k : Nat} {v : α} (h : Sparse.wf (fun _ => i) m = true) :
    Sparse.at i (Sparse.put i m k v) k = v := sparse_get_set_same h

theorem sparse_at_put_other {i : α} {m : Sparse α} {j k : Nat} {v : α} (h : Sparse.wf (fun _ => i) m = true) (hj : j ≠ k) :
    Sparse.at i (Sparse.put i m k v) j = Sparse.at i m j := sparse_get_set_other hj h

theorem sparse_wf_put {i : α} {m : Sparse α} {k : Nat} {v : α} (h : Sparse.wf (fun _ => i) m = true) :
    Sparse.wf (fun _ => i) (Sparse.put i m k v) = true := sparse_wf_set h

/-- Dropping entries keeps what lies above a bound. -/
theorem sparse_above_drop {p : Nat → Bool} {d : Nat → α} : ∀ {m : Sparse α} {b : Nat}, Sparse.above b m = true → Sparse.wf d m = true →
    Sparse.above b (Sparse.drop p m) = true
  | [], _, _, _ => rfl
  | (j, w) :: r, b, h, hw => by
    obtain ⟨ha, hn, hr⟩ := sparse_wf_cons.mp hw
    have hj : b < j := by simpa [Sparse.above] using h
    have ih := sparse_above_drop (p := p) (sparse_above_mono ha (Nat.le_of_lt hj)) hr
    simp only [Sparse.drop, List.filter_cons] at *
    split
    · simpa [Sparse.above] using hj
    · exact ih

/-- Dropping entries keeps the canonical form. -/
theorem sparse_wf_drop {p : Nat → Bool} {d : Nat → α} : ∀ {m : Sparse α}, Sparse.wf d m = true → Sparse.wf d (Sparse.drop p m) = true
  | [], _ => rfl
  | (j, w) :: r, h => by
    obtain ⟨ha, hn, hr⟩ := sparse_wf_cons.mp h
    have ih := sparse_wf_drop (p := p) hr
    have hab := sparse_above_drop (p := p) ha hr
    simp only [Sparse.drop, List.filter_cons] at *
    split
    · exact sparse_wf_cons.mpr ⟨hab, hn, ih⟩
    · exact ih

end Sys2Proof.Machine
end

