-- ==== Sys2Proof/Laws/Blocks.lean ====
section
/-! SUPPORT. What the update of one block's state leaves: every other part of the state, and what is read from it. -/

namespace Sys2Proof.Machine

/-! ### setGroup -/

@[simp] theorem setGroup_mode (s : State) (g : Nat) (f : Group → Group) : (s.setGroup g f).mode = s.mode := rfl
@[simp] theorem setGroup_mainOn (s : State) (g : Nat) (f : Group → Group) : (s.setGroup g f).mainOn = s.mainOn := rfl
@[simp] theorem setGroup_held (s : State) (g : Nat) (f : Group → Group) : (s.setGroup g f).held = s.held := rfl
@[simp] theorem setGroup_stopped (s : State) (g : Nat) (f : Group → Group) : (s.setGroup g f).stopped = s.stopped := rfl
@[simp] theorem setGroup_pos (s : State) (g : Nat) (f : Group → Group) : (s.setGroup g f).pos = s.pos := rfl
@[simp] theorem setGroup_boot (s : State) (g : Nat) (f : Group → Group) : (s.setGroup g f).boot = s.boot := rfl
@[simp] theorem setGroup_regs (s : State) (g : Nat) (f : Group → Group) : (s.setGroup g f).regs = s.regs := rfl
@[simp] theorem setGroup_latch (s : State) (g : Nat) (f : Group → Group) : (s.setGroup g f).latch = s.latch := rfl
@[simp] theorem setGroup_lowHeld (s : State) (g : Nat) (f : Group → Group) : (s.setGroup g f).lowHeld = s.lowHeld := rfl
@[simp] theorem setGroup_locks (s : State) (g : Nat) (f : Group → Group) : (s.setGroup g f).locks = s.locks := rfl
@[simp] theorem setGroup_basin (s : State) (g : Nat) (f : Group → Group) : (s.setGroup g f).basin = s.basin := rfl
@[simp] theorem setGroup_xspi (s : State) (g : Nat) (f : Group → Group) : (s.setGroup g f).xspi = s.xspi := rfl
@[simp] theorem setGroup_out (s : State) (g : Nat) (f : Group → Group) : (s.setGroup g f).out = s.out := rfl
@[simp] theorem setGroup_fresh (s : State) (g : Nat) (f : Group → Group) : (s.setGroup g f).fresh = s.fresh := rfl
@[simp] theorem setGroup_err (s : State) (g : Nat) (f : Group → Group) : (s.setGroup g f).err = s.err := rfl
@[simp] theorem setGroup_sed (s : State) (g : Nat) (f : Group → Group) : (s.setGroup g f).sed = s.sed := rfl
@[simp] theorem setGroup_sib (s : State) (g : Nat) (f : Group → Group) : (s.setGroup g f).sib = s.sib := rfl
@[simp] theorem setGroup_bsn (s : State) (g : Nat) (f : Group → Group) : (s.setGroup g f).bsn = s.bsn := rfl
@[simp] theorem setGroup_monLive (s : State) (g : Nat) (f : Group → Group) : (s.setGroup g f).monLive = s.monLive := rfl
@[simp] theorem setGroup_monSnap (s : State) (g : Nat) (f : Group → Group) : (s.setGroup g f).monSnap = s.monSnap := rfl
@[simp] theorem setGroup_monArmed (s : State) (g : Nat) (f : Group → Group) : (s.setGroup g f).monArmed = s.monArmed := rfl
@[simp] theorem setGroup_scn (s : State) (g : Nat) (f : Group → Group) : (s.setGroup g f).scn = s.scn := rfl
@[simp] theorem setGroup_slv (s : State) (g : Nat) (f : Group → Group) : (s.setGroup g f).slv = s.slv := rfl
@[simp] theorem setGroup_time (s : State) (g : Nat) (f : Group → Group) : (s.setGroup g f).time = s.time := rfl
@[simp] theorem setGroup_field (s : State) (g : Nat) (f : Group → Group) : (s.setGroup g f).field = s.field := rfl
@[simp] theorem setGroup_lop (s : State) (g : Nat) (f : Group → Group) : (s.setGroup g f).lop = s.lop := rfl
@[simp] theorem setGroup_adc (s : State) (g : Nat) (f : Group → Group) : (s.setGroup g f).adc = s.adc := rfl
@[simp] theorem setGroup_nrg (s : State) (g : Nat) (f : Group → Group) : (s.setGroup g f).nrg = s.nrg := rfl
@[simp] theorem setGroup_rsv (s : State) (g : Nat) (f : Group → Group) : (s.setGroup g f).rsv = s.rsv := rfl
@[simp] theorem setGroup_stn (s : State) (g : Nat) (f : Group → Group) : (s.setGroup g f).stn = s.stn := rfl
@[simp] theorem setGroup_lum (s : State) (g : Nat) (f : Group → Group) : (s.setGroup g f).lum = s.lum := rfl
@[simp] theorem setGroup_pms (s : State) (g : Nat) (f : Group → Group) : (s.setGroup g f).pms = s.pms := rfl
@[simp] theorem setGroup_net (s : State) (g : Nat) (f : Group → Group) : (s.setGroup g f).net = s.net := rfl
@[simp] theorem setGroup_wear (s : State) (g : Nat) (f : Group → Group) : (s.setGroup g f).wear = s.wear := rfl
@[simp] theorem setGroup_tap (s : State) (g : Nat) (f : Group → Group) : (s.setGroup g f).tap = s.tap := rfl
@[simp] theorem setGroup_pending (s : State) (g : Nat) (f : Group → Group) : (s.setGroup g f).pending = s.pending := rfl
@[simp] theorem setGroup_awake (s : State) (g : Nat) (f : Group → Group) : (s.setGroup g f).awake = s.awake := rfl
@[simp] theorem setGroup_reg (s : State) (g : Nat) (f : Group → Group) (a : Nat) : (s.setGroup g f).reg a = s.reg a := rfl
@[simp] theorem setGroup_fld (s : State) (g : Nat) (f : Group → Group) (a : Fd) : (s.setGroup g f).fld a = s.fld a := rfl
@[simp] theorem setGroup_flag (s : State) (g : Nat) (f : Group → Group) (a : Fd) : (s.setGroup g f).flag a = s.flag a := rfl
@[simp] theorem setGroup_byte (s : State) (g : Nat) (f : Group → Group) (a : Nat) : (s.setGroup g f).byte a = s.byte a := rfl
@[simp] theorem setGroup_word (s : State) (g : Nat) (f : Group → Group) (a : Nat) : (s.setGroup g f).word a = s.word a := rfl

/-! ### setPeer -/

@[simp] theorem setPeer_mode (s : State) (j : Nat) (f : Peer → Peer) : (s.setPeer j f).mode = s.mode := rfl
@[simp] theorem setPeer_mainOn (s : State) (j : Nat) (f : Peer → Peer) : (s.setPeer j f).mainOn = s.mainOn := rfl
@[simp] theorem setPeer_held (s : State) (j : Nat) (f : Peer → Peer) : (s.setPeer j f).held = s.held := rfl
@[simp] theorem setPeer_stopped (s : State) (j : Nat) (f : Peer → Peer) : (s.setPeer j f).stopped = s.stopped := rfl
@[simp] theorem setPeer_pos (s : State) (j : Nat) (f : Peer → Peer) : (s.setPeer j f).pos = s.pos := rfl
@[simp] theorem setPeer_boot (s : State) (j : Nat) (f : Peer → Peer) : (s.setPeer j f).boot = s.boot := rfl
@[simp] theorem setPeer_regs (s : State) (j : Nat) (f : Peer → Peer) : (s.setPeer j f).regs = s.regs := rfl
@[simp] theorem setPeer_latch (s : State) (j : Nat) (f : Peer → Peer) : (s.setPeer j f).latch = s.latch := rfl
@[simp] theorem setPeer_lowHeld (s : State) (j : Nat) (f : Peer → Peer) : (s.setPeer j f).lowHeld = s.lowHeld := rfl
@[simp] theorem setPeer_locks (s : State) (j : Nat) (f : Peer → Peer) : (s.setPeer j f).locks = s.locks := rfl
@[simp] theorem setPeer_basin (s : State) (j : Nat) (f : Peer → Peer) : (s.setPeer j f).basin = s.basin := rfl
@[simp] theorem setPeer_xspi (s : State) (j : Nat) (f : Peer → Peer) : (s.setPeer j f).xspi = s.xspi := rfl
@[simp] theorem setPeer_out (s : State) (j : Nat) (f : Peer → Peer) : (s.setPeer j f).out = s.out := rfl
@[simp] theorem setPeer_fresh (s : State) (j : Nat) (f : Peer → Peer) : (s.setPeer j f).fresh = s.fresh := rfl
@[simp] theorem setPeer_err (s : State) (j : Nat) (f : Peer → Peer) : (s.setPeer j f).err = s.err := rfl
@[simp] theorem setPeer_sed (s : State) (j : Nat) (f : Peer → Peer) : (s.setPeer j f).sed = s.sed := rfl
@[simp] theorem setPeer_txn (s : State) (j : Nat) (f : Peer → Peer) : (s.setPeer j f).txn = s.txn := rfl
@[simp] theorem setPeer_bsn (s : State) (j : Nat) (f : Peer → Peer) : (s.setPeer j f).bsn = s.bsn := rfl
@[simp] theorem setPeer_monLive (s : State) (j : Nat) (f : Peer → Peer) : (s.setPeer j f).monLive = s.monLive := rfl
@[simp] theorem setPeer_monSnap (s : State) (j : Nat) (f : Peer → Peer) : (s.setPeer j f).monSnap = s.monSnap := rfl
@[simp] theorem setPeer_monArmed (s : State) (j : Nat) (f : Peer → Peer) : (s.setPeer j f).monArmed = s.monArmed := rfl
@[simp] theorem setPeer_scn (s : State) (j : Nat) (f : Peer → Peer) : (s.setPeer j f).scn = s.scn := rfl
@[simp] theorem setPeer_slv (s : State) (j : Nat) (f : Peer → Peer) : (s.setPeer j f).slv = s.slv := rfl
@[simp] theorem setPeer_time (s : State) (j : Nat) (f : Peer → Peer) : (s.setPeer j f).time = s.time := rfl
@[simp] theorem setPeer_field (s : State) (j : Nat) (f : Peer → Peer) : (s.setPeer j f).field = s.field := rfl
@[simp] theorem setPeer_lop (s : State) (j : Nat) (f : Peer → Peer) : (s.setPeer j f).lop = s.lop := rfl
@[simp] theorem setPeer_adc (s : State) (j : Nat) (f : Peer → Peer) : (s.setPeer j f).adc = s.adc := rfl
@[simp] theorem setPeer_nrg (s : State) (j : Nat) (f : Peer → Peer) : (s.setPeer j f).nrg = s.nrg := rfl
@[simp] theorem setPeer_rsv (s : State) (j : Nat) (f : Peer → Peer) : (s.setPeer j f).rsv = s.rsv := rfl
@[simp] theorem setPeer_stn (s : State) (j : Nat) (f : Peer → Peer) : (s.setPeer j f).stn = s.stn := rfl
@[simp] theorem setPeer_lum (s : State) (j : Nat) (f : Peer → Peer) : (s.setPeer j f).lum = s.lum := rfl
@[simp] theorem setPeer_pms (s : State) (j : Nat) (f : Peer → Peer) : (s.setPeer j f).pms = s.pms := rfl
@[simp] theorem setPeer_net (s : State) (j : Nat) (f : Peer → Peer) : (s.setPeer j f).net = s.net := rfl
@[simp] theorem setPeer_wear (s : State) (j : Nat) (f : Peer → Peer) : (s.setPeer j f).wear = s.wear := rfl
@[simp] theorem setPeer_tap (s : State) (j : Nat) (f : Peer → Peer) : (s.setPeer j f).tap = s.tap := rfl
@[simp] theorem setPeer_pending (s : State) (j : Nat) (f : Peer → Peer) : (s.setPeer j f).pending = s.pending := rfl
@[simp] theorem setPeer_awake (s : State) (j : Nat) (f : Peer → Peer) : (s.setPeer j f).awake = s.awake := rfl
@[simp] theorem setPeer_reg (s : State) (j : Nat) (f : Peer → Peer) (a : Nat) : (s.setPeer j f).reg a = s.reg a := rfl
@[simp] theorem setPeer_fld (s : State) (j : Nat) (f : Peer → Peer) (a : Fd) : (s.setPeer j f).fld a = s.fld a := rfl
@[simp] theorem setPeer_flag (s : State) (j : Nat) (f : Peer → Peer) (a : Fd) : (s.setPeer j f).flag a = s.flag a := rfl
@[simp] theorem setPeer_byte (s : State) (j : Nat) (f : Peer → Peer) (a : Nat) : (s.setPeer j f).byte a = s.byte a := rfl
@[simp] theorem setPeer_word (s : State) (j : Nat) (f : Peer → Peer) (a : Nat) : (s.setPeer j f).word a = s.word a := rfl

/-! ### setCtx -/

@[simp] theorem setCtx_mode (s : State) (n : Nat) (f : Ctx → Ctx) : (s.setCtx n f).mode = s.mode := rfl
@[simp] theorem setCtx_mainOn (s : State) (n : Nat) (f : Ctx → Ctx) : (s.setCtx n f).mainOn = s.mainOn := rfl
@[simp] theorem setCtx_held (s : State) (n : Nat) (f : Ctx → Ctx) : (s.setCtx n f).held = s.held := rfl
@[simp] theorem setCtx_stopped (s : State) (n : Nat) (f : Ctx → Ctx) : (s.setCtx n f).stopped = s.stopped := rfl
@[simp] theorem setCtx_pos (s : State) (n : Nat) (f : Ctx → Ctx) : (s.setCtx n f).pos = s.pos := rfl
@[simp] theorem setCtx_boot (s : State) (n : Nat) (f : Ctx → Ctx) : (s.setCtx n f).boot = s.boot := rfl
@[simp] theorem setCtx_regs (s : State) (n : Nat) (f : Ctx → Ctx) : (s.setCtx n f).regs = s.regs := rfl
@[simp] theorem setCtx_latch (s : State) (n : Nat) (f : Ctx → Ctx) : (s.setCtx n f).latch = s.latch := rfl
@[simp] theorem setCtx_lowHeld (s : State) (n : Nat) (f : Ctx → Ctx) : (s.setCtx n f).lowHeld = s.lowHeld := rfl
@[simp] theorem setCtx_locks (s : State) (n : Nat) (f : Ctx → Ctx) : (s.setCtx n f).locks = s.locks := rfl
@[simp] theorem setCtx_basin (s : State) (n : Nat) (f : Ctx → Ctx) : (s.setCtx n f).basin = s.basin := rfl
@[simp] theorem setCtx_xspi (s : State) (n : Nat) (f : Ctx → Ctx) : (s.setCtx n f).xspi = s.xspi := rfl
@[simp] theorem setCtx_out (s : State) (n : Nat) (f : Ctx → Ctx) : (s.setCtx n f).out = s.out := rfl
@[simp] theorem setCtx_fresh (s : State) (n : Nat) (f : Ctx → Ctx) : (s.setCtx n f).fresh = s.fresh := rfl
@[simp] theorem setCtx_err (s : State) (n : Nat) (f : Ctx → Ctx) : (s.setCtx n f).err = s.err := rfl
@[simp] theorem setCtx_sed (s : State) (n : Nat) (f : Ctx → Ctx) : (s.setCtx n f).sed = s.sed := rfl
@[simp] theorem setCtx_sib (s : State) (n : Nat) (f : Ctx → Ctx) : (s.setCtx n f).sib = s.sib := rfl
@[simp] theorem setCtx_txn (s : State) (n : Nat) (f : Ctx → Ctx) : (s.setCtx n f).txn = s.txn := rfl
@[simp] theorem setCtx_bsn (s : State) (n : Nat) (f : Ctx → Ctx) : (s.setCtx n f).bsn = s.bsn := rfl
@[simp] theorem setCtx_monLive (s : State) (n : Nat) (f : Ctx → Ctx) : (s.setCtx n f).monLive = s.monLive := rfl
@[simp] theorem setCtx_monSnap (s : State) (n : Nat) (f : Ctx → Ctx) : (s.setCtx n f).monSnap = s.monSnap := rfl
@[simp] theorem setCtx_monArmed (s : State) (n : Nat) (f : Ctx → Ctx) : (s.setCtx n f).monArmed = s.monArmed := rfl
@[simp] theorem setCtx_scn (s : State) (n : Nat) (f : Ctx → Ctx) : (s.setCtx n f).scn = s.scn := rfl
@[simp] theorem setCtx_time (s : State) (n : Nat) (f : Ctx → Ctx) : (s.setCtx n f).time = s.time := rfl
@[simp] theorem setCtx_field (s : State) (n : Nat) (f : Ctx → Ctx) : (s.setCtx n f).field = s.field := rfl
@[simp] theorem setCtx_lop (s : State) (n : Nat) (f : Ctx → Ctx) : (s.setCtx n f).lop = s.lop := rfl
@[simp] theorem setCtx_adc (s : State) (n : Nat) (f : Ctx → Ctx) : (s.setCtx n f).adc = s.adc := rfl
@[simp] theorem setCtx_nrg (s : State) (n : Nat) (f : Ctx → Ctx) : (s.setCtx n f).nrg = s.nrg := rfl
@[simp] theorem setCtx_rsv (s : State) (n : Nat) (f : Ctx → Ctx) : (s.setCtx n f).rsv = s.rsv := rfl
@[simp] theorem setCtx_stn (s : State) (n : Nat) (f : Ctx → Ctx) : (s.setCtx n f).stn = s.stn := rfl
@[simp] theorem setCtx_lum (s : State) (n : Nat) (f : Ctx → Ctx) : (s.setCtx n f).lum = s.lum := rfl
@[simp] theorem setCtx_pms (s : State) (n : Nat) (f : Ctx → Ctx) : (s.setCtx n f).pms = s.pms := rfl
@[simp] theorem setCtx_net (s : State) (n : Nat) (f : Ctx → Ctx) : (s.setCtx n f).net = s.net := rfl
@[simp] theorem setCtx_wear (s : State) (n : Nat) (f : Ctx → Ctx) : (s.setCtx n f).wear = s.wear := rfl
@[simp] theorem setCtx_tap (s : State) (n : Nat) (f : Ctx → Ctx) : (s.setCtx n f).tap = s.tap := rfl
@[simp] theorem setCtx_pending (s : State) (n : Nat) (f : Ctx → Ctx) : (s.setCtx n f).pending = s.pending := rfl
@[simp] theorem setCtx_awake (s : State) (n : Nat) (f : Ctx → Ctx) : (s.setCtx n f).awake = s.awake := rfl
@[simp] theorem setCtx_reg (s : State) (n : Nat) (f : Ctx → Ctx) (a : Nat) : (s.setCtx n f).reg a = s.reg a := rfl
@[simp] theorem setCtx_fld (s : State) (n : Nat) (f : Ctx → Ctx) (a : Fd) : (s.setCtx n f).fld a = s.fld a := rfl
@[simp] theorem setCtx_flag (s : State) (n : Nat) (f : Ctx → Ctx) (a : Fd) : (s.setCtx n f).flag a = s.flag a := rfl
@[simp] theorem setCtx_byte (s : State) (n : Nat) (f : Ctx → Ctx) (a : Nat) : (s.setCtx n f).byte a = s.byte a := rfl
@[simp] theorem setCtx_word (s : State) (n : Nat) (f : Ctx → Ctx) (a : Nat) : (s.setCtx n f).word a = s.word a := rfl

/-! ### setSlotSt -/

@[simp] theorem setSlotSt_mode (s : State) (n : Nat) (f : Slot) : (s.setSlotSt n f).mode = s.mode := rfl
@[simp] theorem setSlotSt_mainOn (s : State) (n : Nat) (f : Slot) : (s.setSlotSt n f).mainOn = s.mainOn := rfl
@[simp] theorem setSlotSt_held (s : State) (n : Nat) (f : Slot) : (s.setSlotSt n f).held = s.held := rfl
@[simp] theorem setSlotSt_stopped (s : State) (n : Nat) (f : Slot) : (s.setSlotSt n f).stopped = s.stopped := rfl
@[simp] theorem setSlotSt_pos (s : State) (n : Nat) (f : Slot) : (s.setSlotSt n f).pos = s.pos := rfl
@[simp] theorem setSlotSt_boot (s : State) (n : Nat) (f : Slot) : (s.setSlotSt n f).boot = s.boot := rfl
@[simp] theorem setSlotSt_regs (s : State) (n : Nat) (f : Slot) : (s.setSlotSt n f).regs = s.regs := rfl
@[simp] theorem setSlotSt_latch (s : State) (n : Nat) (f : Slot) : (s.setSlotSt n f).latch = s.latch := rfl
@[simp] theorem setSlotSt_lowHeld (s : State) (n : Nat) (f : Slot) : (s.setSlotSt n f).lowHeld = s.lowHeld := rfl
@[simp] theorem setSlotSt_locks (s : State) (n : Nat) (f : Slot) : (s.setSlotSt n f).locks = s.locks := rfl
@[simp] theorem setSlotSt_basin (s : State) (n : Nat) (f : Slot) : (s.setSlotSt n f).basin = s.basin := rfl
@[simp] theorem setSlotSt_xspi (s : State) (n : Nat) (f : Slot) : (s.setSlotSt n f).xspi = s.xspi := rfl
@[simp] theorem setSlotSt_out (s : State) (n : Nat) (f : Slot) : (s.setSlotSt n f).out = s.out := rfl
@[simp] theorem setSlotSt_fresh (s : State) (n : Nat) (f : Slot) : (s.setSlotSt n f).fresh = s.fresh := rfl
@[simp] theorem setSlotSt_err (s : State) (n : Nat) (f : Slot) : (s.setSlotSt n f).err = s.err := rfl
@[simp] theorem setSlotSt_sed (s : State) (n : Nat) (f : Slot) : (s.setSlotSt n f).sed = s.sed := rfl
@[simp] theorem setSlotSt_sib (s : State) (n : Nat) (f : Slot) : (s.setSlotSt n f).sib = s.sib := rfl
@[simp] theorem setSlotSt_txn (s : State) (n : Nat) (f : Slot) : (s.setSlotSt n f).txn = s.txn := rfl
@[simp] theorem setSlotSt_bsn (s : State) (n : Nat) (f : Slot) : (s.setSlotSt n f).bsn = s.bsn := rfl
@[simp] theorem setSlotSt_monLive (s : State) (n : Nat) (f : Slot) : (s.setSlotSt n f).monLive = s.monLive := rfl
@[simp] theorem setSlotSt_monSnap (s : State) (n : Nat) (f : Slot) : (s.setSlotSt n f).monSnap = s.monSnap := rfl
@[simp] theorem setSlotSt_monArmed (s : State) (n : Nat) (f : Slot) : (s.setSlotSt n f).monArmed = s.monArmed := rfl
@[simp] theorem setSlotSt_scn (s : State) (n : Nat) (f : Slot) : (s.setSlotSt n f).scn = s.scn := rfl
@[simp] theorem setSlotSt_slv (s : State) (n : Nat) (f : Slot) : (s.setSlotSt n f).slv = s.slv := rfl
@[simp] theorem setSlotSt_time (s : State) (n : Nat) (f : Slot) : (s.setSlotSt n f).time = s.time := rfl
@[simp] theorem setSlotSt_field (s : State) (n : Nat) (f : Slot) : (s.setSlotSt n f).field = s.field := rfl
@[simp] theorem setSlotSt_adc (s : State) (n : Nat) (f : Slot) : (s.setSlotSt n f).adc = s.adc := rfl
@[simp] theorem setSlotSt_nrg (s : State) (n : Nat) (f : Slot) : (s.setSlotSt n f).nrg = s.nrg := rfl
@[simp] theorem setSlotSt_rsv (s : State) (n : Nat) (f : Slot) : (s.setSlotSt n f).rsv = s.rsv := rfl
@[simp] theorem setSlotSt_stn (s : State) (n : Nat) (f : Slot) : (s.setSlotSt n f).stn = s.stn := rfl
@[simp] theorem setSlotSt_lum (s : State) (n : Nat) (f : Slot) : (s.setSlotSt n f).lum = s.lum := rfl
@[simp] theorem setSlotSt_pms (s : State) (n : Nat) (f : Slot) : (s.setSlotSt n f).pms = s.pms := rfl
@[simp] theorem setSlotSt_net (s : State) (n : Nat) (f : Slot) : (s.setSlotSt n f).net = s.net := rfl
@[simp] theorem setSlotSt_wear (s : State) (n : Nat) (f : Slot) : (s.setSlotSt n f).wear = s.wear := rfl
@[simp] theorem setSlotSt_tap (s : State) (n : Nat) (f : Slot) : (s.setSlotSt n f).tap = s.tap := rfl
@[simp] theorem setSlotSt_pending (s : State) (n : Nat) (f : Slot) : (s.setSlotSt n f).pending = s.pending := rfl
@[simp] theorem setSlotSt_awake (s : State) (n : Nat) (f : Slot) : (s.setSlotSt n f).awake = s.awake := rfl
@[simp] theorem setSlotSt_reg (s : State) (n : Nat) (f : Slot) (a : Nat) : (s.setSlotSt n f).reg a = s.reg a := rfl
@[simp] theorem setSlotSt_fld (s : State) (n : Nat) (f : Slot) (a : Fd) : (s.setSlotSt n f).fld a = s.fld a := rfl
@[simp] theorem setSlotSt_flag (s : State) (n : Nat) (f : Slot) (a : Fd) : (s.setSlotSt n f).flag a = s.flag a := rfl
@[simp] theorem setSlotSt_byte (s : State) (n : Nat) (f : Slot) (a : Nat) : (s.setSlotSt n f).byte a = s.byte a := rfl
@[simp] theorem setSlotSt_word (s : State) (n : Nat) (f : Slot) (a : Nat) : (s.setSlotSt n f).word a = s.word a := rfl

/-! ### setGen -/

@[simp] theorem setGen_mode (s : State) (n : Nat) (f : Gen) : (s.setGen n f).mode = s.mode := rfl
@[simp] theorem setGen_mainOn (s : State) (n : Nat) (f : Gen) : (s.setGen n f).mainOn = s.mainOn := rfl
@[simp] theorem setGen_held (s : State) (n : Nat) (f : Gen) : (s.setGen n f).held = s.held := rfl
@[simp] theorem setGen_stopped (s : State) (n : Nat) (f : Gen) : (s.setGen n f).stopped = s.stopped := rfl
@[simp] theorem setGen_pos (s : State) (n : Nat) (f : Gen) : (s.setGen n f).pos = s.pos := rfl
@[simp] theorem setGen_boot (s : State) (n : Nat) (f : Gen) : (s.setGen n f).boot = s.boot := rfl
@[simp] theorem setGen_regs (s : State) (n : Nat) (f : Gen) : (s.setGen n f).regs = s.regs := rfl
@[simp] theorem setGen_latch (s : State) (n : Nat) (f : Gen) : (s.setGen n f).latch = s.latch := rfl
@[simp] theorem setGen_lowHeld (s : State) (n : Nat) (f : Gen) : (s.setGen n f).lowHeld = s.lowHeld := rfl
@[simp] theorem setGen_locks (s : State) (n : Nat) (f : Gen) : (s.setGen n f).locks = s.locks := rfl
@[simp] theorem setGen_basin (s : State) (n : Nat) (f : Gen) : (s.setGen n f).basin = s.basin := rfl
@[simp] theorem setGen_xspi (s : State) (n : Nat) (f : Gen) : (s.setGen n f).xspi = s.xspi := rfl
@[simp] theorem setGen_out (s : State) (n : Nat) (f : Gen) : (s.setGen n f).out = s.out := rfl
@[simp] theorem setGen_fresh (s : State) (n : Nat) (f : Gen) : (s.setGen n f).fresh = s.fresh := rfl
@[simp] theorem setGen_err (s : State) (n : Nat) (f : Gen) : (s.setGen n f).err = s.err := rfl
@[simp] theorem setGen_sed (s : State) (n : Nat) (f : Gen) : (s.setGen n f).sed = s.sed := rfl
@[simp] theorem setGen_sib (s : State) (n : Nat) (f : Gen) : (s.setGen n f).sib = s.sib := rfl
@[simp] theorem setGen_txn (s : State) (n : Nat) (f : Gen) : (s.setGen n f).txn = s.txn := rfl
@[simp] theorem setGen_bsn (s : State) (n : Nat) (f : Gen) : (s.setGen n f).bsn = s.bsn := rfl
@[simp] theorem setGen_monLive (s : State) (n : Nat) (f : Gen) : (s.setGen n f).monLive = s.monLive := rfl
@[simp] theorem setGen_monSnap (s : State) (n : Nat) (f : Gen) : (s.setGen n f).monSnap = s.monSnap := rfl
@[simp] theorem setGen_monArmed (s : State) (n : Nat) (f : Gen) : (s.setGen n f).monArmed = s.monArmed := rfl
@[simp] theorem setGen_scn (s : State) (n : Nat) (f : Gen) : (s.setGen n f).scn = s.scn := rfl
@[simp] theorem setGen_slv (s : State) (n : Nat) (f : Gen) : (s.setGen n f).slv = s.slv := rfl
@[simp] theorem setGen_time (s : State) (n : Nat) (f : Gen) : (s.setGen n f).time = s.time := rfl
@[simp] theorem setGen_field (s : State) (n : Nat) (f : Gen) : (s.setGen n f).field = s.field := rfl
@[simp] theorem setGen_adc (s : State) (n : Nat) (f : Gen) : (s.setGen n f).adc = s.adc := rfl
@[simp] theorem setGen_nrg (s : State) (n : Nat) (f : Gen) : (s.setGen n f).nrg = s.nrg := rfl
@[simp] theorem setGen_rsv (s : State) (n : Nat) (f : Gen) : (s.setGen n f).rsv = s.rsv := rfl
@[simp] theorem setGen_stn (s : State) (n : Nat) (f : Gen) : (s.setGen n f).stn = s.stn := rfl
@[simp] theorem setGen_lum (s : State) (n : Nat) (f : Gen) : (s.setGen n f).lum = s.lum := rfl
@[simp] theorem setGen_pms (s : State) (n : Nat) (f : Gen) : (s.setGen n f).pms = s.pms := rfl
@[simp] theorem setGen_net (s : State) (n : Nat) (f : Gen) : (s.setGen n f).net = s.net := rfl
@[simp] theorem setGen_wear (s : State) (n : Nat) (f : Gen) : (s.setGen n f).wear = s.wear := rfl
@[simp] theorem setGen_tap (s : State) (n : Nat) (f : Gen) : (s.setGen n f).tap = s.tap := rfl
@[simp] theorem setGen_pending (s : State) (n : Nat) (f : Gen) : (s.setGen n f).pending = s.pending := rfl
@[simp] theorem setGen_awake (s : State) (n : Nat) (f : Gen) : (s.setGen n f).awake = s.awake := rfl
@[simp] theorem setGen_reg (s : State) (n : Nat) (f : Gen) (a : Nat) : (s.setGen n f).reg a = s.reg a := rfl
@[simp] theorem setGen_fld (s : State) (n : Nat) (f : Gen) (a : Fd) : (s.setGen n f).fld a = s.fld a := rfl
@[simp] theorem setGen_flag (s : State) (n : Nat) (f : Gen) (a : Fd) : (s.setGen n f).flag a = s.flag a := rfl
@[simp] theorem setGen_byte (s : State) (n : Nat) (f : Gen) (a : Nat) : (s.setGen n f).byte a = s.byte a := rfl
@[simp] theorem setGen_word (s : State) (n : Nat) (f : Gen) (a : Nat) : (s.setGen n f).word a = s.word a := rfl

/-! ### setStation -/

@[simp] theorem setStation_mode (s : State) (n : Nat) (f : Station → Station) : (s.setStation n f).mode = s.mode := rfl
@[simp] theorem setStation_mainOn (s : State) (n : Nat) (f : Station → Station) : (s.setStation n f).mainOn = s.mainOn := rfl
@[simp] theorem setStation_held (s : State) (n : Nat) (f : Station → Station) : (s.setStation n f).held = s.held := rfl
@[simp] theorem setStation_stopped (s : State) (n : Nat) (f : Station → Station) : (s.setStation n f).stopped = s.stopped := rfl
@[simp] theorem setStation_pos (s : State) (n : Nat) (f : Station → Station) : (s.setStation n f).pos = s.pos := rfl
@[simp] theorem setStation_boot (s : State) (n : Nat) (f : Station → Station) : (s.setStation n f).boot = s.boot := rfl
@[simp] theorem setStation_regs (s : State) (n : Nat) (f : Station → Station) : (s.setStation n f).regs = s.regs := rfl
@[simp] theorem setStation_latch (s : State) (n : Nat) (f : Station → Station) : (s.setStation n f).latch = s.latch := rfl
@[simp] theorem setStation_lowHeld (s : State) (n : Nat) (f : Station → Station) : (s.setStation n f).lowHeld = s.lowHeld := rfl
@[simp] theorem setStation_locks (s : State) (n : Nat) (f : Station → Station) : (s.setStation n f).locks = s.locks := rfl
@[simp] theorem setStation_basin (s : State) (n : Nat) (f : Station → Station) : (s.setStation n f).basin = s.basin := rfl
@[simp] theorem setStation_xspi (s : State) (n : Nat) (f : Station → Station) : (s.setStation n f).xspi = s.xspi := rfl
@[simp] theorem setStation_out (s : State) (n : Nat) (f : Station → Station) : (s.setStation n f).out = s.out := rfl
@[simp] theorem setStation_fresh (s : State) (n : Nat) (f : Station → Station) : (s.setStation n f).fresh = s.fresh := rfl
@[simp] theorem setStation_err (s : State) (n : Nat) (f : Station → Station) : (s.setStation n f).err = s.err := rfl
@[simp] theorem setStation_sed (s : State) (n : Nat) (f : Station → Station) : (s.setStation n f).sed = s.sed := rfl
@[simp] theorem setStation_sib (s : State) (n : Nat) (f : Station → Station) : (s.setStation n f).sib = s.sib := rfl
@[simp] theorem setStation_txn (s : State) (n : Nat) (f : Station → Station) : (s.setStation n f).txn = s.txn := rfl
@[simp] theorem setStation_bsn (s : State) (n : Nat) (f : Station → Station) : (s.setStation n f).bsn = s.bsn := rfl
@[simp] theorem setStation_monLive (s : State) (n : Nat) (f : Station → Station) : (s.setStation n f).monLive = s.monLive := rfl
@[simp] theorem setStation_monSnap (s : State) (n : Nat) (f : Station → Station) : (s.setStation n f).monSnap = s.monSnap := rfl
@[simp] theorem setStation_monArmed (s : State) (n : Nat) (f : Station → Station) : (s.setStation n f).monArmed = s.monArmed := rfl
@[simp] theorem setStation_scn (s : State) (n : Nat) (f : Station → Station) : (s.setStation n f).scn = s.scn := rfl
@[simp] theorem setStation_slv (s : State) (n : Nat) (f : Station → Station) : (s.setStation n f).slv = s.slv := rfl
@[simp] theorem setStation_time (s : State) (n : Nat) (f : Station → Station) : (s.setStation n f).time = s.time := rfl
@[simp] theorem setStation_field (s : State) (n : Nat) (f : Station → Station) : (s.setStation n f).field = s.field := rfl
@[simp] theorem setStation_lop (s : State) (n : Nat) (f : Station → Station) : (s.setStation n f).lop = s.lop := rfl
@[simp] theorem setStation_adc (s : State) (n : Nat) (f : Station → Station) : (s.setStation n f).adc = s.adc := rfl
@[simp] theorem setStation_nrg (s : State) (n : Nat) (f : Station → Station) : (s.setStation n f).nrg = s.nrg := rfl
@[simp] theorem setStation_rsv (s : State) (n : Nat) (f : Station → Station) : (s.setStation n f).rsv = s.rsv := rfl
@[simp] theorem setStation_lum (s : State) (n : Nat) (f : Station → Station) : (s.setStation n f).lum = s.lum := rfl
@[simp] theorem setStation_pms (s : State) (n : Nat) (f : Station → Station) : (s.setStation n f).pms = s.pms := rfl
@[simp] theorem setStation_net (s : State) (n : Nat) (f : Station → Station) : (s.setStation n f).net = s.net := rfl
@[simp] theorem setStation_wear (s : State) (n : Nat) (f : Station → Station) : (s.setStation n f).wear = s.wear := rfl
@[simp] theorem setStation_tap (s : State) (n : Nat) (f : Station → Station) : (s.setStation n f).tap = s.tap := rfl
@[simp] theorem setStation_pending (s : State) (n : Nat) (f : Station → Station) : (s.setStation n f).pending = s.pending := rfl
@[simp] theorem setStation_awake (s : State) (n : Nat) (f : Station → Station) : (s.setStation n f).awake = s.awake := rfl
@[simp] theorem setStation_reg (s : State) (n : Nat) (f : Station → Station) (a : Nat) : (s.setStation n f).reg a = s.reg a := rfl
@[simp] theorem setStation_fld (s : State) (n : Nat) (f : Station → Station) (a : Fd) : (s.setStation n f).fld a = s.fld a := rfl
@[simp] theorem setStation_flag (s : State) (n : Nat) (f : Station → Station) (a : Fd) : (s.setStation n f).flag a = s.flag a := rfl
@[simp] theorem setStation_byte (s : State) (n : Nat) (f : Station → Station) (a : Nat) : (s.setStation n f).byte a = s.byte a := rfl
@[simp] theorem setStation_word (s : State) (n : Nat) (f : Station → Station) (a : Nat) : (s.setStation n f).word a = s.word a := rfl

/-! ### setDch -/

@[simp] theorem setDch_mode (s : State) (n : Nat) (f : Dio → Dio) : (s.setDch n f).mode = s.mode := rfl
@[simp] theorem setDch_mainOn (s : State) (n : Nat) (f : Dio → Dio) : (s.setDch n f).mainOn = s.mainOn := rfl
@[simp] theorem setDch_held (s : State) (n : Nat) (f : Dio → Dio) : (s.setDch n f).held = s.held := rfl
@[simp] theorem setDch_stopped (s : State) (n : Nat) (f : Dio → Dio) : (s.setDch n f).stopped = s.stopped := rfl
@[simp] theorem setDch_pos (s : State) (n : Nat) (f : Dio → Dio) : (s.setDch n f).pos = s.pos := rfl
@[simp] theorem setDch_boot (s : State) (n : Nat) (f : Dio → Dio) : (s.setDch n f).boot = s.boot := rfl
@[simp] theorem setDch_regs (s : State) (n : Nat) (f : Dio → Dio) : (s.setDch n f).regs = s.regs := rfl
@[simp] theorem setDch_latch (s : State) (n : Nat) (f : Dio → Dio) : (s.setDch n f).latch = s.latch := rfl
@[simp] theorem setDch_lowHeld (s : State) (n : Nat) (f : Dio → Dio) : (s.setDch n f).lowHeld = s.lowHeld := rfl
@[simp] theorem setDch_locks (s : State) (n : Nat) (f : Dio → Dio) : (s.setDch n f).locks = s.locks := rfl
@[simp] theorem setDch_basin (s : State) (n : Nat) (f : Dio → Dio) : (s.setDch n f).basin = s.basin := rfl
@[simp] theorem setDch_xspi (s : State) (n : Nat) (f : Dio → Dio) : (s.setDch n f).xspi = s.xspi := rfl
@[simp] theorem setDch_out (s : State) (n : Nat) (f : Dio → Dio) : (s.setDch n f).out = s.out := rfl
@[simp] theorem setDch_fresh (s : State) (n : Nat) (f : Dio → Dio) : (s.setDch n f).fresh = s.fresh := rfl
@[simp] theorem setDch_err (s : State) (n : Nat) (f : Dio → Dio) : (s.setDch n f).err = s.err := rfl
@[simp] theorem setDch_sed (s : State) (n : Nat) (f : Dio → Dio) : (s.setDch n f).sed = s.sed := rfl
@[simp] theorem setDch_sib (s : State) (n : Nat) (f : Dio → Dio) : (s.setDch n f).sib = s.sib := rfl
@[simp] theorem setDch_txn (s : State) (n : Nat) (f : Dio → Dio) : (s.setDch n f).txn = s.txn := rfl
@[simp] theorem setDch_bsn (s : State) (n : Nat) (f : Dio → Dio) : (s.setDch n f).bsn = s.bsn := rfl
@[simp] theorem setDch_monLive (s : State) (n : Nat) (f : Dio → Dio) : (s.setDch n f).monLive = s.monLive := rfl
@[simp] theorem setDch_monSnap (s : State) (n : Nat) (f : Dio → Dio) : (s.setDch n f).monSnap = s.monSnap := rfl
@[simp] theorem setDch_monArmed (s : State) (n : Nat) (f : Dio → Dio) : (s.setDch n f).monArmed = s.monArmed := rfl
@[simp] theorem setDch_scn (s : State) (n : Nat) (f : Dio → Dio) : (s.setDch n f).scn = s.scn := rfl
@[simp] theorem setDch_slv (s : State) (n : Nat) (f : Dio → Dio) : (s.setDch n f).slv = s.slv := rfl
@[simp] theorem setDch_time (s : State) (n : Nat) (f : Dio → Dio) : (s.setDch n f).time = s.time := rfl
@[simp] theorem setDch_lop (s : State) (n : Nat) (f : Dio → Dio) : (s.setDch n f).lop = s.lop := rfl
@[simp] theorem setDch_adc (s : State) (n : Nat) (f : Dio → Dio) : (s.setDch n f).adc = s.adc := rfl
@[simp] theorem setDch_nrg (s : State) (n : Nat) (f : Dio → Dio) : (s.setDch n f).nrg = s.nrg := rfl
@[simp] theorem setDch_rsv (s : State) (n : Nat) (f : Dio → Dio) : (s.setDch n f).rsv = s.rsv := rfl
@[simp] theorem setDch_stn (s : State) (n : Nat) (f : Dio → Dio) : (s.setDch n f).stn = s.stn := rfl
@[simp] theorem setDch_lum (s : State) (n : Nat) (f : Dio → Dio) : (s.setDch n f).lum = s.lum := rfl
@[simp] theorem setDch_pms (s : State) (n : Nat) (f : Dio → Dio) : (s.setDch n f).pms = s.pms := rfl
@[simp] theorem setDch_net (s : State) (n : Nat) (f : Dio → Dio) : (s.setDch n f).net = s.net := rfl
@[simp] theorem setDch_wear (s : State) (n : Nat) (f : Dio → Dio) : (s.setDch n f).wear = s.wear := rfl
@[simp] theorem setDch_tap (s : State) (n : Nat) (f : Dio → Dio) : (s.setDch n f).tap = s.tap := rfl
@[simp] theorem setDch_pending (s : State) (n : Nat) (f : Dio → Dio) : (s.setDch n f).pending = s.pending := rfl
@[simp] theorem setDch_awake (s : State) (n : Nat) (f : Dio → Dio) : (s.setDch n f).awake = s.awake := rfl
@[simp] theorem setDch_reg (s : State) (n : Nat) (f : Dio → Dio) (a : Nat) : (s.setDch n f).reg a = s.reg a := rfl
@[simp] theorem setDch_fld (s : State) (n : Nat) (f : Dio → Dio) (a : Fd) : (s.setDch n f).fld a = s.fld a := rfl
@[simp] theorem setDch_flag (s : State) (n : Nat) (f : Dio → Dio) (a : Fd) : (s.setDch n f).flag a = s.flag a := rfl
@[simp] theorem setDch_byte (s : State) (n : Nat) (f : Dio → Dio) (a : Nat) : (s.setDch n f).byte a = s.byte a := rfl
@[simp] theorem setDch_word (s : State) (n : Nat) (f : Dio → Dio) (a : Nat) : (s.setDch n f).word a = s.word a := rfl

/-! ### setLeg -/

@[simp] theorem setLeg_mode (s : State) (n : Nat) (f : Word) : (s.setLeg n f).mode = s.mode := rfl
@[simp] theorem setLeg_mainOn (s : State) (n : Nat) (f : Word) : (s.setLeg n f).mainOn = s.mainOn := rfl
@[simp] theorem setLeg_held (s : State) (n : Nat) (f : Word) : (s.setLeg n f).held = s.held := rfl
@[simp] theorem setLeg_stopped (s : State) (n : Nat) (f : Word) : (s.setLeg n f).stopped = s.stopped := rfl
@[simp] theorem setLeg_pos (s : State) (n : Nat) (f : Word) : (s.setLeg n f).pos = s.pos := rfl
@[simp] theorem setLeg_boot (s : State) (n : Nat) (f : Word) : (s.setLeg n f).boot = s.boot := rfl
@[simp] theorem setLeg_regs (s : State) (n : Nat) (f : Word) : (s.setLeg n f).regs = s.regs := rfl
@[simp] theorem setLeg_latch (s : State) (n : Nat) (f : Word) : (s.setLeg n f).latch = s.latch := rfl
@[simp] theorem setLeg_lowHeld (s : State) (n : Nat) (f : Word) : (s.setLeg n f).lowHeld = s.lowHeld := rfl
@[simp] theorem setLeg_locks (s : State) (n : Nat) (f : Word) : (s.setLeg n f).locks = s.locks := rfl
@[simp] theorem setLeg_basin (s : State) (n : Nat) (f : Word) : (s.setLeg n f).basin = s.basin := rfl
@[simp] theorem setLeg_xspi (s : State) (n : Nat) (f : Word) : (s.setLeg n f).xspi = s.xspi := rfl
@[simp] theorem setLeg_out (s : State) (n : Nat) (f : Word) : (s.setLeg n f).out = s.out := rfl
@[simp] theorem setLeg_fresh (s : State) (n : Nat) (f : Word) : (s.setLeg n f).fresh = s.fresh := rfl
@[simp] theorem setLeg_err (s : State) (n : Nat) (f : Word) : (s.setLeg n f).err = s.err := rfl
@[simp] theorem setLeg_sed (s : State) (n : Nat) (f : Word) : (s.setLeg n f).sed = s.sed := rfl
@[simp] theorem setLeg_sib (s : State) (n : Nat) (f : Word) : (s.setLeg n f).sib = s.sib := rfl
@[simp] theorem setLeg_txn (s : State) (n : Nat) (f : Word) : (s.setLeg n f).txn = s.txn := rfl
@[simp] theorem setLeg_bsn (s : State) (n : Nat) (f : Word) : (s.setLeg n f).bsn = s.bsn := rfl
@[simp] theorem setLeg_monLive (s : State) (n : Nat) (f : Word) : (s.setLeg n f).monLive = s.monLive := rfl
@[simp] theorem setLeg_monSnap (s : State) (n : Nat) (f : Word) : (s.setLeg n f).monSnap = s.monSnap := rfl
@[simp] theorem setLeg_monArmed (s : State) (n : Nat) (f : Word) : (s.setLeg n f).monArmed = s.monArmed := rfl
@[simp] theorem setLeg_scn (s : State) (n : Nat) (f : Word) : (s.setLeg n f).scn = s.scn := rfl
@[simp] theorem setLeg_slv (s : State) (n : Nat) (f : Word) : (s.setLeg n f).slv = s.slv := rfl
@[simp] theorem setLeg_time (s : State) (n : Nat) (f : Word) : (s.setLeg n f).time = s.time := rfl
@[simp] theorem setLeg_lop (s : State) (n : Nat) (f : Word) : (s.setLeg n f).lop = s.lop := rfl
@[simp] theorem setLeg_adc (s : State) (n : Nat) (f : Word) : (s.setLeg n f).adc = s.adc := rfl
@[simp] theorem setLeg_nrg (s : State) (n : Nat) (f : Word) : (s.setLeg n f).nrg = s.nrg := rfl
@[simp] theorem setLeg_rsv (s : State) (n : Nat) (f : Word) : (s.setLeg n f).rsv = s.rsv := rfl
@[simp] theorem setLeg_stn (s : State) (n : Nat) (f : Word) : (s.setLeg n f).stn = s.stn := rfl
@[simp] theorem setLeg_lum (s : State) (n : Nat) (f : Word) : (s.setLeg n f).lum = s.lum := rfl
@[simp] theorem setLeg_pms (s : State) (n : Nat) (f : Word) : (s.setLeg n f).pms = s.pms := rfl
@[simp] theorem setLeg_net (s : State) (n : Nat) (f : Word) : (s.setLeg n f).net = s.net := rfl
@[simp] theorem setLeg_wear (s : State) (n : Nat) (f : Word) : (s.setLeg n f).wear = s.wear := rfl
@[simp] theorem setLeg_tap (s : State) (n : Nat) (f : Word) : (s.setLeg n f).tap = s.tap := rfl
@[simp] theorem setLeg_pending (s : State) (n : Nat) (f : Word) : (s.setLeg n f).pending = s.pending := rfl
@[simp] theorem setLeg_awake (s : State) (n : Nat) (f : Word) : (s.setLeg n f).awake = s.awake := rfl
@[simp] theorem setLeg_reg (s : State) (n : Nat) (f : Word) (a : Nat) : (s.setLeg n f).reg a = s.reg a := rfl
@[simp] theorem setLeg_fld (s : State) (n : Nat) (f : Word) (a : Fd) : (s.setLeg n f).fld a = s.fld a := rfl
@[simp] theorem setLeg_flag (s : State) (n : Nat) (f : Word) (a : Fd) : (s.setLeg n f).flag a = s.flag a := rfl
@[simp] theorem setLeg_byte (s : State) (n : Nat) (f : Word) (a : Nat) : (s.setLeg n f).byte a = s.byte a := rfl
@[simp] theorem setLeg_word (s : State) (n : Nat) (f : Word) (a : Nat) : (s.setLeg n f).word a = s.word a := rfl

/-! ### setSlot -/

@[simp] theorem setSlot_mode (s : State) (n : Nat) (f : Option Event) : (s.setSlot n f).mode = s.mode := rfl
@[simp] theorem setSlot_mainOn (s : State) (n : Nat) (f : Option Event) : (s.setSlot n f).mainOn = s.mainOn := rfl
@[simp] theorem setSlot_held (s : State) (n : Nat) (f : Option Event) : (s.setSlot n f).held = s.held := rfl
@[simp] theorem setSlot_stopped (s : State) (n : Nat) (f : Option Event) : (s.setSlot n f).stopped = s.stopped := rfl
@[simp] theorem setSlot_pos (s : State) (n : Nat) (f : Option Event) : (s.setSlot n f).pos = s.pos := rfl
@[simp] theorem setSlot_boot (s : State) (n : Nat) (f : Option Event) : (s.setSlot n f).boot = s.boot := rfl
@[simp] theorem setSlot_regs (s : State) (n : Nat) (f : Option Event) : (s.setSlot n f).regs = s.regs := rfl
@[simp] theorem setSlot_latch (s : State) (n : Nat) (f : Option Event) : (s.setSlot n f).latch = s.latch := rfl
@[simp] theorem setSlot_lowHeld (s : State) (n : Nat) (f : Option Event) : (s.setSlot n f).lowHeld = s.lowHeld := rfl
@[simp] theorem setSlot_locks (s : State) (n : Nat) (f : Option Event) : (s.setSlot n f).locks = s.locks := rfl
@[simp] theorem setSlot_basin (s : State) (n : Nat) (f : Option Event) : (s.setSlot n f).basin = s.basin := rfl
@[simp] theorem setSlot_xspi (s : State) (n : Nat) (f : Option Event) : (s.setSlot n f).xspi = s.xspi := rfl
@[simp] theorem setSlot_out (s : State) (n : Nat) (f : Option Event) : (s.setSlot n f).out = s.out := rfl
@[simp] theorem setSlot_fresh (s : State) (n : Nat) (f : Option Event) : (s.setSlot n f).fresh = s.fresh := rfl
@[simp] theorem setSlot_sed (s : State) (n : Nat) (f : Option Event) : (s.setSlot n f).sed = s.sed := rfl
@[simp] theorem setSlot_sib (s : State) (n : Nat) (f : Option Event) : (s.setSlot n f).sib = s.sib := rfl
@[simp] theorem setSlot_txn (s : State) (n : Nat) (f : Option Event) : (s.setSlot n f).txn = s.txn := rfl
@[simp] theorem setSlot_bsn (s : State) (n : Nat) (f : Option Event) : (s.setSlot n f).bsn = s.bsn := rfl
@[simp] theorem setSlot_monLive (s : State) (n : Nat) (f : Option Event) : (s.setSlot n f).monLive = s.monLive := rfl
@[simp] theorem setSlot_monSnap (s : State) (n : Nat) (f : Option Event) : (s.setSlot n f).monSnap = s.monSnap := rfl
@[simp] theorem setSlot_monArmed (s : State) (n : Nat) (f : Option Event) : (s.setSlot n f).monArmed = s.monArmed := rfl
@[simp] theorem setSlot_scn (s : State) (n : Nat) (f : Option Event) : (s.setSlot n f).scn = s.scn := rfl
@[simp] theorem setSlot_slv (s : State) (n : Nat) (f : Option Event) : (s.setSlot n f).slv = s.slv := rfl
@[simp] theorem setSlot_time (s : State) (n : Nat) (f : Option Event) : (s.setSlot n f).time = s.time := rfl
@[simp] theorem setSlot_field (s : State) (n : Nat) (f : Option Event) : (s.setSlot n f).field = s.field := rfl
@[simp] theorem setSlot_lop (s : State) (n : Nat) (f : Option Event) : (s.setSlot n f).lop = s.lop := rfl
@[simp] theorem setSlot_adc (s : State) (n : Nat) (f : Option Event) : (s.setSlot n f).adc = s.adc := rfl
@[simp] theorem setSlot_nrg (s : State) (n : Nat) (f : Option Event) : (s.setSlot n f).nrg = s.nrg := rfl
@[simp] theorem setSlot_rsv (s : State) (n : Nat) (f : Option Event) : (s.setSlot n f).rsv = s.rsv := rfl
@[simp] theorem setSlot_stn (s : State) (n : Nat) (f : Option Event) : (s.setSlot n f).stn = s.stn := rfl
@[simp] theorem setSlot_lum (s : State) (n : Nat) (f : Option Event) : (s.setSlot n f).lum = s.lum := rfl
@[simp] theorem setSlot_pms (s : State) (n : Nat) (f : Option Event) : (s.setSlot n f).pms = s.pms := rfl
@[simp] theorem setSlot_net (s : State) (n : Nat) (f : Option Event) : (s.setSlot n f).net = s.net := rfl
@[simp] theorem setSlot_wear (s : State) (n : Nat) (f : Option Event) : (s.setSlot n f).wear = s.wear := rfl
@[simp] theorem setSlot_tap (s : State) (n : Nat) (f : Option Event) : (s.setSlot n f).tap = s.tap := rfl
@[simp] theorem setSlot_pending (s : State) (n : Nat) (f : Option Event) : (s.setSlot n f).pending = s.pending := rfl
@[simp] theorem setSlot_awake (s : State) (n : Nat) (f : Option Event) : (s.setSlot n f).awake = s.awake := rfl
@[simp] theorem setSlot_reg (s : State) (n : Nat) (f : Option Event) (a : Nat) : (s.setSlot n f).reg a = s.reg a := rfl
@[simp] theorem setSlot_fld (s : State) (n : Nat) (f : Option Event) (a : Fd) : (s.setSlot n f).fld a = s.fld a := rfl
@[simp] theorem setSlot_flag (s : State) (n : Nat) (f : Option Event) (a : Fd) : (s.setSlot n f).flag a = s.flag a := rfl
@[simp] theorem setSlot_byte (s : State) (n : Nat) (f : Option Event) (a : Nat) : (s.setSlot n f).byte a = s.byte a := rfl
@[simp] theorem setSlot_word (s : State) (n : Nat) (f : Option Event) (a : Nat) : (s.setSlot n f).word a = s.word a := rfl

/-! ### setQueue -/

@[simp] theorem setQueue_mode (s : State) (n : Nat) (f : List Event) : (s.setQueue n f).mode = s.mode := rfl
@[simp] theorem setQueue_mainOn (s : State) (n : Nat) (f : List Event) : (s.setQueue n f).mainOn = s.mainOn := rfl
@[simp] theorem setQueue_held (s : State) (n : Nat) (f : List Event) : (s.setQueue n f).held = s.held := rfl
@[simp] theorem setQueue_stopped (s : State) (n : Nat) (f : List Event) : (s.setQueue n f).stopped = s.stopped := rfl
@[simp] theorem setQueue_pos (s : State) (n : Nat) (f : List Event) : (s.setQueue n f).pos = s.pos := rfl
@[simp] theorem setQueue_boot (s : State) (n : Nat) (f : List Event) : (s.setQueue n f).boot = s.boot := rfl
@[simp] theorem setQueue_regs (s : State) (n : Nat) (f : List Event) : (s.setQueue n f).regs = s.regs := rfl
@[simp] theorem setQueue_latch (s : State) (n : Nat) (f : List Event) : (s.setQueue n f).latch = s.latch := rfl
@[simp] theorem setQueue_lowHeld (s : State) (n : Nat) (f : List Event) : (s.setQueue n f).lowHeld = s.lowHeld := rfl
@[simp] theorem setQueue_locks (s : State) (n : Nat) (f : List Event) : (s.setQueue n f).locks = s.locks := rfl
@[simp] theorem setQueue_basin (s : State) (n : Nat) (f : List Event) : (s.setQueue n f).basin = s.basin := rfl
@[simp] theorem setQueue_xspi (s : State) (n : Nat) (f : List Event) : (s.setQueue n f).xspi = s.xspi := rfl
@[simp] theorem setQueue_out (s : State) (n : Nat) (f : List Event) : (s.setQueue n f).out = s.out := rfl
@[simp] theorem setQueue_fresh (s : State) (n : Nat) (f : List Event) : (s.setQueue n f).fresh = s.fresh := rfl
@[simp] theorem setQueue_sed (s : State) (n : Nat) (f : List Event) : (s.setQueue n f).sed = s.sed := rfl
@[simp] theorem setQueue_sib (s : State) (n : Nat) (f : List Event) : (s.setQueue n f).sib = s.sib := rfl
@[simp] theorem setQueue_txn (s : State) (n : Nat) (f : List Event) : (s.setQueue n f).txn = s.txn := rfl
@[simp] theorem setQueue_bsn (s : State) (n : Nat) (f : List Event) : (s.setQueue n f).bsn = s.bsn := rfl
@[simp] theorem setQueue_monLive (s : State) (n : Nat) (f : List Event) : (s.setQueue n f).monLive = s.monLive := rfl
@[simp] theorem setQueue_monSnap (s : State) (n : Nat) (f : List Event) : (s.setQueue n f).monSnap = s.monSnap := rfl
@[simp] theorem setQueue_monArmed (s : State) (n : Nat) (f : List Event) : (s.setQueue n f).monArmed = s.monArmed := rfl
@[simp] theorem setQueue_scn (s : State) (n : Nat) (f : List Event) : (s.setQueue n f).scn = s.scn := rfl
@[simp] theorem setQueue_slv (s : State) (n : Nat) (f : List Event) : (s.setQueue n f).slv = s.slv := rfl
@[simp] theorem setQueue_time (s : State) (n : Nat) (f : List Event) : (s.setQueue n f).time = s.time := rfl
@[simp] theorem setQueue_field (s : State) (n : Nat) (f : List Event) : (s.setQueue n f).field = s.field := rfl
@[simp] theorem setQueue_lop (s : State) (n : Nat) (f : List Event) : (s.setQueue n f).lop = s.lop := rfl
@[simp] theorem setQueue_adc (s : State) (n : Nat) (f : List Event) : (s.setQueue n f).adc = s.adc := rfl
@[simp] theorem setQueue_nrg (s : State) (n : Nat) (f : List Event) : (s.setQueue n f).nrg = s.nrg := rfl
@[simp] theorem setQueue_rsv (s : State) (n : Nat) (f : List Event) : (s.setQueue n f).rsv = s.rsv := rfl
@[simp] theorem setQueue_stn (s : State) (n : Nat) (f : List Event) : (s.setQueue n f).stn = s.stn := rfl
@[simp] theorem setQueue_lum (s : State) (n : Nat) (f : List Event) : (s.setQueue n f).lum = s.lum := rfl
@[simp] theorem setQueue_pms (s : State) (n : Nat) (f : List Event) : (s.setQueue n f).pms = s.pms := rfl
@[simp] theorem setQueue_net (s : State) (n : Nat) (f : List Event) : (s.setQueue n f).net = s.net := rfl
@[simp] theorem setQueue_wear (s : State) (n : Nat) (f : List Event) : (s.setQueue n f).wear = s.wear := rfl
@[simp] theorem setQueue_tap (s : State) (n : Nat) (f : List Event) : (s.setQueue n f).tap = s.tap := rfl
@[simp] theorem setQueue_pending (s : State) (n : Nat) (f : List Event) : (s.setQueue n f).pending = s.pending := rfl
@[simp] theorem setQueue_awake (s : State) (n : Nat) (f : List Event) : (s.setQueue n f).awake = s.awake := rfl
@[simp] theorem setQueue_reg (s : State) (n : Nat) (f : List Event) (a : Nat) : (s.setQueue n f).reg a = s.reg a := rfl
@[simp] theorem setQueue_fld (s : State) (n : Nat) (f : List Event) (a : Fd) : (s.setQueue n f).fld a = s.fld a := rfl
@[simp] theorem setQueue_flag (s : State) (n : Nat) (f : List Event) (a : Fd) : (s.setQueue n f).flag a = s.flag a := rfl
@[simp] theorem setQueue_byte (s : State) (n : Nat) (f : List Event) (a : Nat) : (s.setQueue n f).byte a = s.byte a := rfl
@[simp] theorem setQueue_word (s : State) (n : Nat) (f : List Event) (a : Nat) : (s.setQueue n f).word a = s.word a := rfl

/-! ### setStn -/

@[simp] theorem setStn_mode (s : State) (f : StnState → StnState) : (s.setStn f).mode = s.mode := rfl
@[simp] theorem setStn_mainOn (s : State) (f : StnState → StnState) : (s.setStn f).mainOn = s.mainOn := rfl
@[simp] theorem setStn_held (s : State) (f : StnState → StnState) : (s.setStn f).held = s.held := rfl
@[simp] theorem setStn_stopped (s : State) (f : StnState → StnState) : (s.setStn f).stopped = s.stopped := rfl
@[simp] theorem setStn_pos (s : State) (f : StnState → StnState) : (s.setStn f).pos = s.pos := rfl
@[simp] theorem setStn_boot (s : State) (f : StnState → StnState) : (s.setStn f).boot = s.boot := rfl
@[simp] theorem setStn_regs (s : State) (f : StnState → StnState) : (s.setStn f).regs = s.regs := rfl
@[simp] theorem setStn_latch (s : State) (f : StnState → StnState) : (s.setStn f).latch = s.latch := rfl
@[simp] theorem setStn_lowHeld (s : State) (f : StnState → StnState) : (s.setStn f).lowHeld = s.lowHeld := rfl
@[simp] theorem setStn_locks (s : State) (f : StnState → StnState) : (s.setStn f).locks = s.locks := rfl
@[simp] theorem setStn_basin (s : State) (f : StnState → StnState) : (s.setStn f).basin = s.basin := rfl
@[simp] theorem setStn_xspi (s : State) (f : StnState → StnState) : (s.setStn f).xspi = s.xspi := rfl
@[simp] theorem setStn_out (s : State) (f : StnState → StnState) : (s.setStn f).out = s.out := rfl
@[simp] theorem setStn_fresh (s : State) (f : StnState → StnState) : (s.setStn f).fresh = s.fresh := rfl
@[simp] theorem setStn_err (s : State) (f : StnState → StnState) : (s.setStn f).err = s.err := rfl
@[simp] theorem setStn_sed (s : State) (f : StnState → StnState) : (s.setStn f).sed = s.sed := rfl
@[simp] theorem setStn_sib (s : State) (f : StnState → StnState) : (s.setStn f).sib = s.sib := rfl
@[simp] theorem setStn_txn (s : State) (f : StnState → StnState) : (s.setStn f).txn = s.txn := rfl
@[simp] theorem setStn_bsn (s : State) (f : StnState → StnState) : (s.setStn f).bsn = s.bsn := rfl
@[simp] theorem setStn_monLive (s : State) (f : StnState → StnState) : (s.setStn f).monLive = s.monLive := rfl
@[simp] theorem setStn_monSnap (s : State) (f : StnState → StnState) : (s.setStn f).monSnap = s.monSnap := rfl
@[simp] theorem setStn_monArmed (s : State) (f : StnState → StnState) : (s.setStn f).monArmed = s.monArmed := rfl
@[simp] theorem setStn_scn (s : State) (f : StnState → StnState) : (s.setStn f).scn = s.scn := rfl
@[simp] theorem setStn_slv (s : State) (f : StnState → StnState) : (s.setStn f).slv = s.slv := rfl
@[simp] theorem setStn_time (s : State) (f : StnState → StnState) : (s.setStn f).time = s.time := rfl
@[simp] theorem setStn_field (s : State) (f : StnState → StnState) : (s.setStn f).field = s.field := rfl
@[simp] theorem setStn_lop (s : State) (f : StnState → StnState) : (s.setStn f).lop = s.lop := rfl
@[simp] theorem setStn_adc (s : State) (f : StnState → StnState) : (s.setStn f).adc = s.adc := rfl
@[simp] theorem setStn_nrg (s : State) (f : StnState → StnState) : (s.setStn f).nrg = s.nrg := rfl
@[simp] theorem setStn_rsv (s : State) (f : StnState → StnState) : (s.setStn f).rsv = s.rsv := rfl
@[simp] theorem setStn_lum (s : State) (f : StnState → StnState) : (s.setStn f).lum = s.lum := rfl
@[simp] theorem setStn_pms (s : State) (f : StnState → StnState) : (s.setStn f).pms = s.pms := rfl
@[simp] theorem setStn_net (s : State) (f : StnState → StnState) : (s.setStn f).net = s.net := rfl
@[simp] theorem setStn_wear (s : State) (f : StnState → StnState) : (s.setStn f).wear = s.wear := rfl
@[simp] theorem setStn_tap (s : State) (f : StnState → StnState) : (s.setStn f).tap = s.tap := rfl
@[simp] theorem setStn_pending (s : State) (f : StnState → StnState) : (s.setStn f).pending = s.pending := rfl
@[simp] theorem setStn_awake (s : State) (f : StnState → StnState) : (s.setStn f).awake = s.awake := rfl
@[simp] theorem setStn_reg (s : State) (f : StnState → StnState) (a : Nat) : (s.setStn f).reg a = s.reg a := rfl
@[simp] theorem setStn_fld (s : State) (f : StnState → StnState) (a : Fd) : (s.setStn f).fld a = s.fld a := rfl
@[simp] theorem setStn_flag (s : State) (f : StnState → StnState) (a : Fd) : (s.setStn f).flag a = s.flag a := rfl
@[simp] theorem setStn_byte (s : State) (f : StnState → StnState) (a : Nat) : (s.setStn f).byte a = s.byte a := rfl
@[simp] theorem setStn_word (s : State) (f : StnState → StnState) (a : Nat) : (s.setStn f).word a = s.word a := rfl
@[simp] theorem setStn_stn (s : State) (f : StnState → StnState) : (s.setStn f).stn = f s.stn := rfl

/-! ### setPms -/

@[simp] theorem setPms_mode (s : State) (f : PmsState → PmsState) : (s.setPms f).mode = s.mode := rfl
@[simp] theorem setPms_mainOn (s : State) (f : PmsState → PmsState) : (s.setPms f).mainOn = s.mainOn := rfl
@[simp] theorem setPms_held (s : State) (f : PmsState → PmsState) : (s.setPms f).held = s.held := rfl
@[simp] theorem setPms_stopped (s : State) (f : PmsState → PmsState) : (s.setPms f).stopped = s.stopped := rfl
@[simp] theorem setPms_pos (s : State) (f : PmsState → PmsState) : (s.setPms f).pos = s.pos := rfl
@[simp] theorem setPms_boot (s : State) (f : PmsState → PmsState) : (s.setPms f).boot = s.boot := rfl
@[simp] theorem setPms_regs (s : State) (f : PmsState → PmsState) : (s.setPms f).regs = s.regs := rfl
@[simp] theorem setPms_latch (s : State) (f : PmsState → PmsState) : (s.setPms f).latch = s.latch := rfl
@[simp] theorem setPms_lowHeld (s : State) (f : PmsState → PmsState) : (s.setPms f).lowHeld = s.lowHeld := rfl
@[simp] theorem setPms_locks (s : State) (f : PmsState → PmsState) : (s.setPms f).locks = s.locks := rfl
@[simp] theorem setPms_basin (s : State) (f : PmsState → PmsState) : (s.setPms f).basin = s.basin := rfl
@[simp] theorem setPms_xspi (s : State) (f : PmsState → PmsState) : (s.setPms f).xspi = s.xspi := rfl
@[simp] theorem setPms_out (s : State) (f : PmsState → PmsState) : (s.setPms f).out = s.out := rfl
@[simp] theorem setPms_fresh (s : State) (f : PmsState → PmsState) : (s.setPms f).fresh = s.fresh := rfl
@[simp] theorem setPms_err (s : State) (f : PmsState → PmsState) : (s.setPms f).err = s.err := rfl
@[simp] theorem setPms_sed (s : State) (f : PmsState → PmsState) : (s.setPms f).sed = s.sed := rfl
@[simp] theorem setPms_sib (s : State) (f : PmsState → PmsState) : (s.setPms f).sib = s.sib := rfl
@[simp] theorem setPms_txn (s : State) (f : PmsState → PmsState) : (s.setPms f).txn = s.txn := rfl
@[simp] theorem setPms_bsn (s : State) (f : PmsState → PmsState) : (s.setPms f).bsn = s.bsn := rfl
@[simp] theorem setPms_monLive (s : State) (f : PmsState → PmsState) : (s.setPms f).monLive = s.monLive := rfl
@[simp] theorem setPms_monSnap (s : State) (f : PmsState → PmsState) : (s.setPms f).monSnap = s.monSnap := rfl
@[simp] theorem setPms_monArmed (s : State) (f : PmsState → PmsState) : (s.setPms f).monArmed = s.monArmed := rfl
@[simp] theorem setPms_scn (s : State) (f : PmsState → PmsState) : (s.setPms f).scn = s.scn := rfl
@[simp] theorem setPms_slv (s : State) (f : PmsState → PmsState) : (s.setPms f).slv = s.slv := rfl
@[simp] theorem setPms_time (s : State) (f : PmsState → PmsState) : (s.setPms f).time = s.time := rfl
@[simp] theorem setPms_field (s : State) (f : PmsState → PmsState) : (s.setPms f).field = s.field := rfl
@[simp] theorem setPms_lop (s : State) (f : PmsState → PmsState) : (s.setPms f).lop = s.lop := rfl
@[simp] theorem setPms_adc (s : State) (f : PmsState → PmsState) : (s.setPms f).adc = s.adc := rfl
@[simp] theorem setPms_nrg (s : State) (f : PmsState → PmsState) : (s.setPms f).nrg = s.nrg := rfl
@[simp] theorem setPms_rsv (s : State) (f : PmsState → PmsState) : (s.setPms f).rsv = s.rsv := rfl
@[simp] theorem setPms_stn (s : State) (f : PmsState → PmsState) : (s.setPms f).stn = s.stn := rfl
@[simp] theorem setPms_lum (s : State) (f : PmsState → PmsState) : (s.setPms f).lum = s.lum := rfl
@[simp] theorem setPms_net (s : State) (f : PmsState → PmsState) : (s.setPms f).net = s.net := rfl
@[simp] theorem setPms_wear (s : State) (f : PmsState → PmsState) : (s.setPms f).wear = s.wear := rfl
@[simp] theorem setPms_tap (s : State) (f : PmsState → PmsState) : (s.setPms f).tap = s.tap := rfl
@[simp] theorem setPms_pending (s : State) (f : PmsState → PmsState) : (s.setPms f).pending = s.pending := rfl
@[simp] theorem setPms_awake (s : State) (f : PmsState → PmsState) : (s.setPms f).awake = s.awake := rfl
@[simp] theorem setPms_reg (s : State) (f : PmsState → PmsState) (a : Nat) : (s.setPms f).reg a = s.reg a := rfl
@[simp] theorem setPms_fld (s : State) (f : PmsState → PmsState) (a : Fd) : (s.setPms f).fld a = s.fld a := rfl
@[simp] theorem setPms_flag (s : State) (f : PmsState → PmsState) (a : Fd) : (s.setPms f).flag a = s.flag a := rfl
@[simp] theorem setPms_byte (s : State) (f : PmsState → PmsState) (a : Nat) : (s.setPms f).byte a = s.byte a := rfl
@[simp] theorem setPms_word (s : State) (f : PmsState → PmsState) (a : Nat) : (s.setPms f).word a = s.word a := rfl
@[simp] theorem setPms_pms (s : State) (f : PmsState → PmsState) : (s.setPms f).pms = f s.pms := rfl

/-! ### setNrg -/

@[simp] theorem setNrg_mode (s : State) (f : NrgState → NrgState) : (s.setNrg f).mode = s.mode := rfl
@[simp] theorem setNrg_mainOn (s : State) (f : NrgState → NrgState) : (s.setNrg f).mainOn = s.mainOn := rfl
@[simp] theorem setNrg_held (s : State) (f : NrgState → NrgState) : (s.setNrg f).held = s.held := rfl
@[simp] theorem setNrg_stopped (s : State) (f : NrgState → NrgState) : (s.setNrg f).stopped = s.stopped := rfl
@[simp] theorem setNrg_pos (s : State) (f : NrgState → NrgState) : (s.setNrg f).pos = s.pos := rfl
@[simp] theorem setNrg_boot (s : State) (f : NrgState → NrgState) : (s.setNrg f).boot = s.boot := rfl
@[simp] theorem setNrg_regs (s : State) (f : NrgState → NrgState) : (s.setNrg f).regs = s.regs := rfl
@[simp] theorem setNrg_latch (s : State) (f : NrgState → NrgState) : (s.setNrg f).latch = s.latch := rfl
@[simp] theorem setNrg_lowHeld (s : State) (f : NrgState → NrgState) : (s.setNrg f).lowHeld = s.lowHeld := rfl
@[simp] theorem setNrg_locks (s : State) (f : NrgState → NrgState) : (s.setNrg f).locks = s.locks := rfl
@[simp] theorem setNrg_basin (s : State) (f : NrgState → NrgState) : (s.setNrg f).basin = s.basin := rfl
@[simp] theorem setNrg_xspi (s : State) (f : NrgState → NrgState) : (s.setNrg f).xspi = s.xspi := rfl
@[simp] theorem setNrg_out (s : State) (f : NrgState → NrgState) : (s.setNrg f).out = s.out := rfl
@[simp] theorem setNrg_fresh (s : State) (f : NrgState → NrgState) : (s.setNrg f).fresh = s.fresh := rfl
@[simp] theorem setNrg_err (s : State) (f : NrgState → NrgState) : (s.setNrg f).err = s.err := rfl
@[simp] theorem setNrg_sed (s : State) (f : NrgState → NrgState) : (s.setNrg f).sed = s.sed := rfl
@[simp] theorem setNrg_sib (s : State) (f : NrgState → NrgState) : (s.setNrg f).sib = s.sib := rfl
@[simp] theorem setNrg_txn (s : State) (f : NrgState → NrgState) : (s.setNrg f).txn = s.txn := rfl
@[simp] theorem setNrg_bsn (s : State) (f : NrgState → NrgState) : (s.setNrg f).bsn = s.bsn := rfl
@[simp] theorem setNrg_monLive (s : State) (f : NrgState → NrgState) : (s.setNrg f).monLive = s.monLive := rfl
@[simp] theorem setNrg_monSnap (s : State) (f : NrgState → NrgState) : (s.setNrg f).monSnap = s.monSnap := rfl
@[simp] theorem setNrg_monArmed (s : State) (f : NrgState → NrgState) : (s.setNrg f).monArmed = s.monArmed := rfl
@[simp] theorem setNrg_scn (s : State) (f : NrgState → NrgState) : (s.setNrg f).scn = s.scn := rfl
@[simp] theorem setNrg_slv (s : State) (f : NrgState → NrgState) : (s.setNrg f).slv = s.slv := rfl
@[simp] theorem setNrg_time (s : State) (f : NrgState → NrgState) : (s.setNrg f).time = s.time := rfl
@[simp] theorem setNrg_field (s : State) (f : NrgState → NrgState) : (s.setNrg f).field = s.field := rfl
@[simp] theorem setNrg_lop (s : State) (f : NrgState → NrgState) : (s.setNrg f).lop = s.lop := rfl
@[simp] theorem setNrg_adc (s : State) (f : NrgState → NrgState) : (s.setNrg f).adc = s.adc := rfl
@[simp] theorem setNrg_rsv (s : State) (f : NrgState → NrgState) : (s.setNrg f).rsv = s.rsv := rfl
@[simp] theorem setNrg_stn (s : State) (f : NrgState → NrgState) : (s.setNrg f).stn = s.stn := rfl
@[simp] theorem setNrg_lum (s : State) (f : NrgState → NrgState) : (s.setNrg f).lum = s.lum := rfl
@[simp] theorem setNrg_pms (s : State) (f : NrgState → NrgState) : (s.setNrg f).pms = s.pms := rfl
@[simp] theorem setNrg_net (s : State) (f : NrgState → NrgState) : (s.setNrg f).net = s.net := rfl
@[simp] theorem setNrg_wear (s : State) (f : NrgState → NrgState) : (s.setNrg f).wear = s.wear := rfl
@[simp] theorem setNrg_tap (s : State) (f : NrgState → NrgState) : (s.setNrg f).tap = s.tap := rfl
@[simp] theorem setNrg_pending (s : State) (f : NrgState → NrgState) : (s.setNrg f).pending = s.pending := rfl
@[simp] theorem setNrg_awake (s : State) (f : NrgState → NrgState) : (s.setNrg f).awake = s.awake := rfl
@[simp] theorem setNrg_reg (s : State) (f : NrgState → NrgState) (a : Nat) : (s.setNrg f).reg a = s.reg a := rfl
@[simp] theorem setNrg_fld (s : State) (f : NrgState → NrgState) (a : Fd) : (s.setNrg f).fld a = s.fld a := rfl
@[simp] theorem setNrg_flag (s : State) (f : NrgState → NrgState) (a : Fd) : (s.setNrg f).flag a = s.flag a := rfl
@[simp] theorem setNrg_byte (s : State) (f : NrgState → NrgState) (a : Nat) : (s.setNrg f).byte a = s.byte a := rfl
@[simp] theorem setNrg_word (s : State) (f : NrgState → NrgState) (a : Nat) : (s.setNrg f).word a = s.word a := rfl
@[simp] theorem setNrg_nrg (s : State) (f : NrgState → NrgState) : (s.setNrg f).nrg = f s.nrg := rfl

/-! ### setSed -/

@[simp] theorem setSed_mode (s : State) (f : SedState → SedState) : (s.setSed f).mode = s.mode := rfl
@[simp] theorem setSed_mainOn (s : State) (f : SedState → SedState) : (s.setSed f).mainOn = s.mainOn := rfl
@[simp] theorem setSed_held (s : State) (f : SedState → SedState) : (s.setSed f).held = s.held := rfl
@[simp] theorem setSed_stopped (s : State) (f : SedState → SedState) : (s.setSed f).stopped = s.stopped := rfl
@[simp] theorem setSed_pos (s : State) (f : SedState → SedState) : (s.setSed f).pos = s.pos := rfl
@[simp] theorem setSed_boot (s : State) (f : SedState → SedState) : (s.setSed f).boot = s.boot := rfl
@[simp] theorem setSed_regs (s : State) (f : SedState → SedState) : (s.setSed f).regs = s.regs := rfl
@[simp] theorem setSed_latch (s : State) (f : SedState → SedState) : (s.setSed f).latch = s.latch := rfl
@[simp] theorem setSed_lowHeld (s : State) (f : SedState → SedState) : (s.setSed f).lowHeld = s.lowHeld := rfl
@[simp] theorem setSed_locks (s : State) (f : SedState → SedState) : (s.setSed f).locks = s.locks := rfl
@[simp] theorem setSed_basin (s : State) (f : SedState → SedState) : (s.setSed f).basin = s.basin := rfl
@[simp] theorem setSed_xspi (s : State) (f : SedState → SedState) : (s.setSed f).xspi = s.xspi := rfl
@[simp] theorem setSed_out (s : State) (f : SedState → SedState) : (s.setSed f).out = s.out := rfl
@[simp] theorem setSed_fresh (s : State) (f : SedState → SedState) : (s.setSed f).fresh = s.fresh := rfl
@[simp] theorem setSed_err (s : State) (f : SedState → SedState) : (s.setSed f).err = s.err := rfl
@[simp] theorem setSed_sib (s : State) (f : SedState → SedState) : (s.setSed f).sib = s.sib := rfl
@[simp] theorem setSed_txn (s : State) (f : SedState → SedState) : (s.setSed f).txn = s.txn := rfl
@[simp] theorem setSed_bsn (s : State) (f : SedState → SedState) : (s.setSed f).bsn = s.bsn := rfl
@[simp] theorem setSed_monLive (s : State) (f : SedState → SedState) : (s.setSed f).monLive = s.monLive := rfl
@[simp] theorem setSed_monSnap (s : State) (f : SedState → SedState) : (s.setSed f).monSnap = s.monSnap := rfl
@[simp] theorem setSed_monArmed (s : State) (f : SedState → SedState) : (s.setSed f).monArmed = s.monArmed := rfl
@[simp] theorem setSed_scn (s : State) (f : SedState → SedState) : (s.setSed f).scn = s.scn := rfl
@[simp] theorem setSed_slv (s : State) (f : SedState → SedState) : (s.setSed f).slv = s.slv := rfl
@[simp] theorem setSed_time (s : State) (f : SedState → SedState) : (s.setSed f).time = s.time := rfl
@[simp] theorem setSed_field (s : State) (f : SedState → SedState) : (s.setSed f).field = s.field := rfl
@[simp] theorem setSed_lop (s : State) (f : SedState → SedState) : (s.setSed f).lop = s.lop := rfl
@[simp] theorem setSed_adc (s : State) (f : SedState → SedState) : (s.setSed f).adc = s.adc := rfl
@[simp] theorem setSed_nrg (s : State) (f : SedState → SedState) : (s.setSed f).nrg = s.nrg := rfl
@[simp] theorem setSed_rsv (s : State) (f : SedState → SedState) : (s.setSed f).rsv = s.rsv := rfl
@[simp] theorem setSed_stn (s : State) (f : SedState → SedState) : (s.setSed f).stn = s.stn := rfl
@[simp] theorem setSed_lum (s : State) (f : SedState → SedState) : (s.setSed f).lum = s.lum := rfl
@[simp] theorem setSed_pms (s : State) (f : SedState → SedState) : (s.setSed f).pms = s.pms := rfl
@[simp] theorem setSed_net (s : State) (f : SedState → SedState) : (s.setSed f).net = s.net := rfl
@[simp] theorem setSed_wear (s : State) (f : SedState → SedState) : (s.setSed f).wear = s.wear := rfl
@[simp] theorem setSed_tap (s : State) (f : SedState → SedState) : (s.setSed f).tap = s.tap := rfl
@[simp] theorem setSed_pending (s : State) (f : SedState → SedState) : (s.setSed f).pending = s.pending := rfl
@[simp] theorem setSed_awake (s : State) (f : SedState → SedState) : (s.setSed f).awake = s.awake := rfl
@[simp] theorem setSed_reg (s : State) (f : SedState → SedState) (a : Nat) : (s.setSed f).reg a = s.reg a := rfl
@[simp] theorem setSed_fld (s : State) (f : SedState → SedState) (a : Fd) : (s.setSed f).fld a = s.fld a := rfl
@[simp] theorem setSed_flag (s : State) (f : SedState → SedState) (a : Fd) : (s.setSed f).flag a = s.flag a := rfl
@[simp] theorem setSed_byte (s : State) (f : SedState → SedState) (a : Nat) : (s.setSed f).byte a = s.byte a := rfl
@[simp] theorem setSed_word (s : State) (f : SedState → SedState) (a : Nat) : (s.setSed f).word a = s.word a := rfl
@[simp] theorem setSed_sed (s : State) (f : SedState → SedState) : (s.setSed f).sed = f s.sed := rfl

/-! ### setLum -/

@[simp] theorem setLum_mode (s : State) (f : LumState → LumState) : (s.setLum f).mode = s.mode := rfl
@[simp] theorem setLum_mainOn (s : State) (f : LumState → LumState) : (s.setLum f).mainOn = s.mainOn := rfl
@[simp] theorem setLum_held (s : State) (f : LumState → LumState) : (s.setLum f).held = s.held := rfl
@[simp] theorem setLum_stopped (s : State) (f : LumState → LumState) : (s.setLum f).stopped = s.stopped := rfl
@[simp] theorem setLum_pos (s : State) (f : LumState → LumState) : (s.setLum f).pos = s.pos := rfl
@[simp] theorem setLum_boot (s : State) (f : LumState → LumState) : (s.setLum f).boot = s.boot := rfl
@[simp] theorem setLum_regs (s : State) (f : LumState → LumState) : (s.setLum f).regs = s.regs := rfl
@[simp] theorem setLum_latch (s : State) (f : LumState → LumState) : (s.setLum f).latch = s.latch := rfl
@[simp] theorem setLum_lowHeld (s : State) (f : LumState → LumState) : (s.setLum f).lowHeld = s.lowHeld := rfl
@[simp] theorem setLum_locks (s : State) (f : LumState → LumState) : (s.setLum f).locks = s.locks := rfl
@[simp] theorem setLum_basin (s : State) (f : LumState → LumState) : (s.setLum f).basin = s.basin := rfl
@[simp] theorem setLum_xspi (s : State) (f : LumState → LumState) : (s.setLum f).xspi = s.xspi := rfl
@[simp] theorem setLum_out (s : State) (f : LumState → LumState) : (s.setLum f).out = s.out := rfl
@[simp] theorem setLum_fresh (s : State) (f : LumState → LumState) : (s.setLum f).fresh = s.fresh := rfl
@[simp] theorem setLum_err (s : State) (f : LumState → LumState) : (s.setLum f).err = s.err := rfl
@[simp] theorem setLum_sed (s : State) (f : LumState → LumState) : (s.setLum f).sed = s.sed := rfl
@[simp] theorem setLum_sib (s : State) (f : LumState → LumState) : (s.setLum f).sib = s.sib := rfl
@[simp] theorem setLum_txn (s : State) (f : LumState → LumState) : (s.setLum f).txn = s.txn := rfl
@[simp] theorem setLum_bsn (s : State) (f : LumState → LumState) : (s.setLum f).bsn = s.bsn := rfl
@[simp] theorem setLum_monLive (s : State) (f : LumState → LumState) : (s.setLum f).monLive = s.monLive := rfl
@[simp] theorem setLum_monSnap (s : State) (f : LumState → LumState) : (s.setLum f).monSnap = s.monSnap := rfl
@[simp] theorem setLum_monArmed (s : State) (f : LumState → LumState) : (s.setLum f).monArmed = s.monArmed := rfl
@[simp] theorem setLum_scn (s : State) (f : LumState → LumState) : (s.setLum f).scn = s.scn := rfl
@[simp] theorem setLum_slv (s : State) (f : LumState → LumState) : (s.setLum f).slv = s.slv := rfl
@[simp] theorem setLum_time (s : State) (f : LumState → LumState) : (s.setLum f).time = s.time := rfl
@[simp] theorem setLum_field (s : State) (f : LumState → LumState) : (s.setLum f).field = s.field := rfl
@[simp] theorem setLum_lop (s : State) (f : LumState → LumState) : (s.setLum f).lop = s.lop := rfl
@[simp] theorem setLum_adc (s : State) (f : LumState → LumState) : (s.setLum f).adc = s.adc := rfl
@[simp] theorem setLum_nrg (s : State) (f : LumState → LumState) : (s.setLum f).nrg = s.nrg := rfl
@[simp] theorem setLum_rsv (s : State) (f : LumState → LumState) : (s.setLum f).rsv = s.rsv := rfl
@[simp] theorem setLum_stn (s : State) (f : LumState → LumState) : (s.setLum f).stn = s.stn := rfl
@[simp] theorem setLum_pms (s : State) (f : LumState → LumState) : (s.setLum f).pms = s.pms := rfl
@[simp] theorem setLum_net (s : State) (f : LumState → LumState) : (s.setLum f).net = s.net := rfl
@[simp] theorem setLum_wear (s : State) (f : LumState → LumState) : (s.setLum f).wear = s.wear := rfl
@[simp] theorem setLum_tap (s : State) (f : LumState → LumState) : (s.setLum f).tap = s.tap := rfl
@[simp] theorem setLum_pending (s : State) (f : LumState → LumState) : (s.setLum f).pending = s.pending := rfl
@[simp] theorem setLum_awake (s : State) (f : LumState → LumState) : (s.setLum f).awake = s.awake := rfl
@[simp] theorem setLum_reg (s : State) (f : LumState → LumState) (a : Nat) : (s.setLum f).reg a = s.reg a := rfl
@[simp] theorem setLum_fld (s : State) (f : LumState → LumState) (a : Fd) : (s.setLum f).fld a = s.fld a := rfl
@[simp] theorem setLum_flag (s : State) (f : LumState → LumState) (a : Fd) : (s.setLum f).flag a = s.flag a := rfl
@[simp] theorem setLum_byte (s : State) (f : LumState → LumState) (a : Nat) : (s.setLum f).byte a = s.byte a := rfl
@[simp] theorem setLum_word (s : State) (f : LumState → LumState) (a : Nat) : (s.setLum f).word a = s.word a := rfl
@[simp] theorem setLum_lum (s : State) (f : LumState → LumState) : (s.setLum f).lum = f s.lum := rfl

/-! ### setAdc -/

@[simp] theorem setAdc_mode (s : State) (f : AdcState → AdcState) : (s.setAdc f).mode = s.mode := rfl
@[simp] theorem setAdc_mainOn (s : State) (f : AdcState → AdcState) : (s.setAdc f).mainOn = s.mainOn := rfl
@[simp] theorem setAdc_held (s : State) (f : AdcState → AdcState) : (s.setAdc f).held = s.held := rfl
@[simp] theorem setAdc_stopped (s : State) (f : AdcState → AdcState) : (s.setAdc f).stopped = s.stopped := rfl
@[simp] theorem setAdc_pos (s : State) (f : AdcState → AdcState) : (s.setAdc f).pos = s.pos := rfl
@[simp] theorem setAdc_boot (s : State) (f : AdcState → AdcState) : (s.setAdc f).boot = s.boot := rfl
@[simp] theorem setAdc_regs (s : State) (f : AdcState → AdcState) : (s.setAdc f).regs = s.regs := rfl
@[simp] theorem setAdc_latch (s : State) (f : AdcState → AdcState) : (s.setAdc f).latch = s.latch := rfl
@[simp] theorem setAdc_lowHeld (s : State) (f : AdcState → AdcState) : (s.setAdc f).lowHeld = s.lowHeld := rfl
@[simp] theorem setAdc_locks (s : State) (f : AdcState → AdcState) : (s.setAdc f).locks = s.locks := rfl
@[simp] theorem setAdc_basin (s : State) (f : AdcState → AdcState) : (s.setAdc f).basin = s.basin := rfl
@[simp] theorem setAdc_xspi (s : State) (f : AdcState → AdcState) : (s.setAdc f).xspi = s.xspi := rfl
@[simp] theorem setAdc_out (s : State) (f : AdcState → AdcState) : (s.setAdc f).out = s.out := rfl
@[simp] theorem setAdc_fresh (s : State) (f : AdcState → AdcState) : (s.setAdc f).fresh = s.fresh := rfl
@[simp] theorem setAdc_err (s : State) (f : AdcState → AdcState) : (s.setAdc f).err = s.err := rfl
@[simp] theorem setAdc_sed (s : State) (f : AdcState → AdcState) : (s.setAdc f).sed = s.sed := rfl
@[simp] theorem setAdc_sib (s : State) (f : AdcState → AdcState) : (s.setAdc f).sib = s.sib := rfl
@[simp] theorem setAdc_txn (s : State) (f : AdcState → AdcState) : (s.setAdc f).txn = s.txn := rfl
@[simp] theorem setAdc_bsn (s : State) (f : AdcState → AdcState) : (s.setAdc f).bsn = s.bsn := rfl
@[simp] theorem setAdc_monLive (s : State) (f : AdcState → AdcState) : (s.setAdc f).monLive = s.monLive := rfl
@[simp] theorem setAdc_monSnap (s : State) (f : AdcState → AdcState) : (s.setAdc f).monSnap = s.monSnap := rfl
@[simp] theorem setAdc_monArmed (s : State) (f : AdcState → AdcState) : (s.setAdc f).monArmed = s.monArmed := rfl
@[simp] theorem setAdc_scn (s : State) (f : AdcState → AdcState) : (s.setAdc f).scn = s.scn := rfl
@[simp] theorem setAdc_slv (s : State) (f : AdcState → AdcState) : (s.setAdc f).slv = s.slv := rfl
@[simp] theorem setAdc_time (s : State) (f : AdcState → AdcState) : (s.setAdc f).time = s.time := rfl
@[simp] theorem setAdc_field (s : State) (f : AdcState → AdcState) : (s.setAdc f).field = s.field := rfl
@[simp] theorem setAdc_lop (s : State) (f : AdcState → AdcState) : (s.setAdc f).lop = s.lop := rfl
@[simp] theorem setAdc_nrg (s : State) (f : AdcState → AdcState) : (s.setAdc f).nrg = s.nrg := rfl
@[simp] theorem setAdc_rsv (s : State) (f : AdcState → AdcState) : (s.setAdc f).rsv = s.rsv := rfl
@[simp] theorem setAdc_stn (s : State) (f : AdcState → AdcState) : (s.setAdc f).stn = s.stn := rfl
@[simp] theorem setAdc_lum (s : State) (f : AdcState → AdcState) : (s.setAdc f).lum = s.lum := rfl
@[simp] theorem setAdc_pms (s : State) (f : AdcState → AdcState) : (s.setAdc f).pms = s.pms := rfl
@[simp] theorem setAdc_net (s : State) (f : AdcState → AdcState) : (s.setAdc f).net = s.net := rfl
@[simp] theorem setAdc_wear (s : State) (f : AdcState → AdcState) : (s.setAdc f).wear = s.wear := rfl
@[simp] theorem setAdc_tap (s : State) (f : AdcState → AdcState) : (s.setAdc f).tap = s.tap := rfl
@[simp] theorem setAdc_pending (s : State) (f : AdcState → AdcState) : (s.setAdc f).pending = s.pending := rfl
@[simp] theorem setAdc_awake (s : State) (f : AdcState → AdcState) : (s.setAdc f).awake = s.awake := rfl
@[simp] theorem setAdc_reg (s : State) (f : AdcState → AdcState) (a : Nat) : (s.setAdc f).reg a = s.reg a := rfl
@[simp] theorem setAdc_fld (s : State) (f : AdcState → AdcState) (a : Fd) : (s.setAdc f).fld a = s.fld a := rfl
@[simp] theorem setAdc_flag (s : State) (f : AdcState → AdcState) (a : Fd) : (s.setAdc f).flag a = s.flag a := rfl
@[simp] theorem setAdc_byte (s : State) (f : AdcState → AdcState) (a : Nat) : (s.setAdc f).byte a = s.byte a := rfl
@[simp] theorem setAdc_word (s : State) (f : AdcState → AdcState) (a : Nat) : (s.setAdc f).word a = s.word a := rfl
@[simp] theorem setAdc_adc (s : State) (f : AdcState → AdcState) : (s.setAdc f).adc = f s.adc := rfl

/-! ### setWear -/

@[simp] theorem setWear_mode (s : State) (f : WearState → WearState) : (s.setWear f).mode = s.mode := rfl
@[simp] theorem setWear_mainOn (s : State) (f : WearState → WearState) : (s.setWear f).mainOn = s.mainOn := rfl
@[simp] theorem setWear_held (s : State) (f : WearState → WearState) : (s.setWear f).held = s.held := rfl
@[simp] theorem setWear_stopped (s : State) (f : WearState → WearState) : (s.setWear f).stopped = s.stopped := rfl
@[simp] theorem setWear_pos (s : State) (f : WearState → WearState) : (s.setWear f).pos = s.pos := rfl
@[simp] theorem setWear_boot (s : State) (f : WearState → WearState) : (s.setWear f).boot = s.boot := rfl
@[simp] theorem setWear_regs (s : State) (f : WearState → WearState) : (s.setWear f).regs = s.regs := rfl
@[simp] theorem setWear_latch (s : State) (f : WearState → WearState) : (s.setWear f).latch = s.latch := rfl
@[simp] theorem setWear_lowHeld (s : State) (f : WearState → WearState) : (s.setWear f).lowHeld = s.lowHeld := rfl
@[simp] theorem setWear_locks (s : State) (f : WearState → WearState) : (s.setWear f).locks = s.locks := rfl
@[simp] theorem setWear_basin (s : State) (f : WearState → WearState) : (s.setWear f).basin = s.basin := rfl
@[simp] theorem setWear_xspi (s : State) (f : WearState → WearState) : (s.setWear f).xspi = s.xspi := rfl
@[simp] theorem setWear_out (s : State) (f : WearState → WearState) : (s.setWear f).out = s.out := rfl
@[simp] theorem setWear_fresh (s : State) (f : WearState → WearState) : (s.setWear f).fresh = s.fresh := rfl
@[simp] theorem setWear_err (s : State) (f : WearState → WearState) : (s.setWear f).err = s.err := rfl
@[simp] theorem setWear_sed (s : State) (f : WearState → WearState) : (s.setWear f).sed = s.sed := rfl
@[simp] theorem setWear_sib (s : State) (f : WearState → WearState) : (s.setWear f).sib = s.sib := rfl
@[simp] theorem setWear_txn (s : State) (f : WearState → WearState) : (s.setWear f).txn = s.txn := rfl
@[simp] theorem setWear_bsn (s : State) (f : WearState → WearState) : (s.setWear f).bsn = s.bsn := rfl
@[simp] theorem setWear_monLive (s : State) (f : WearState → WearState) : (s.setWear f).monLive = s.monLive := rfl
@[simp] theorem setWear_monSnap (s : State) (f : WearState → WearState) : (s.setWear f).monSnap = s.monSnap := rfl
@[simp] theorem setWear_monArmed (s : State) (f : WearState → WearState) : (s.setWear f).monArmed = s.monArmed := rfl
@[simp] theorem setWear_scn (s : State) (f : WearState → WearState) : (s.setWear f).scn = s.scn := rfl
@[simp] theorem setWear_slv (s : State) (f : WearState → WearState) : (s.setWear f).slv = s.slv := rfl
@[simp] theorem setWear_time (s : State) (f : WearState → WearState) : (s.setWear f).time = s.time := rfl
@[simp] theorem setWear_field (s : State) (f : WearState → WearState) : (s.setWear f).field = s.field := rfl
@[simp] theorem setWear_lop (s : State) (f : WearState → WearState) : (s.setWear f).lop = s.lop := rfl
@[simp] theorem setWear_adc (s : State) (f : WearState → WearState) : (s.setWear f).adc = s.adc := rfl
@[simp] theorem setWear_nrg (s : State) (f : WearState → WearState) : (s.setWear f).nrg = s.nrg := rfl
@[simp] theorem setWear_rsv (s : State) (f : WearState → WearState) : (s.setWear f).rsv = s.rsv := rfl
@[simp] theorem setWear_stn (s : State) (f : WearState → WearState) : (s.setWear f).stn = s.stn := rfl
@[simp] theorem setWear_lum (s : State) (f : WearState → WearState) : (s.setWear f).lum = s.lum := rfl
@[simp] theorem setWear_pms (s : State) (f : WearState → WearState) : (s.setWear f).pms = s.pms := rfl
@[simp] theorem setWear_net (s : State) (f : WearState → WearState) : (s.setWear f).net = s.net := rfl
@[simp] theorem setWear_tap (s : State) (f : WearState → WearState) : (s.setWear f).tap = s.tap := rfl
@[simp] theorem setWear_pending (s : State) (f : WearState → WearState) : (s.setWear f).pending = s.pending := rfl
@[simp] theorem setWear_awake (s : State) (f : WearState → WearState) : (s.setWear f).awake = s.awake := rfl
@[simp] theorem setWear_reg (s : State) (f : WearState → WearState) (a : Nat) : (s.setWear f).reg a = s.reg a := rfl
@[simp] theorem setWear_fld (s : State) (f : WearState → WearState) (a : Fd) : (s.setWear f).fld a = s.fld a := rfl
@[simp] theorem setWear_flag (s : State) (f : WearState → WearState) (a : Fd) : (s.setWear f).flag a = s.flag a := rfl
@[simp] theorem setWear_byte (s : State) (f : WearState → WearState) (a : Nat) : (s.setWear f).byte a = s.byte a := rfl
@[simp] theorem setWear_word (s : State) (f : WearState → WearState) (a : Nat) : (s.setWear f).word a = s.word a := rfl
@[simp] theorem setWear_wear (s : State) (f : WearState → WearState) : (s.setWear f).wear = f s.wear := rfl

/-! ### Reads of what was set -/

theorem setGroup_same {s : State} (g : Nat) (f : Group → Group) (h : Sparse.wf (fun _ => ({} : Group)) s.txn = true) :
    (s.setGroup g f).group g = f (s.group g) := sparse_get_set_same h
theorem setGroup_other {s : State} {g k : Nat} (f : Group → Group) (hk : k ≠ g) (h : Sparse.wf (fun _ => ({} : Group)) s.txn = true) :
    (s.setGroup g f).group k = s.group k := sparse_get_set_other hk h
theorem setCtx_same {s : State} (n : Nat) (f : Ctx → Ctx) (h : Sparse.wf (fun _ => ({} : Ctx)) s.slv.ctx = true) :
    (s.setCtx n f).ctx n = f (s.ctx n) := sparse_get_set_same h
theorem setPeer_same {s : State} (k : Nat) (f : Peer → Peer) (h : Sparse.wf (fun _ => ({} : Peer)) s.sib.peers = true) :
    (s.setPeer k f).peer k = f (s.peer k) := sparse_get_set_same h
theorem setPeer_other {s : State} {j k : Nat} (f : Peer → Peer) (hk : k ≠ j) (h : Sparse.wf (fun _ => ({} : Peer)) s.sib.peers = true) :
    (s.setPeer j f).peer k = s.peer k := sparse_get_set_other hk h

/-! ### The instant of a command -/

/-- A command acts at its instant, or at the time held. -/
theorem at_cases (s : State) (ns : Nat) : s.at ns = s.moved ns ∨ s.at ns = s := by
  unfold State.at
  split
  · exact .inl rfl
  · exact .inr rfl

/-- An instant outside the base tick in progress leaves the state as it is. -/
theorem at_outTick {s : State} {ns : Nat} (h : s.inTick ns = false) : s.at ns = s := by
  unfold State.at
  split
  · next c =>
      simp only [State.inTick, Bool.and_eq_false_iff, decide_eq_false_iff_not] at h
      simp only [State.now] at h
      omega
  · rfl

/-! ### Basin writes of a requester (R72, R109) -/

/-- A requester's write: into a region that may be written directly, or before an image is applied into the staging banks, the word is
stored; elsewhere the write is discarded, with its refusal or event. -/
theorem reqWrite_cases (s : State) (r w : Nat) (v : Word) :
    s.reqWrite r w v = s.setWord w v ∨ s.reqWrite r w v = s.roDiscard r w ∨ s.reqWrite r w v = s.txnDiscard r w := by
  unfold State.reqWrite
  split
  · exact .inl rfl
  · split
    · exact .inr (.inl rfl)
    · exact .inr (.inl rfl)
    · exact .inr (.inr rfl)
    · exact .inl rfl

/-- A word in a region that is neither RO nor transactional takes the value. -/
theorem reqWrite_open {s : State} {r w : Nat} {v : Word} (h : s.attrs w = some (false, false)) : s.reqWrite r w v = s.setWord w v := by
  unfold State.reqWrite
  split
  · rfl
  · simp [h]

end Sys2Proof.Machine
end

