-- ==== Sys2Proof/Laws/Dispatch.lean ====
section
/-! SUPPORT. One equation per command: exec of the command is its meaning. Provers rewrite with these instead of unfolding exec. -/

namespace Sys2Proof.Machine

theorem exec_mainSupplyReturn {s : State} : exec .mainSupplyReturn s = execMainSupplyReturn s := rfl
theorem exec_mainSupplyLoss {s : State} : exec .mainSupplyLoss s = execMainSupplyLoss s := rfl
theorem exec_springPowerOn {s : State} : exec .springPowerOn s = execSpringPowerOn s := rfl
theorem exec_resetNLow {s : State} : exec .resetNLow s = execResetNLow s := rfl
theorem exec_wakeNLow {s : State} : exec .wakeNLow s = execWakeNLow s := rfl
theorem exec_freezeNLow {s : State} : exec .freezeNLow s = execFreezeNLow s := rfl
theorem exec_sysSwrstWrite {s : State} {value : Word} : exec (.sysSwrstWrite value) s = execSysSwrstWrite value s := rfl
theorem exec_sysBootCtrlGo {s : State} : exec .sysBootCtrlGo s = execSysBootCtrlGo s := rfl
theorem exec_powerGoodFilterExpiry {s : State} {selfTestOk xtalOk plls : Bool} {pos boot : Fin 4} {aoAlm : Bool} : exec (.powerGoodFilterExpiry selfTestOk xtalOk plls pos boot aoAlm) s = execPowerGoodFilterExpiry selfTestOk xtalOk plls pos boot aoAlm s := rfl
theorem exec_joinWaitExpiry {s : State} : exec .joinWaitExpiry s = execJoinWaitExpiry s := rfl
theorem exec_deviceWatchdogExpiry {s : State} : exec .deviceWatchdogExpiry s = execDeviceWatchdogExpiry s := rfl
theorem exec_weirWatchdogReset {s : State} : exec .weirWatchdogReset s = execWeirWatchdogReset s := rfl
theorem exec_lockWatchdogExpiry {s : State} {bank : Fin 16} : exec (.lockWatchdogExpiry bank) s = execLockWatchdogExpiry bank s := rfl
theorem exec_fieldLinkWatchdogExpiry {s : State} : exec .fieldLinkWatchdogExpiry s = execFieldLinkWatchdogExpiry s := rfl
theorem exec_clockMonitorWindow {s : State} {count : Nat} : exec (.clockMonitorWindow count) s = execClockMonitorWindow count s := rfl
theorem exec_weirPeriodicTest {s : State} {failed : Option Nat} : exec (.weirPeriodicTest failed) s = execWeirPeriodicTest failed s := rfl
theorem exec_configurationRehash {s : State} {changed : Option (Fin 32)} : exec (.configurationRehash changed) s = execConfigurationRehash changed s := rfl
theorem exec_solverLaneTest {s : State} {lane : Fin 256} {pass : Bool} : exec (.solverLaneTest lane pass) s = execSolverLaneTest lane pass s := rfl
theorem exec_converterReferenceCheck {s : State} {core : Fin 8} {ppm : Int} : exec (.converterReferenceCheck core ppm) s = execConverterReferenceCheck core ppm s := rfl
theorem exec_basinScrub {s : State} {bank : Fin 16} {found : Option (Bool × Fin 8)} : exec (.basinScrub bank found) s = execBasinScrub bank found s := rfl
theorem exec_eventRaise {s : State} {cls : Fin 5} {page : Fin 50} {idx : Half} {cause : Byte} {detail : BitVec 24} : exec (.eventRaise cls page idx cause detail) s = execEventRaise cls page idx cause detail s := rfl
theorem exec_handlerComplete {s : State} : exec .handlerComplete s = execHandlerComplete s := rfl
theorem exec_errInjectWrite {s : State} {value : Word} : exec (.errInjectWrite value) s = execErrInjectWrite value s := rfl
theorem exec_errLogPop {s : State} : exec .errLogPop s = execErrLogPop s := rfl
theorem exec_junctionTemperature {s : State} {field : Bool} {deg : Int} : exec (.junctionTemperature field deg) s = execJunctionTemperature field deg s := rfl
theorem exec_pllUnlock {s : State} {n : Fin 3} : exec (.pllUnlock n) s = execPllUnlock n s := rfl
theorem exec_yarnanSignalDetect {s : State} {link : Fin 2} {ns : Nat} : exec (.yarnanSignalDetect link ns) s = execYarnanSignalDetect link ns s := rfl
theorem exec_linkTrainingTimeout {s : State} {link : Fin 2} {ns : Nat} : exec (.linkTrainingTimeout link ns) s = execLinkTrainingTimeout link ns s := rfl
theorem exec_linkSilenceTimeout {s : State} {link : Fin 2} {ns : Nat} : exec (.linkSilenceTimeout link ns) s = execLinkSilenceTimeout link ns s := rfl
theorem exec_linkFaultTimeout {s : State} {link : Fin 2} {ns : Nat} : exec (.linkFaultTimeout link ns) s = execLinkFaultTimeout link ns s := rfl
theorem exec_idleSequence {s : State} {link : Fin 2} {ns : Nat} {bytes : List Byte} : exec (.idleSequence link ns bytes) s = execIdleSequence link ns bytes s := rfl
theorem exec_cycleImageFrame {s : State} {link : Fin 2} {ns : Nat} {flags : Byte} {seq : Word} {ref : DWord} {payload : List Byte} {crc : Word} : exec (.cycleImageFrame link ns flags seq ref payload crc) s = execCycleImageFrame link ns flags seq ref payload crc s := rfl
theorem exec_voteFrame {s : State} {link : Fin 2} {ns : Nat} {flags : Byte} {seq : Word} {ref : DWord} {payload : List Byte} {crc : Word} : exec (.voteFrame link ns flags seq ref payload crc) s = execVoteFrame link ns flags seq ref payload crc s := rfl
theorem exec_groupHashFrame {s : State} {link : Fin 2} {ns : Nat} {flags : Byte} {seq : Word} {ref : DWord} {payload : List Byte} {crc : Word} : exec (.groupHashFrame link ns flags seq ref payload crc) s = execGroupHashFrame link ns flags seq ref payload crc s := rfl
theorem exec_timeFrame {s : State} {link : Fin 2} {ns : Nat} {delay : Half} {flags : Byte} {seq : Word} {ref : DWord} {payload : List Byte} {crc : Word} : exec (.timeFrame link ns delay flags seq ref payload crc) s = execTimeFrame link ns delay flags seq ref payload crc s := rfl
theorem exec_healthFrame {s : State} {link : Fin 2} {ns : Nat} {delay : Half} {flags : Byte} {seq : Word} {ref : DWord} {payload : List Byte} {crc : Word} : exec (.healthFrame link ns delay flags seq ref payload crc) s = execHealthFrame link ns delay flags seq ref payload crc s := rfl
theorem exec_bulkFrame {s : State} {link : Fin 2} {ns : Nat} {flags : Byte} {seq : Word} {ref : DWord} {payload : List Byte} {crc : Word} : exec (.bulkFrame link ns flags seq ref payload crc) s = execBulkFrame link ns flags seq ref payload crc s := rfl
theorem exec_frameRelay {s : State} {link : Fin 2} {ns : Nat} {kind flags : Byte} {seq : Word} {ref : DWord} {payload : List Byte} {crc : Word} : exec (.frameRelay link ns kind flags seq ref payload crc) s = execFrameRelay link ns kind flags seq ref payload crc s := rfl
theorem exec_healthFrameSend {s : State} {ns : Nat} : exec (.healthFrameSend ns) s = execHealthFrameSend ns s := rfl
theorem exec_timeExchangeComplete {s : State} {ns : Nat} : exec (.timeExchangeComplete ns) s = execTimeExchangeComplete ns s := rfl
theorem exec_siblingLost {s : State} {sib : Fin 2} {ns : Nat} : exec (.siblingLost sib ns) s = execSiblingLost sib ns s := rfl
theorem exec_isolationFrame {s : State} {line : Fin 2} {frame : BitVec 20} : exec (.isolationFrame line frame) s = execIsolationFrame line frame s := rfl
theorem exec_isolationLineTimeout {s : State} {line : Fin 2} : exec (.isolationLineTimeout line) s = execIsolationLineTimeout line s := rfl
theorem exec_legDeviation {s : State} {sib : Fin 2} {leg : Fin 8} : exec (.legDeviation sib leg) s = execLegDeviation sib leg s := rfl
theorem exec_bulkCopyComplete {s : State} : exec .bulkCopyComplete s = execBulkCopyComplete s := rfl
theorem exec_bulkCopyTimeout {s : State} {ns : Nat} : exec (.bulkCopyTimeout ns) s = execBulkCopyTimeout ns s := rfl
theorem exec_rejoinImageReceived {s : State} {header body : List Byte} : exec (.rejoinImageReceived header body) s = execRejoinImageReceived header body s := rfl
theorem exec_shadowComplete {s : State} : exec .shadowComplete s = execShadowComplete s := rfl
theorem exec_autoRejoinAdmission {s : State} {pos : Fin 4} {ns : Nat} : exec (.autoRejoinAdmission pos ns) s = execAutoRejoinAdmission pos ns s := rfl
theorem exec_txnOpen {s : State} {group : Fin 16} : exec (.txnOpen group) s = execTxnOpen group s := rfl
theorem exec_txnArm {s : State} {group : Fin 16} : exec (.txnArm group) s = execTxnArm group s := rfl
theorem exec_txnAbort {s : State} {group : Fin 16} : exec (.txnAbort group) s = execTxnAbort group s := rfl
theorem exec_txnStageDataWrite {s : State} {value : Word} : exec (.txnStageDataWrite value) s = execTxnStageDataWrite value s := rfl
theorem exec_rwsWrite {s : State} {adr : BitVec 18} {value : Word} : exec (.rwsWrite adr value) s = execRwsWrite adr value s := rfl
theorem exec_txnGrpCfgWrite {s : State} {group : Fin 16} {value : Word} : exec (.txnGrpCfgWrite group value) s = execTxnGrpCfgWrite group value s := rfl
theorem exec_groupBoundary {s : State} {group : Fin 16} : exec (.groupBoundary group) s = execGroupBoundary group s := rfl
theorem exec_groupApply {s : State} {group : Fin 16} : exec (.groupApply group) s = execGroupApply group s := rfl
theorem exec_outcomeCompare {s : State} {group : Fin 16} : exec (.outcomeCompare group) s = execOutcomeCompare group s := rfl
theorem exec_outcomeRepeatEnd {s : State} {group : Fin 16} : exec (.outcomeRepeatEnd group) s = execOutcomeRepeatEnd group s := rfl
theorem exec_basinRequest {s : State} {bank : Fin 16} {req : Option (Fin 12)} {ecc : Option (Bool × BitVec 20)} : exec (.basinRequest bank req ecc) s = execBasinRequest bank req ecc s := rfl
theorem exec_basinLockAcquire {s : State} {req : Fin 12} {bank : Fin 16} : exec (.basinLockAcquire req bank) s = execBasinLockAcquire req bank s := rfl
theorem exec_basinLockRelease {s : State} {req : Fin 12} {bank : Fin 16} {ask : Bool} : exec (.basinLockRelease req bank ask) s = execBasinLockRelease req bank ask s := rfl
theorem exec_bsnRankWrite {s : State} {reg : Fin 2} {value : Word} : exec (.bsnRankWrite reg value) s = execBsnRankWrite reg value s := rfl
theorem exec_requesterMask {s : State} {req : Fin 12} : exec (.requesterMask req) s = execRequesterMask req s := rfl
theorem exec_monSnap {s : State} {page : Fin 50} : exec (.monSnap page) s = execMonSnap page s := rfl
theorem exec_monClr {s : State} {page : Fin 50} : exec (.monClr page) s = execMonClr page s := rfl
theorem exec_monSelWrite {s : State} {page : Fin 50} {value : Word} : exec (.monSelWrite page value) s = execMonSelWrite page value s := rfl
theorem exec_monAllSnap {s : State} : exec .monAllSnap s = execMonAllSnap s := rfl
theorem exec_monAllClr {s : State} : exec .monAllClr s = execMonAllClr s := rfl
theorem exec_monAllArm {s : State} : exec .monAllArm s = execMonAllArm s := rfl
theorem exec_monArmedSnapshot {s : State} : exec .monArmedSnapshot s = execMonArmedSnapshot s := rfl
theorem exec_baseTick {s : State} {sense : List (Nat × Nat × Nat)} : exec (.baseTick sense) s = execBaseTick sense s := rfl
theorem exec_stationCycleStart {s : State} : exec .stationCycleStart s = execStationCycleStart s := rfl
theorem exec_snapshotInstant {s : State} : exec .snapshotInstant s = execSnapshotInstant s := rfl
theorem exec_solverTrigger {s : State} {ctx : Fin 4} : exec (.solverTrigger ctx) s = execSolverTrigger ctx s := rfl
theorem exec_solverRunStart {s : State} {ctx : Fin 4} : exec (.solverRunStart ctx) s = execSolverRunStart ctx s := rfl
theorem exec_contextPreempt {s : State} {ctx : Fin 4} : exec (.contextPreempt ctx) s = execContextPreempt ctx s := rfl
theorem exec_contextResume {s : State} {ctx : Fin 4} : exec (.contextResume ctx) s = execContextResume ctx s := rfl
theorem exec_gatherStep {s : State} {ctx : Fin 4} : exec (.gatherStep ctx) s = execGatherStep ctx s := rfl
theorem exec_kernelStep {s : State} {ctx : Fin 4} : exec (.kernelStep ctx) s = execKernelStep ctx s := rfl
theorem exec_productStep {s : State} {ctx : Fin 4} : exec (.productStep ctx) s = execProductStep ctx s := rfl
theorem exec_factorStep {s : State} {ctx : Fin 4} : exec (.factorStep ctx) s = execFactorStep ctx s := rfl
theorem exec_solveStep {s : State} {ctx : Fin 4} : exec (.solveStep ctx) s = execSolveStep ctx s := rfl
theorem exec_reduceStep {s : State} {ctx : Fin 4} : exec (.reduceStep ctx) s = execReduceStep ctx s := rfl
theorem exec_residTest {s : State} {ctx : Fin 4} : exec (.residTest ctx) s = execResidTest ctx s := rfl
theorem exec_loopTest {s : State} {ctx : Fin 4} : exec (.loopTest ctx) s = execLoopTest ctx s := rfl
theorem exec_meritTest {s : State} {ctx : Fin 4} : exec (.meritTest ctx) s = execMeritTest ctx s := rfl
theorem exec_baddataTest {s : State} {ctx : Fin 4} : exec (.baddataTest ctx) s = execBaddataTest ctx s := rfl
theorem exec_infeasTest {s : State} {ctx : Fin 4} : exec (.infeasTest ctx) s = execInfeasTest ctx s := rfl
theorem exec_scatterStep {s : State} {ctx : Fin 4} : exec (.scatterStep ctx) s = execScatterStep ctx s := rfl
theorem exec_barrierAgreed {s : State} {ctx : Fin 4} : exec (.barrierAgreed ctx) s = execBarrierAgreed ctx s := rfl
theorem exec_barrierTimeout {s : State} {ctx : Fin 4} : exec (.barrierTimeout ctx) s = execBarrierTimeout ctx s := rfl
theorem exec_syncWaitExpiry {s : State} {ctx : Fin 4} : exec (.syncWaitExpiry ctx) s = execSyncWaitExpiry ctx s := rfl
theorem exec_testGeneratorEnd {s : State} {gen : Fin 8} : exec (.testGeneratorEnd gen) s = execTestGeneratorEnd gen s := rfl
theorem exec_captureDone {s : State} {unit : Fin 4} : exec (.captureDone unit) s = execCaptureDone unit s := rfl
theorem exec_saturationWindowEnd {s : State} {slot : Fin 512} : exec (.saturationWindowEnd slot) s = execSaturationWindowEnd slot s := rfl
theorem exec_scanCycleStart {s : State} {ns : Nat} : exec (.scanCycleStart ns) s = execScanCycleStart ns s := rfl
theorem exec_cycleImageTimeout {s : State} {ns : Nat} : exec (.cycleImageTimeout ns) s = execCycleImageTimeout ns s := rfl
theorem exec_cycleZeroLatch {s : State} : exec .cycleZeroLatch s = execCycleZeroLatch s := rfl
theorem exec_phase4 {s : State} {ns : Nat} : exec (.phase4 ns) s = execPhase4 ns s := rfl
theorem exec_vote {s : State} {ns : Nat} : exec (.vote ns) s = execVote ns s := rfl
theorem exec_scanCycleOverrun {s : State} {ns : Nat} : exec (.scanCycleOverrun ns) s = execScanCycleOverrun ns s := rfl
theorem exec_lockstepMismatch {s : State} : exec .lockstepMismatch s = execLockstepMismatch s := rfl
theorem exec_nop {s : State} {d a : BitVec 6} {b : BitVec 14} : exec (.nop d a b) s = execNop d a b s := rfl
theorem exec_ldb {s : State} {d a : BitVec 6} {b : BitVec 14} : exec (.ldb d a b) s = execLdb d a b s := rfl
theorem exec_andb {s : State} {d a : BitVec 6} {b : BitVec 14} : exec (.andb d a b) s = execAndb d a b s := rfl
theorem exec_orb {s : State} {d a : BitVec 6} {b : BitVec 14} : exec (.orb d a b) s = execOrb d a b s := rfl
theorem exec_xorb {s : State} {d a : BitVec 6} {b : BitVec 14} : exec (.xorb d a b) s = execXorb d a b s := rfl
theorem exec_stb {s : State} {d a : BitVec 6} {b : BitVec 14} : exec (.stb d a b) s = execStb d a b s := rfl
theorem exec_srb {s : State} {d a : BitVec 6} {b : BitVec 14} : exec (.srb d a b) s = execSrb d a b s := rfl
theorem exec_tstw {s : State} {d a : BitVec 6} {b : BitVec 14} : exec (.tstw d a b) s = execTstw d a b s := rfl
theorem exec_putb {s : State} {d a : BitVec 6} {b : BitVec 14} : exec (.putb d a b) s = execPutb d a b s := rfl
theorem exec_notb {s : State} {d a : BitVec 6} {b : BitVec 14} : exec (.notb d a b) s = execNotb d a b s := rfl
theorem exec_edge {s : State} {d a : BitVec 6} {b : BitVec 14} : exec (.edge d a b) s = execEdge d a b s := rfl
theorem exec_ldw {s : State} {d a : BitVec 6} {b : BitVec 14} : exec (.ldw d a b) s = execLdw d a b s := rfl
theorem exec_stw {s : State} {d a : BitVec 6} {b : BitVec 14} : exec (.stw d a b) s = execStw d a b s := rfl
theorem exec_ldl {s : State} {d a : BitVec 6} {b : BitVec 14} : exec (.ldl d a b) s = execLdl d a b s := rfl
theorem exec_stl {s : State} {d a : BitVec 6} {b : BitVec 14} : exec (.stl d a b) s = execStl d a b s := rfl
theorem exec_ldi {s : State} {d a : BitVec 6} {b : BitVec 14} : exec (.ldi d a b) s = execLdi d a b s := rfl
theorem exec_ldhi {s : State} {d a : BitVec 6} {b : BitVec 14} : exec (.ldhi d a b) s = execLdhi d a b s := rfl
theorem exec_sel {s : State} {d a : BitVec 6} {b : BitVec 14} : exec (.sel d a b) s = execSel d a b s := rfl
theorem exec_and {s : State} {d a : BitVec 6} {b : BitVec 14} : exec (.and d a b) s = execAnd d a b s := rfl
theorem exec_or {s : State} {d a : BitVec 6} {b : BitVec 14} : exec (.or d a b) s = execOr d a b s := rfl
theorem exec_xor {s : State} {d a : BitVec 6} {b : BitVec 14} : exec (.xor d a b) s = execXor d a b s := rfl
theorem exec_shl {s : State} {d a : BitVec 6} {b : BitVec 14} : exec (.shl d a b) s = execShl d a b s := rfl
theorem exec_shr {s : State} {d a : BitVec 6} {b : BitVec 14} : exec (.shr d a b) s = execShr d a b s := rfl
theorem exec_sar {s : State} {d a : BitVec 6} {b : BitVec 14} : exec (.sar d a b) s = execSar d a b s := rfl
theorem exec_add {s : State} {d a : BitVec 6} {b : BitVec 14} : exec (.add d a b) s = execAdd d a b s := rfl
theorem exec_sub {s : State} {d a : BitVec 6} {b : BitVec 14} : exec (.sub d a b) s = execSub d a b s := rfl
theorem exec_mul {s : State} {d a : BitVec 6} {b : BitVec 14} : exec (.mul d a b) s = execMul d a b s := rfl
theorem exec_div {s : State} {d a : BitVec 6} {b : BitVec 14} : exec (.div d a b) s = execDiv d a b s := rfl
theorem exec_cmp {s : State} {d a : BitVec 6} {b : BitVec 14} : exec (.cmp d a b) s = execCmp d a b s := rfl
theorem exec_fadd {s : State} {d a : BitVec 6} {b : BitVec 14} : exec (.fadd d a b) s = execFadd d a b s := rfl
theorem exec_fsub {s : State} {d a : BitVec 6} {b : BitVec 14} : exec (.fsub d a b) s = execFsub d a b s := rfl
theorem exec_fmul {s : State} {d a : BitVec 6} {b : BitVec 14} : exec (.fmul d a b) s = execFmul d a b s := rfl
theorem exec_fdiv {s : State} {d a : BitVec 6} {b : BitVec 14} : exec (.fdiv d a b) s = execFdiv d a b s := rfl
theorem exec_fcvt {s : State} {d a : BitVec 6} {b : BitVec 14} : exec (.fcvt d a b) s = execFcvt d a b s := rfl
theorem exec_flim {s : State} {d a : BitVec 6} {b : BitVec 14} : exec (.flim d a b) s = execFlim d a b s := rfl
theorem exec_fcmp {s : State} {d a : BitVec 6} {b : BitVec 14} : exec (.fcmp d a b) s = execFcmp d a b s := rfl
theorem exec_jmp {s : State} {d a : BitVec 6} {b : BitVec 14} : exec (.jmp d a b) s = execJmp d a b s := rfl
theorem exec_lpb {s : State} {d a : BitVec 6} {b : BitVec 14} : exec (.lpb d a b) s = execLpb d a b s := rfl
theorem exec_lpe {s : State} {d a : BitVec 6} {b : BitVec 14} : exec (.lpe d a b) s = execLpe d a b s := rfl
theorem exec_call {s : State} {d a : BitVec 6} {b : BitVec 14} : exec (.call d a b) s = execCall d a b s := rfl
theorem exec_ret {s : State} {d a : BitVec 6} {b : BitVec 14} : exec (.ret d a b) s = execRet d a b s := rfl
theorem exec_tmr {s : State} {d a : BitVec 6} {b : BitVec 14} : exec (.tmr d a b) s = execTmr d a b s := rfl
theorem exec_ctr {s : State} {d a : BitVec 6} {b : BitVec 14} : exec (.ctr d a b) s = execCtr d a b s := rfl
theorem exec_tcrd {s : State} {d a : BitVec 6} {b : BitVec 14} : exec (.tcrd d a b) s = execTcrd d a b s := rfl
theorem exec_rdl {s : State} {d a : BitVec 6} {b : BitVec 14} : exec (.rdl d a b) s = execRdl d a b s := rfl
theorem exec_rds {s : State} {d a : BitVec 6} {b : BitVec 14} : exec (.rds d a b) s = execRds d a b s := rfl
theorem exec_rdq {s : State} {d a : BitVec 6} {b : BitVec 14} : exec (.rdq d a b) s = execRdq d a b s := rfl
theorem exec_raise {s : State} {d a : BitVec 6} {b : BitVec 14} : exec (.raise d a b) s = execRaise d a b s := rfl
theorem exec_grpSelect {s : State} {d3 : BitVec 3} {a : BitVec 6} {b : BitVec 14} : exec (.grpSelect d3 a b) s = execGrpSelect d3 a b s := rfl
theorem exec_grpOpen {s : State} {d3 : BitVec 3} {a : BitVec 6} {b : BitVec 14} : exec (.grpOpen d3 a b) s = execGrpOpen d3 a b s := rfl
theorem exec_grpArm {s : State} {d3 : BitVec 3} {a : BitVec 6} {b : BitVec 14} : exec (.grpArm d3 a b) s = execGrpArm d3 a b s := rfl
theorem exec_grpAbort {s : State} {d3 : BitVec 3} {a : BitVec 6} {b : BitVec 14} : exec (.grpAbort d3 a b) s = execGrpAbort d3 a b s := rfl
theorem exec_stg {s : State} {d a : BitVec 6} {b : BitVec 14} : exec (.stg d a b) s = execStg d a b s := rfl
theorem exec_rstg {s : State} {d a : BitVec 6} {b : BitVec 14} : exec (.rstg d a b) s = execRstg d a b s := rfl
theorem exec_erd {s : State} {d a : BitVec 6} {b : BitVec 14} : exec (.erd d a b) s = execErd d a b s := rfl
theorem exec_eret {s : State} {d a : BitVec 6} {b : BitVec 14} : exec (.eret d a b) s = execEret d a b s := rfl
theorem exec_pfx {s : State} {payload : BitVec 10} : exec (.pfx payload) s = execPfx payload s := rfl
theorem exec_reservedOpcode {s : State} {word : Word} : exec (.reservedOpcode word) s = execReservedOpcode word s := rfl
theorem exec_stackFault {s : State} : exec .stackFault s = execStackFault s := rfl
theorem exec_codeEnd {s : State} : exec .codeEnd s = execCodeEnd s := rfl
theorem exec_scnForceKeyWrite {s : State} {value : Word} : exec (.scnForceKeyWrite value) s = execScnForceKeyWrite value s := rfl
theorem exec_forceKeyExpiry {s : State} : exec .forceKeyExpiry s = execForceKeyExpiry s := rfl
theorem exec_measurementFrame {s : State} {mac : Fin 8} {src : BitVec 48} {ip : Word} {datagram : List Byte} : exec (.measurementFrame mac src ip datagram) s = execMeasurementFrame mac src ip datagram s := rfl
theorem exec_joinFrame {s : State} {mac : Fin 8} {src : BitVec 48} {ip : Word} {datagram : List Byte} : exec (.joinFrame mac src ip datagram) s = execJoinFrame mac src ip datagram s := rfl
theorem exec_commandBuild {s : State} : exec .commandBuild s = execCommandBuild s := rfl
theorem exec_zeroCrossing {s : State} {input : Fin 4} : exec (.zeroCrossing input) s = execZeroCrossing input s := rfl
theorem exec_zeroCrossingTimeout {s : State} {input : Fin 4} {ns : Nat} : exec (.zeroCrossingTimeout input ns) s = execZeroCrossingTimeout input ns s := rfl
theorem exec_fixedWindowEnd {s : State} : exec .fixedWindowEnd s = execFixedWindowEnd s := rfl
theorem exec_underfrequency {s : State} {stage : Fin 8} : exec (.underfrequency stage) s = execUnderfrequency stage s := rfl
theorem exec_feederOverload {s : State} {stage : Fin 8} : exec (.feederOverload stage) s = execFeederOverload stage s := rfl
theorem exec_blackout {s : State} {ns : Nat} : exec (.blackout ns) s = execBlackout ns s := rfl
theorem exec_energyInterval {s : State} : exec .energyInterval s = execEnergyInterval s := rfl
theorem exec_periodicSave {s : State} : exec .periodicSave s = execPeriodicSave s := rfl
theorem exec_powerFailDetect {s : State} {whole dip : Bool} {us : Nat} : exec (.powerFailDetect whole dip us) s = execPowerFailDetect whole dip us s := rfl
theorem exec_springPulseCount {s : State} {input : Fin 8} {closed : Bool} : exec (.springPulseCount input closed) s = execSpringPulseCount input closed s := rfl
theorem exec_pulseOutputEnd {s : State} {output : Fin 4} : exec (.pulseOutputEnd output) s = execPulseOutputEnd output s := rfl
theorem exec_sequenceTrigger {s : State} {seq : Fin 4} {ns : Nat} : exec (.sequenceTrigger seq ns) s = execSequenceTrigger seq ns s := rfl
theorem exec_adcTrigEdge {s : State} {ns : Nat} : exec (.adcTrigEdge ns) s = execAdcTrigEdge ns s := rfl
theorem exec_conversion {s : State} {ns : Nat} {codes : List Half} : exec (.conversion ns codes) s = execConversion ns codes s := rfl
theorem exec_queueDrain {s : State} {count : Fin 4097} : exec (.queueDrain count) s = execQueueDrain count s := rfl
theorem exec_ainFault {s : State} {input : Fin 16} : exec (.ainFault input) s = execAinFault input s := rfl
theorem exec_ainSettlingEnd {s : State} {input : Fin 16} : exec (.ainSettlingEnd input) s = execAinSettlingEnd input s := rfl
theorem exec_loopSupplyFault {s : State} {input : Fin 16} {thermal active : Bool} : exec (.loopSupplyFault input thermal active) s = execLoopSupplyFault input thermal active s := rfl
theorem exec_adcDataRead {s : State} : exec .adcDataRead s = execAdcDataRead s := rfl
theorem exec_compliance {s : State} {out : Fin 8} {set : Bool} {uA : Nat} : exec (.compliance out set uA) s = execCompliance out set uA s := rfl
theorem exec_aouThermal {s : State} {out : Fin 8} {deg : Nat} : exec (.aouThermal out deg) s = execAouThermal out deg s := rfl
theorem exec_aouTestWrite {s : State} {out : Fin 8} {value : Word} : exec (.aouTestWrite out value) s = execAouTestWrite out value s := rfl
theorem exec_dioSample {s : State} {samples : List (Nat × Nat × Nat × Bool)} : exec (.dioSample samples) s = execDioSample samples s := rfl
theorem exec_filteredStateChange {s : State} {channel : Fin 32} : exec (.filteredStateChange channel) s = execFilteredStateChange channel s := rfl
theorem exec_wireBreak {s : State} {channel : Fin 32} {uA : Nat} : exec (.wireBreak channel uA) s = execWireBreak channel uA s := rfl
theorem exec_overload {s : State} {channel : Fin 32} {mA : Nat} : exec (.overload channel mA) s = execOverload channel mA s := rfl
theorem exec_overloadRetry {s : State} {channel : Fin 32} : exec (.overloadRetry channel) s = execOverloadRetry channel s := rfl
theorem exec_overtemp {s : State} {channel : Fin 32} {deg : Nat} : exec (.overtemp channel deg) s = execOvertemp channel deg s := rfl
theorem exec_readback {s : State} {channel : Fin 32} : exec (.readback channel) s = execReadback channel s := rfl
theorem exec_openWire {s : State} {channel : Fin 32} : exec (.openWire channel) s = execOpenWire channel s := rfl
theorem exec_dioTestWrite {s : State} {val : Bool} {value : Word} : exec (.dioTestWrite val value) s = execDioTestWrite val value s := rfl
theorem exec_pulseTestSlot {s : State} {channel : Fin 8} {elem : Fin 2} {mA ns : Nat} : exec (.pulseTestSlot channel elem mA ns) s = execPulseTestSlot channel elem mA ns s := rfl
theorem exec_pulseTestReclose {s : State} {mA us : Nat} : exec (.pulseTestReclose mA us) s = execPulseTestReclose mA us s := rfl
theorem exec_pathOpen {s : State} {channel : Fin 8} {ia ib : Nat} : exec (.pathOpen channel ia ib) s = execPathOpen channel ia ib s := rfl
theorem exec_trpPtCmd {s : State} {value : Word} : exec (.trpPtCmd value) s = execTrpPtCmd value s := rfl
theorem exec_trpPtCmdEnd {s : State} {mA : Nat} : exec (.trpPtCmdEnd mA) s = execTrpPtCmdEnd mA s := rfl
theorem exec_springTick {s : State} : exec .springTick s = execSpringTick s := rfl
theorem exec_sprTickLoRead {s : State} : exec .sprTickLoRead s = execSprTickLoRead s := rfl
theorem exec_sprSnap {s : State} {value : Word} : exec (.sprSnap value) s = execSprSnap value s := rfl
theorem exec_xtalStop {s : State} : exec .xtalStop s = execXtalStop s := rfl
theorem exec_cellLow {s : State} {mV : Nat} : exec (.cellLow mV) s = execCellLow mV s := rfl
theorem exec_railSwitch {s : State} {toBattery : Bool} : exec (.railSwitch toBattery) s = execRailSwitch toBattery s := rfl
theorem exec_ptpIncFracWrite {s : State} {value : Word} : exec (.ptpIncFracWrite value) s = execPtpIncFracWrite value s := rfl
theorem exec_ptpStepHiWrite {s : State} {value : Word} : exec (.ptpStepHiWrite value) s = execPtpStepHiWrite value s := rfl
theorem exec_syncMessage {s : State} {mac : Fin 8} {domain : Byte} {ns : Nat} : exec (.syncMessage mac domain ns) s = execSyncMessage mac domain ns s := rfl
theorem exec_holdover {s : State} {ns : Nat} : exec (.holdover ns) s = execHoldover ns s := rfl
theorem exec_ppsInEdge {s : State} {ns : Nat} : exec (.ppsInEdge ns) s = execPpsInEdge ns s := rfl
theorem exec_ppsOut {s : State} {ns : Nat} : exec (.ppsOut ns) s = execPpsOut ns s := rfl
theorem exec_launchDue {s : State} {mac : Fin 8} {ns : Nat} : exec (.launchDue mac ns) s = execLaunchDue mac ns s := rfl
theorem exec_ethernetFrame {s : State} {mac : Fin 8} {ns : Nat} {frame : List Byte} {fcsOk : Bool} : exec (.ethernetFrame mac ns frame fcsOk) s = execEthernetFrame mac ns frame fcsOk s := rfl
theorem exec_arpRequest {s : State} {mac : Fin 8} {message : List Byte} : exec (.arpRequest mac message) s = execArpRequest mac message s := rfl
theorem exec_icmpEcho {s : State} {mac : Fin 8} {src : BitVec 48} {packet : List Byte} : exec (.icmpEcho mac src packet) s = execIcmpEcho mac src packet s := rfl
theorem exec_igmpQuery {s : State} {mac : Fin 8} {packet : List Byte} : exec (.igmpQuery mac packet) s = execIgmpQuery mac packet s := rfl
theorem exec_lldpdu {s : State} {mac : Fin 8} {ns : Nat} {pdu : List Byte} : exec (.lldpdu mac ns pdu) s = execLldpdu mac ns pdu s := rfl
theorem exec_lldpTtlExpiry {s : State} {mac : Fin 8} {ns : Nat} : exec (.lldpTtlExpiry mac ns) s = execLldpTtlExpiry mac ns s := rfl
theorem exec_lldpTransmit {s : State} {mac : Fin 8} : exec (.lldpTransmit mac) s = execLldpTransmit mac s := rfl
theorem exec_prpSupervision {s : State} {pair : Fin 4} : exec (.prpSupervision pair) s = execPrpSupervision pair s := rfl
theorem exec_linkDown {s : State} {mac : Fin 8} : exec (.linkDown mac) s = execLinkDown mac s := rfl
theorem exec_ethTxCmd {s : State} {mac : Fin 8} {value : Word} : exec (.ethTxCmd mac value) s = execEthTxCmd mac value s := rfl
theorem exec_canFrameReceived {s : State} {bus : Fin 4} {ns : Nat} {xtd : Bool} {id : BitVec 29} {fd brs esi : Bool} {dlc : BitVec 4} {data : List Byte} {tec rec : BitVec 9} : exec (.canFrameReceived bus ns xtd id fd brs esi dlc data tec rec) s = execCanFrameReceived bus ns xtd id fd brs esi dlc data tec rec s := rfl
theorem exec_canTransmitEnd {s : State} {bus : Fin 4} {result : Fin 3} {tec rec : BitVec 9} : exec (.canTransmitEnd bus result tec rec) s = execCanTransmitEnd bus result tec rec s := rfl
theorem exec_busOff {s : State} {bus : Fin 4} {tec rec : BitVec 9} : exec (.busOff bus tec rec) s = execBusOff bus tec rec s := rfl
theorem exec_busOffRecovery {s : State} {bus : Fin 4} : exec (.busOffRecovery bus) s = execBusOffRecovery bus s := rfl
theorem exec_canRxPop {s : State} {bus : Fin 4} {value : Word} : exec (.canRxPop bus value) s = execCanRxPop bus value s := rfl
theorem exec_canTxGo {s : State} {bus : Fin 4} {value : Word} : exec (.canTxGo bus value) s = execCanTxGo bus value s := rfl
theorem exec_serTxCmd {s : State} {line : Fin 4} {value : Word} : exec (.serTxCmd line value) s = execSerTxCmd line value s := rfl
theorem exec_serTransmitEnd {s : State} {line : Fin 4} : exec (.serTransmitEnd line) s = execSerTransmitEnd line s := rfl
theorem exec_serByteReceived {s : State} {line : Fin 4} {ns : Nat} {byte : Byte} {parity framing brk : Bool} : exec (.serByteReceived line ns byte parity framing brk) s = execSerByteReceived line ns byte parity framing brk s := rfl
theorem exec_bar2Access {s : State} {addr : BitVec 26} {op : Bar2Op} {count : Fin 513} : exec (.bar2Access addr op count) s = execBar2Access addr op count s := rfl
theorem exec_hifRearm {s : State} {value : Word} : exec (.hifRearm value) s = execHifRearm value s := rfl
theorem exec_hostSpiTransaction {s : State} {bytes : List Byte} {wait : Fin 65} {ue : Option (Fin 64)} : exec (.hostSpiTransaction bytes wait ue) s = execHostSpiTransaction bytes wait ue s := rfl
theorem exec_ospRead {s : State} : exec .ospRead s = execOspRead s := rfl
theorem exec_ospProgram {s : State} : exec .ospProgram s = execOspProgram s := rfl
theorem exec_ospErase {s : State} : exec .ospErase s = execOspErase s := rfl
theorem exec_ospDone {s : State} {ok : Bool} : exec (.ospDone ok) s = execOspDone ok s := rfl
theorem exec_bmiPoll {s : State} {entry : Fin 16} : exec (.bmiPoll entry) s = execBmiPoll entry s := rfl
theorem exec_bmiXfer {s : State} {value : Word} : exec (.bmiXfer value) s = execBmiXfer value s := rfl
theorem exec_recordProduce {s : State} {code : BitVec 16} {action : Fin 3} {source : BitVec 24} {value : Word} : exec (.recordProduce code action source value) s = execRecordProduce code action source value s := rfl
theorem exec_recordDurable {s : State} : exec .recordDurable s = execRecordDurable s := rfl
theorem exec_summaryInterval {s : State} : exec .summaryInterval s = execSummaryInterval s := rfl
theorem exec_healthRecord {s : State} : exec .healthRecord s = execHealthRecord s := rfl
theorem exec_batchMove {s : State} {failed : Bool} : exec (.batchMove failed) s = execBatchMove failed s := rfl
theorem exec_foldRelease {s : State} : exec .foldRelease s = execFoldRelease s := rfl
theorem exec_sedRdGo {s : State} : exec .sedRdGo s = execSedRdGo s := rfl
theorem exec_sedRdDone {s : State} : exec .sedRdDone s = execSedRdDone s := rfl
theorem exec_domainIdle {s : State} {domain : Fin 14} : exec (.domainIdle domain) s = execDomainIdle domain s := rfl
theorem exec_domainWake {s : State} {domain : Fin 14} : exec (.domainWake domain) s = execDomainWake domain s := rfl
theorem exec_bankLightSleep {s : State} {bank : Fin 16} : exec (.bankLightSleep bank) s = execBankLightSleep bank s := rfl
theorem exec_dailyPlan {s : State} {slow : List Nat} {bank : Fin 16} {steps : Nat} {ron trip : List (Option Nat)} {cap : Option Nat} : exec (.dailyPlan slow bank steps ron trip cap) s = execDailyPlan slow bank steps ron trip cap s := rfl
theorem exec_crystalHourlyMean {s : State} {main spring : Int} : exec (.crystalHourlyMean main spring) s = execCrystalHourlyMean main spring s := rfl
theorem exec_extest {s : State} {width bits : Nat} : exec (.extest width bits) s = execExtest width bits s := rfl
theorem exec_idcode {s : State} : exec .idcode s = execIdcode s := rfl
theorem exec_samplePreload {s : State} {width bits : Nat} : exec (.samplePreload width bits) s = execSamplePreload width bits s := rfl
theorem exec_frzRd {s : State} {words : Nat} : exec (.frzRd words) s = execFrzRd words s := rfl
theorem exec_frzSeek {s : State} {sect : Fin 8} {word : BitVec 29} : exec (.frzSeek sect word) s = execFrzSeek sect word s := rfl
theorem exec_bypass {s : State} {width bits : Nat} : exec (.bypass width bits) s = execBypass width bits s := rfl
theorem exec_pageLock {s : State} {page : Fin 50} : exec (.pageLock page) s = execPageLock page s := rfl
theorem exec_pageUnlock {s : State} {page : Fin 50} : exec (.pageUnlock page) s = execPageUnlock page s := rfl
theorem exec_cntClr {s : State} {page : Fin 50} : exec (.cntClr page) s = execCntClr page s := rfl
theorem exec_rcRead {s : State} {adr : BitVec 18} : exec (.rcRead adr) s = execRcRead adr s := rfl
theorem exec_w1cWrite {s : State} {adr : BitVec 18} {value : Word} : exec (.w1cWrite adr value) s = execW1cWrite adr value s := rfl
theorem exec_loWordRead {s : State} {adr : BitVec 18} : exec (.loWordRead adr) s = execLoWordRead adr s := rfl
theorem exec_registerWrite {s : State} {adr : BitVec 18} {value : Word} : exec (.registerWrite adr value) s = execRegisterWrite adr value s := rfl
theorem exec_lpSupplyLoss {s : State} : exec .lpSupplyLoss s = execLpSupplyLoss s := rfl
theorem exec_lpSupplyReturn {s : State} : exec .lpSupplyReturn s = execLpSupplyReturn s := rfl
theorem exec_vresReady {s : State} : exec .vresReady s = execVresReady s := rfl
theorem exec_ethTransmitEnd {s : State} {mac : Fin 8} : exec (.ethTransmitEnd mac) s = execEthTransmitEnd mac s := rfl
theorem exec_ethLinkUp {s : State} {mac : Fin 8} {speed : Fin 4} : exec (.ethLinkUp mac speed) s = execEthLinkUp mac speed s := rfl
theorem exec_serTxTimeReached {s : State} {line : Fin 4} {ns : Nat} : exec (.serTxTimeReached line ns) s = execSerTxTimeReached line ns s := rfl
theorem exec_bmiTransferEnd {s : State} {fail : Fin 5} {data : List Byte} : exec (.bmiTransferEnd fail data) s = execBmiTransferEnd fail data s := rfl

end Sys2Proof.Machine
end

