-- ==== Sys2Proof/Laws/Ops.lean ====
section
/-! SUPPORT. The named operations over registers and memory: what a write does and leaves, and that every one of them keeps the canonical
form. -/

namespace Sys2Proof.Machine

/-! ### Registers -/

theorem setReg_same {s : State} {a : Nat} {w : Word} (h : s.regsWf = true) : (s.setReg a w).reg a = w := sparse_get_set_same h
theorem setReg_other {s : State} {a b : Nat} {w : Word} (hb : b ≠ a) (h : s.regsWf = true) : (s.setReg a w).reg b = s.reg b :=
  sparse_get_set_other hb h
theorem setReg_wf {s : State} {a : Nat} {w : Word} (h : s.regsWf = true) : (s.setReg a w).regsWf = true := sparse_wf_set h

/-- A field written changes no register but its own. -/
theorem put_other {s : State} {f : Fd} {v b : Nat} (hb : b ≠ f.adr) (h : s.regsWf = true) : (s.put f v).reg b = s.reg b :=
  setReg_other hb h
theorem put_wf {s : State} {f : Fd} {v : Nat} (h : s.regsWf = true) : (s.put f v).regsWf = true := setReg_wf h
theorem putB_wf {s : State} {f : Fd} {b : Bool} (h : s.regsWf = true) : (s.putB f b).regsWf = true := put_wf h
theorem bump_wf {s : State} {f : Fd} (h : s.regsWf = true) : (s.bump f).regsWf = true := put_wf h
theorem put64_wf {s : State} {lo hi v : Nat} (h : s.regsWf = true) : (s.put64 lo hi v).regsWf = true := setReg_wf (setReg_wf h)
theorem clearPages_wf {s : State} {p : Nat → Bool} (h : s.regsWf = true) : (s.clearPages p).regsWf = true := by
  have e := sparse_wf_drop (p := fun a => p (a / 0x1000)) (show Sparse.wf regDefault s.regs = true from h)
  exact e

/-- An interrupt source changes its page's IRQ_RAW alone. -/
theorem irq_reg {s : State} {p k b : Nat} (hb : b ≠ 0x1000 * p + 0x10) (h : s.regsWf = true) : (s.irq p k).reg b = s.reg b := by
  unfold State.irq
  split
  · rfl
  · have e := setReg_other (w := s.reg (0x1000 * p + 0x10) ||| (1#32 <<< k)) hb h
    dsimp only
    split
    · split <;> exact e
    · exact e

/-- The registers of reset are in canonical form. -/
theorem reset_regsWf : State.reset.regsWf = true := rfl

/-! ### The Basin and the xSPI memory -/

theorem memWf_iff {s : State} : s.memWf = true ↔ Sparse.wf basinFill s.basin = true ∧ Sparse.wf xspiFill s.xspi = true := by
  simp [State.memWf]

theorem setByte_same {s : State} {a : Nat} {v : Byte} (h : s.memWf = true) : (s.setByte a v).byte a = v :=
  sparse_get_set_same (memWf_iff.mp h).1
theorem setByte_other {s : State} {a b : Nat} {v : Byte} (hb : b ≠ a) (h : s.memWf = true) : (s.setByte a v).byte b = s.byte b :=
  sparse_get_set_other hb (memWf_iff.mp h).1

/-- A byte written keeps the canonical form. -/
theorem setByte_wf {s : State} {a : Nat} {v : Byte} (h : s.memWf = true) : (s.setByte a v).memWf = true :=
  memWf_iff.mpr ⟨sparse_wf_set (memWf_iff.mp h).1, (memWf_iff.mp h).2⟩

/-- A word written keeps the canonical form. -/
theorem setWord_wf {s : State} {a : Nat} {v : Word} (h : s.memWf = true) : (s.setWord a v).memWf = true :=
  setByte_wf (setByte_wf (setByte_wf (setByte_wf h)))

/-- A run of bytes written keeps the canonical form. -/
theorem setBytes_wf_aux (bs : List Byte) : ∀ (t : State × Nat), t.1.memWf = true →
    (bs.foldl (fun (t : State × Nat) b => (t.1.setByte t.2 b, t.2 + 1)) t).1.memWf = true := by
  induction bs with
  | nil => exact fun _ h => h
  | cons b r ih => exact fun t h => ih _ (setByte_wf h)

theorem setBytes_wf {s : State} {a : Nat} {bs : List Byte} (h : s.memWf = true) : (s.setBytes a bs).memWf = true :=
  setBytes_wf_aux bs (s, a) h

/-- A run of words written keeps the canonical form. -/
theorem setWords_wf_aux (ws : List Word) : ∀ (t : State × Nat), t.1.memWf = true →
    (ws.foldl (fun (t : State × Nat) v => (t.1.setWord t.2 v, t.2 + 1)) t).1.memWf = true := by
  induction ws with
  | nil => exact fun _ h => h
  | cons b r ih => exact fun t h => ih _ (setWord_wf h)

theorem setWords_wf {s : State} {a : Nat} {ws : List Word} (h : s.memWf = true) : (s.setWords a ws).memWf = true :=
  setWords_wf_aux ws (s, a) h

/-- A write to the xSPI memory keeps the canonical form. -/
theorem xspi_set_wf {s : State} {a : Nat} {v : Byte} (h : s.memWf = true) :
    ({ s with xspi := Sparse.set xspiFill s.xspi a v } : State).memWf = true :=
  memWf_iff.mpr ⟨(memWf_iff.mp h).1, sparse_wf_set (memWf_iff.mp h).2⟩

theorem xspi_fold_wf (f : State → Byte × Nat → Nat × Byte) (l : List (Byte × Nat)) : ∀ s : State, s.memWf = true →
    (l.foldl (fun t b => { t with xspi := Sparse.set xspiFill t.xspi (f t b).1 (f t b).2 }) s).memWf = true := by
  induction l with
  | nil => exact fun _ h => h
  | cons b r ih => exact fun s h => ih _ (xspi_set_wf h)

/-- Programming, loading and erasing the xSPI memory keep the canonical form. -/
theorem xProgram_wf {s : State} {a : Nat} {bs : List Byte} (h : s.memWf = true) : (s.xProgram a bs).memWf = true :=
  xspi_fold_wf (fun t b => (a + b.2, t.xByte (a + b.2) &&& b.1)) _ s h

theorem xWrite_wf {s : State} {a : Nat} {bs : List Byte} (h : s.memWf = true) : (s.xWrite a bs).memWf = true :=
  xspi_fold_wf (fun _ b => (a + b.2, b.1)) _ s h

theorem xErase_wf {s : State} {a len : Nat} (h : s.memWf = true) : (s.xErase a len).memWf = true :=
  memWf_iff.mpr ⟨(memWf_iff.mp h).1, by
    have e := sparse_wf_drop (p := fun k => decide (a ≤ k) && decide (k < a + len)) (memWf_iff.mp h).2
    exact e⟩

/-- The memory of reset is in canonical form. -/
theorem reset_memWf : State.reset.memWf = true := rfl

end Sys2Proof.Machine
end

