-- ==== Sys2Proof/Laws/Scan.lean ====
section
/-! SUPPORT. Scan code instructions: at its word in a program that runs, an instruction does its operation and leaves the queue alone. -/

namespace Sys2Proof.Machine

/-- What stands at an instruction: the core domains run, a program runs, no lockstep failure, the word is the instruction's. -/
theorem atInstr_elim {s : State} {i : Instr} (h : s.atInstr i = true) :
    s.awake = true ∧ s.inProgram = true ∧ s.flag .WIR_ST_STAT_LOCKSTEP_FAIL = false ∧ s.scn.code[s.scn.pc]? = scanEncode i := by
  simp [State.atInstr] at h
  simp_all

theorem scanOp_at {op : Nat} {d a : BitVec 6} {b : BitVec 14} {s : State} {f : State → State} {i : Instr} (h : s.atInstr i = true)
    (e : scanEncode i = some (scanWord op d a b)) : scanOp op d a b s f = .next ((f s).queueOf s) := by
  obtain ⟨h1, h2, h3, h4⟩ := atInstr_elim h
  simp [scanOp, coreAct, effect, State.atWord, h1, h2, h3, h4, e, State.queueOf]

theorem scanOp_exec {op : Nat} {d a : BitVec 6} {b : BitVec 14} {s : State} {f : State → State} {i : Instr} (h : s.atInstr i = true)
    (he : exec i s = scanOp op d a b s f) (e : scanEncode i = some (scanWord op d a b)) : exec i s = .next ((f s).queueOf s) :=
  he.trans (scanOp_at h e)

theorem scan_nop {d a : BitVec 6} {b : BitVec 14} {s : State} (h : s.atInstr (.nop d a b) = true) :
    exec (.nop d a b) s = .next ((s.opNop).queueOf s) :=
  scanOp_exec (f := fun s => s.opNop) h rfl rfl
theorem scan_ldb {d a : BitVec 6} {b : BitVec 14} {s : State} (h : s.atInstr (.ldb d a b) = true) :
    exec (.ldb d a b) s = .next ((s.opLdb d a b).queueOf s) :=
  scanOp_exec (f := fun s => s.opLdb d a b) h rfl rfl
theorem scan_andb {d a : BitVec 6} {b : BitVec 14} {s : State} (h : s.atInstr (.andb d a b) = true) :
    exec (.andb d a b) s = .next ((s.opAndb d a b).queueOf s) :=
  scanOp_exec (f := fun s => s.opAndb d a b) h rfl rfl
theorem scan_orb {d a : BitVec 6} {b : BitVec 14} {s : State} (h : s.atInstr (.orb d a b) = true) :
    exec (.orb d a b) s = .next ((s.opOrb d a b).queueOf s) :=
  scanOp_exec (f := fun s => s.opOrb d a b) h rfl rfl
theorem scan_xorb {d a : BitVec 6} {b : BitVec 14} {s : State} (h : s.atInstr (.xorb d a b) = true) :
    exec (.xorb d a b) s = .next ((s.opXorb d a b).queueOf s) :=
  scanOp_exec (f := fun s => s.opXorb d a b) h rfl rfl
theorem scan_stb {d a : BitVec 6} {b : BitVec 14} {s : State} (h : s.atInstr (.stb d a b) = true) :
    exec (.stb d a b) s = .next ((s.opStb d a b).queueOf s) :=
  scanOp_exec (f := fun s => s.opStb d a b) h rfl rfl
theorem scan_srb {d a : BitVec 6} {b : BitVec 14} {s : State} (h : s.atInstr (.srb d a b) = true) :
    exec (.srb d a b) s = .next ((s.opSrb d a b).queueOf s) :=
  scanOp_exec (f := fun s => s.opSrb d a b) h rfl rfl
theorem scan_tstw {d a : BitVec 6} {b : BitVec 14} {s : State} (h : s.atInstr (.tstw d a b) = true) :
    exec (.tstw d a b) s = .next ((s.opTstw a b).queueOf s) :=
  scanOp_exec (f := fun s => s.opTstw a b) h rfl rfl
theorem scan_putb {d a : BitVec 6} {b : BitVec 14} {s : State} (h : s.atInstr (.putb d a b) = true) :
    exec (.putb d a b) s = .next ((s.opPutb d b).queueOf s) :=
  scanOp_exec (f := fun s => s.opPutb d b) h rfl rfl
theorem scan_notb {d a : BitVec 6} {b : BitVec 14} {s : State} (h : s.atInstr (.notb d a b) = true) :
    exec (.notb d a b) s = .next ((s.opNotb).queueOf s) :=
  scanOp_exec (f := fun s => s.opNotb) h rfl rfl
theorem scan_edge {d a : BitVec 6} {b : BitVec 14} {s : State} (h : s.atInstr (.edge d a b) = true) :
    exec (.edge d a b) s = .next ((s.opEdge d b).queueOf s) :=
  scanOp_exec (f := fun s => s.opEdge d b) h rfl rfl
theorem scan_ldw {d a : BitVec 6} {b : BitVec 14} {s : State} (h : s.atInstr (.ldw d a b) = true) :
    exec (.ldw d a b) s = .next ((s.opLdw d a b).queueOf s) :=
  scanOp_exec (f := fun s => s.opLdw d a b) h rfl rfl
theorem scan_stw {d a : BitVec 6} {b : BitVec 14} {s : State} (h : s.atInstr (.stw d a b) = true) :
    exec (.stw d a b) s = .next ((s.opStw d a b).queueOf s) :=
  scanOp_exec (f := fun s => s.opStw d a b) h rfl rfl
theorem scan_ldl {d a : BitVec 6} {b : BitVec 14} {s : State} (h : s.atInstr (.ldl d a b) = true) :
    exec (.ldl d a b) s = .next ((s.opLdl d a b).queueOf s) :=
  scanOp_exec (f := fun s => s.opLdl d a b) h rfl rfl
theorem scan_stl {d a : BitVec 6} {b : BitVec 14} {s : State} (h : s.atInstr (.stl d a b) = true) :
    exec (.stl d a b) s = .next ((s.opStl d a b).queueOf s) :=
  scanOp_exec (f := fun s => s.opStl d a b) h rfl rfl
theorem scan_ldi {d a : BitVec 6} {b : BitVec 14} {s : State} (h : s.atInstr (.ldi d a b) = true) :
    exec (.ldi d a b) s = .next ((s.opLdi d b).queueOf s) :=
  scanOp_exec (f := fun s => s.opLdi d b) h rfl rfl
theorem scan_ldhi {d a : BitVec 6} {b : BitVec 14} {s : State} (h : s.atInstr (.ldhi d a b) = true) :
    exec (.ldhi d a b) s = .next ((s.opLdhi d a b).queueOf s) :=
  scanOp_exec (f := fun s => s.opLdhi d a b) h rfl rfl
theorem scan_sel {d a : BitVec 6} {b : BitVec 14} {s : State} (h : s.atInstr (.sel d a b) = true) :
    exec (.sel d a b) s = .next ((s.opSel d a b).queueOf s) :=
  scanOp_exec (f := fun s => s.opSel d a b) h rfl rfl
theorem scan_and {d a : BitVec 6} {b : BitVec 14} {s : State} (h : s.atInstr (.and d a b) = true) :
    exec (.and d a b) s = .next ((s.opAnd d a b).queueOf s) :=
  scanOp_exec (f := fun s => s.opAnd d a b) h rfl rfl
theorem scan_or {d a : BitVec 6} {b : BitVec 14} {s : State} (h : s.atInstr (.or d a b) = true) :
    exec (.or d a b) s = .next ((s.opOr d a b).queueOf s) :=
  scanOp_exec (f := fun s => s.opOr d a b) h rfl rfl
theorem scan_xor {d a : BitVec 6} {b : BitVec 14} {s : State} (h : s.atInstr (.xor d a b) = true) :
    exec (.xor d a b) s = .next ((s.opXor d a b).queueOf s) :=
  scanOp_exec (f := fun s => s.opXor d a b) h rfl rfl
theorem scan_shl {d a : BitVec 6} {b : BitVec 14} {s : State} (h : s.atInstr (.shl d a b) = true) :
    exec (.shl d a b) s = .next ((s.opShl d a b).queueOf s) :=
  scanOp_exec (f := fun s => s.opShl d a b) h rfl rfl
theorem scan_shr {d a : BitVec 6} {b : BitVec 14} {s : State} (h : s.atInstr (.shr d a b) = true) :
    exec (.shr d a b) s = .next ((s.opShr d a b).queueOf s) :=
  scanOp_exec (f := fun s => s.opShr d a b) h rfl rfl
theorem scan_sar {d a : BitVec 6} {b : BitVec 14} {s : State} (h : s.atInstr (.sar d a b) = true) :
    exec (.sar d a b) s = .next ((s.opSar d a b).queueOf s) :=
  scanOp_exec (f := fun s => s.opSar d a b) h rfl rfl
theorem scan_add {d a : BitVec 6} {b : BitVec 14} {s : State} (h : s.atInstr (.add d a b) = true) :
    exec (.add d a b) s = .next ((s.opAdd d a b).queueOf s) :=
  scanOp_exec (f := fun s => s.opAdd d a b) h rfl rfl
theorem scan_sub {d a : BitVec 6} {b : BitVec 14} {s : State} (h : s.atInstr (.sub d a b) = true) :
    exec (.sub d a b) s = .next ((s.opSub d a b).queueOf s) :=
  scanOp_exec (f := fun s => s.opSub d a b) h rfl rfl
theorem scan_mul {d a : BitVec 6} {b : BitVec 14} {s : State} (h : s.atInstr (.mul d a b) = true) :
    exec (.mul d a b) s = .next ((s.opMul d a b).queueOf s) :=
  scanOp_exec (f := fun s => s.opMul d a b) h rfl rfl
theorem scan_div {d a : BitVec 6} {b : BitVec 14} {s : State} (h : s.atInstr (.div d a b) = true) :
    exec (.div d a b) s = .next ((s.opDiv d a b).queueOf s) :=
  scanOp_exec (f := fun s => s.opDiv d a b) h rfl rfl
theorem scan_cmp {d a : BitVec 6} {b : BitVec 14} {s : State} (h : s.atInstr (.cmp d a b) = true) :
    exec (.cmp d a b) s = .next ((s.opCmp d a b).queueOf s) :=
  scanOp_exec (f := fun s => s.opCmp d a b) h rfl rfl
theorem scan_fadd {d a : BitVec 6} {b : BitVec 14} {s : State} (h : s.atInstr (.fadd d a b) = true) :
    exec (.fadd d a b) s = .next ((s.opFadd d a b).queueOf s) :=
  scanOp_exec (f := fun s => s.opFadd d a b) h rfl rfl
theorem scan_fsub {d a : BitVec 6} {b : BitVec 14} {s : State} (h : s.atInstr (.fsub d a b) = true) :
    exec (.fsub d a b) s = .next ((s.opFsub d a b).queueOf s) :=
  scanOp_exec (f := fun s => s.opFsub d a b) h rfl rfl
theorem scan_fmul {d a : BitVec 6} {b : BitVec 14} {s : State} (h : s.atInstr (.fmul d a b) = true) :
    exec (.fmul d a b) s = .next ((s.opFmul d a b).queueOf s) :=
  scanOp_exec (f := fun s => s.opFmul d a b) h rfl rfl
theorem scan_fdiv {d a : BitVec 6} {b : BitVec 14} {s : State} (h : s.atInstr (.fdiv d a b) = true) :
    exec (.fdiv d a b) s = .next ((s.opFdiv d a b).queueOf s) :=
  scanOp_exec (f := fun s => s.opFdiv d a b) h rfl rfl
theorem scan_fcvt {d a : BitVec 6} {b : BitVec 14} {s : State} (h : s.atInstr (.fcvt d a b) = true) :
    exec (.fcvt d a b) s = .next ((s.opFcvt d a b).queueOf s) :=
  scanOp_exec (f := fun s => s.opFcvt d a b) h rfl rfl
theorem scan_flim {d a : BitVec 6} {b : BitVec 14} {s : State} (h : s.atInstr (.flim d a b) = true) :
    exec (.flim d a b) s = .next ((s.opFlim d a b).queueOf s) :=
  scanOp_exec (f := fun s => s.opFlim d a b) h rfl rfl
theorem scan_fcmp {d a : BitVec 6} {b : BitVec 14} {s : State} (h : s.atInstr (.fcmp d a b) = true) :
    exec (.fcmp d a b) s = .next ((s.opFcmp d a b).queueOf s) :=
  scanOp_exec (f := fun s => s.opFcmp d a b) h rfl rfl
theorem scan_jmp {d a : BitVec 6} {b : BitVec 14} {s : State} (h : s.atInstr (.jmp d a b) = true) :
    exec (.jmp d a b) s = .next ((s.opJmp d b).queueOf s) :=
  scanOp_exec (f := fun s => s.opJmp d b) h rfl rfl
theorem scan_lpb {d a : BitVec 6} {b : BitVec 14} {s : State} (h : s.atInstr (.lpb d a b) = true) :
    exec (.lpb d a b) s = .next ((s.opLpb a b).queueOf s) :=
  scanOp_exec (f := fun s => s.opLpb a b) h rfl rfl
theorem scan_lpe {d a : BitVec 6} {b : BitVec 14} {s : State} (h : s.atInstr (.lpe d a b) = true) :
    exec (.lpe d a b) s = .next ((s.opLpe).queueOf s) :=
  scanOp_exec (f := fun s => s.opLpe) h rfl rfl
theorem scan_call {d a : BitVec 6} {b : BitVec 14} {s : State} (h : s.atInstr (.call d a b) = true) :
    exec (.call d a b) s = .next ((s.opCall b).queueOf s) :=
  scanOp_exec (f := fun s => s.opCall b) h rfl rfl
theorem scan_ret {d a : BitVec 6} {b : BitVec 14} {s : State} (h : s.atInstr (.ret d a b) = true) :
    exec (.ret d a b) s = .next ((s.opRet).queueOf s) :=
  scanOp_exec (f := fun s => s.opRet) h rfl rfl
theorem scan_tmr {d a : BitVec 6} {b : BitVec 14} {s : State} (h : s.atInstr (.tmr d a b) = true) :
    exec (.tmr d a b) s = .next ((s.opTmr d a b).queueOf s) :=
  scanOp_exec (f := fun s => s.opTmr d a b) h rfl rfl
theorem scan_ctr {d a : BitVec 6} {b : BitVec 14} {s : State} (h : s.atInstr (.ctr d a b) = true) :
    exec (.ctr d a b) s = .next ((s.opCtr d a b).queueOf s) :=
  scanOp_exec (f := fun s => s.opCtr d a b) h rfl rfl
theorem scan_tcrd {d a : BitVec 6} {b : BitVec 14} {s : State} (h : s.atInstr (.tcrd d a b) = true) :
    exec (.tcrd d a b) s = .next ((s.opTcrd d a b).queueOf s) :=
  scanOp_exec (f := fun s => s.opTcrd d a b) h rfl rfl
theorem scan_rdl {d a : BitVec 6} {b : BitVec 14} {s : State} (h : s.atInstr (.rdl d a b) = true) :
    exec (.rdl d a b) s = .next ((s.opRdl d a b).queueOf s) :=
  scanOp_exec (f := fun s => s.opRdl d a b) h rfl rfl
theorem scan_rds {d a : BitVec 6} {b : BitVec 14} {s : State} (h : s.atInstr (.rds d a b) = true) :
    exec (.rds d a b) s = .next ((s.opRds d a b).queueOf s) :=
  scanOp_exec (f := fun s => s.opRds d a b) h rfl rfl
theorem scan_rdq {d a : BitVec 6} {b : BitVec 14} {s : State} (h : s.atInstr (.rdq d a b) = true) :
    exec (.rdq d a b) s = .next ((s.opRdq d a b).queueOf s) :=
  scanOp_exec (f := fun s => s.opRdq d a b) h rfl rfl
theorem scan_raise {d a : BitVec 6} {b : BitVec 14} {s : State} (h : s.atInstr (.raise d a b) = true) :
    exec (.raise d a b) s = .next ((s.opRaise d a b).queueOf s) :=
  scanOp_exec (f := fun s => s.opRaise d a b) h rfl rfl
theorem scan_stg {d a : BitVec 6} {b : BitVec 14} {s : State} (h : s.atInstr (.stg d a b) = true) :
    exec (.stg d a b) s = .next ((s.opStg d a b).queueOf s) :=
  scanOp_exec (f := fun s => s.opStg d a b) h rfl rfl
theorem scan_rstg {d a : BitVec 6} {b : BitVec 14} {s : State} (h : s.atInstr (.rstg d a b) = true) :
    exec (.rstg d a b) s = .next ((s.opRstg d b).queueOf s) :=
  scanOp_exec (f := fun s => s.opRstg d b) h rfl rfl
theorem scan_erd {d a : BitVec 6} {b : BitVec 14} {s : State} (h : s.atInstr (.erd d a b) = true) :
    exec (.erd d a b) s = .next ((s.opErd d a).queueOf s) :=
  scanOp_exec (f := fun s => s.opErd d a) h rfl rfl
theorem scan_eret {d a : BitVec 6} {b : BitVec 14} {s : State} (h : s.atInstr (.eret d a b) = true) :
    exec (.eret d a b) s = .next ((s.opEret).queueOf s) :=
  scanOp_exec (f := fun s => s.opEret) h rfl rfl
theorem scan_grpSelect {d3 : BitVec 3} {a : BitVec 6} {b : BitVec 14} {s : State} (h : s.atInstr (.grpSelect d3 a b) = true) :
    exec (.grpSelect d3 a b) s = .next ((s.opSelect b).queueOf s) :=
  scanOp_exec (f := fun s => s.opSelect b) h rfl rfl
theorem scan_grpOpen {d3 : BitVec 3} {a : BitVec 6} {b : BitVec 14} {s : State} (h : s.atInstr (.grpOpen d3 a b) = true) :
    exec (.grpOpen d3 a b) s = .next ((s.opOpen d3 a b).queueOf s) :=
  scanOp_exec (f := fun s => s.opOpen d3 a b) h rfl rfl
theorem scan_grpArm {d3 : BitVec 3} {a : BitVec 6} {b : BitVec 14} {s : State} (h : s.atInstr (.grpArm d3 a b) = true) :
    exec (.grpArm d3 a b) s = .next ((s.opArm b).queueOf s) :=
  scanOp_exec (f := fun s => s.opArm b) h rfl rfl
theorem scan_grpAbort {d3 : BitVec 3} {a : BitVec 6} {b : BitVec 14} {s : State} (h : s.atInstr (.grpAbort d3 a b) = true) :
    exec (.grpAbort d3 a b) s = .next ((s.opAbort b).queueOf s) :=
  scanOp_exec (f := fun s => s.opAbort b) h rfl rfl
theorem scan_pfx {payload : BitVec 10} {s : State} (h : s.atInstr (.pfx payload) = true) :
    exec (.pfx payload) s = .next ((s.opPfx payload).queueOf s) :=
  scanOp_exec (f := fun s => s.opPfx payload) h rfl rfl

end Sys2Proof.Machine
end

