-- ==== Sys2Proof/Laws/State.lean ====
section
/-! SUPPORT. What each update of the state leaves: one lemma per field per update, so that no proof unfolds a record update. -/

namespace Sys2Proof.Machine

/-! ### setReg -/

@[simp] theorem setReg_mode (s : State) (a : Nat) (w : Word) : (s.setReg a w).mode = s.mode := rfl
@[simp] theorem setReg_mainOn (s : State) (a : Nat) (w : Word) : (s.setReg a w).mainOn = s.mainOn := rfl
@[simp] theorem setReg_held (s : State) (a : Nat) (w : Word) : (s.setReg a w).held = s.held := rfl
@[simp] theorem setReg_stopped (s : State) (a : Nat) (w : Word) : (s.setReg a w).stopped = s.stopped := rfl
@[simp] theorem setReg_waking (s : State) (a : Nat) (w : Word) : (s.setReg a w).waking = s.waking := rfl
@[simp] theorem setReg_strapsDue (s : State) (a : Nat) (w : Word) : (s.setReg a w).strapsDue = s.strapsDue := rfl
@[simp] theorem setReg_cause (s : State) (a : Nat) (w : Word) : (s.setReg a w).cause = s.cause := rfl
@[simp] theorem setReg_pos (s : State) (a : Nat) (w : Word) : (s.setReg a w).pos = s.pos := rfl
@[simp] theorem setReg_boot (s : State) (a : Nat) (w : Word) : (s.setReg a w).boot = s.boot := rfl
@[simp] theorem setReg_aoAlm (s : State) (a : Nat) (w : Word) : (s.setReg a w).aoAlm = s.aoAlm := rfl
@[simp] theorem setReg_latch (s : State) (a : Nat) (w : Word) : (s.setReg a w).latch = s.latch := rfl
@[simp] theorem setReg_lowHeld (s : State) (a : Nat) (w : Word) : (s.setReg a w).lowHeld = s.lowHeld := rfl
@[simp] theorem setReg_locks (s : State) (a : Nat) (w : Word) : (s.setReg a w).locks = s.locks := rfl
@[simp] theorem setReg_readData (s : State) (a : Nat) (w : Word) : (s.setReg a w).readData = s.readData := rfl
@[simp] theorem setReg_basin (s : State) (a : Nat) (w : Word) : (s.setReg a w).basin = s.basin := rfl
@[simp] theorem setReg_xspi (s : State) (a : Nat) (w : Word) : (s.setReg a w).xspi = s.xspi := rfl
@[simp] theorem setReg_out (s : State) (a : Nat) (w : Word) : (s.setReg a w).out = s.out := rfl
@[simp] theorem setReg_fresh (s : State) (a : Nat) (w : Word) : (s.setReg a w).fresh = s.fresh := rfl
@[simp] theorem setReg_err (s : State) (a : Nat) (w : Word) : (s.setReg a w).err = s.err := rfl
@[simp] theorem setReg_sed (s : State) (a : Nat) (w : Word) : (s.setReg a w).sed = s.sed := rfl
@[simp] theorem setReg_sib (s : State) (a : Nat) (w : Word) : (s.setReg a w).sib = s.sib := rfl
@[simp] theorem setReg_txn (s : State) (a : Nat) (w : Word) : (s.setReg a w).txn = s.txn := rfl
@[simp] theorem setReg_bsn (s : State) (a : Nat) (w : Word) : (s.setReg a w).bsn = s.bsn := rfl
@[simp] theorem setReg_monLive (s : State) (a : Nat) (w : Word) : (s.setReg a w).monLive = s.monLive := rfl
@[simp] theorem setReg_monSnap (s : State) (a : Nat) (w : Word) : (s.setReg a w).monSnap = s.monSnap := rfl
@[simp] theorem setReg_monArmed (s : State) (a : Nat) (w : Word) : (s.setReg a w).monArmed = s.monArmed := rfl
@[simp] theorem setReg_scn (s : State) (a : Nat) (w : Word) : (s.setReg a w).scn = s.scn := rfl
@[simp] theorem setReg_slv (s : State) (a : Nat) (w : Word) : (s.setReg a w).slv = s.slv := rfl
@[simp] theorem setReg_time (s : State) (a : Nat) (w : Word) : (s.setReg a w).time = s.time := rfl
@[simp] theorem setReg_field (s : State) (a : Nat) (w : Word) : (s.setReg a w).field = s.field := rfl
@[simp] theorem setReg_lop (s : State) (a : Nat) (w : Word) : (s.setReg a w).lop = s.lop := rfl
@[simp] theorem setReg_adc (s : State) (a : Nat) (w : Word) : (s.setReg a w).adc = s.adc := rfl
@[simp] theorem setReg_nrg (s : State) (a : Nat) (w : Word) : (s.setReg a w).nrg = s.nrg := rfl
@[simp] theorem setReg_rsv (s : State) (a : Nat) (w : Word) : (s.setReg a w).rsv = s.rsv := rfl
@[simp] theorem setReg_stn (s : State) (a : Nat) (w : Word) : (s.setReg a w).stn = s.stn := rfl
@[simp] theorem setReg_lum (s : State) (a : Nat) (w : Word) : (s.setReg a w).lum = s.lum := rfl
@[simp] theorem setReg_pms (s : State) (a : Nat) (w : Word) : (s.setReg a w).pms = s.pms := rfl
@[simp] theorem setReg_net (s : State) (a : Nat) (w : Word) : (s.setReg a w).net = s.net := rfl
@[simp] theorem setReg_wear (s : State) (a : Nat) (w : Word) : (s.setReg a w).wear = s.wear := rfl
@[simp] theorem setReg_tap (s : State) (a : Nat) (w : Word) : (s.setReg a w).tap = s.tap := rfl
@[simp] theorem setReg_pending (s : State) (a : Nat) (w : Word) : (s.setReg a w).pending = s.pending := rfl
@[simp] theorem setReg_awake (s : State) (a : Nat) (w : Word) : (s.setReg a w).awake = s.awake := rfl
@[simp] theorem setReg_byte (s : State) (a : Nat) (w : Word) (k : Nat) : (s.setReg a w).byte k = s.byte k := rfl

/-! ### put -/

@[simp] theorem put_mode (s : State) (f : Fd) (v : Nat) : (s.put f v).mode = s.mode := rfl
@[simp] theorem put_held (s : State) (f : Fd) (v : Nat) : (s.put f v).held = s.held := rfl
@[simp] theorem put_basin (s : State) (f : Fd) (v : Nat) : (s.put f v).basin = s.basin := rfl
@[simp] theorem put_xspi (s : State) (f : Fd) (v : Nat) : (s.put f v).xspi = s.xspi := rfl
@[simp] theorem put_out (s : State) (f : Fd) (v : Nat) : (s.put f v).out = s.out := rfl
@[simp] theorem put_fresh (s : State) (f : Fd) (v : Nat) : (s.put f v).fresh = s.fresh := rfl
@[simp] theorem put_err (s : State) (f : Fd) (v : Nat) : (s.put f v).err = s.err := rfl
@[simp] theorem put_sed (s : State) (f : Fd) (v : Nat) : (s.put f v).sed = s.sed := rfl
@[simp] theorem put_sib (s : State) (f : Fd) (v : Nat) : (s.put f v).sib = s.sib := rfl
@[simp] theorem put_txn (s : State) (f : Fd) (v : Nat) : (s.put f v).txn = s.txn := rfl
@[simp] theorem put_scn (s : State) (f : Fd) (v : Nat) : (s.put f v).scn = s.scn := rfl
@[simp] theorem put_time (s : State) (f : Fd) (v : Nat) : (s.put f v).time = s.time := rfl
@[simp] theorem put_field (s : State) (f : Fd) (v : Nat) : (s.put f v).field = s.field := rfl
@[simp] theorem put_net (s : State) (f : Fd) (v : Nat) : (s.put f v).net = s.net := rfl
@[simp] theorem put_pending (s : State) (f : Fd) (v : Nat) : (s.put f v).pending = s.pending := rfl
@[simp] theorem put_awake (s : State) (f : Fd) (v : Nat) : (s.put f v).awake = s.awake := rfl
@[simp] theorem put_byte (s : State) (f : Fd) (v : Nat) (k : Nat) : (s.put f v).byte k = s.byte k := rfl

/-! ### putB -/

@[simp] theorem putB_mode (s : State) (f : Fd) (b : Bool) : (s.putB f b).mode = s.mode := rfl
@[simp] theorem putB_held (s : State) (f : Fd) (b : Bool) : (s.putB f b).held = s.held := rfl
@[simp] theorem putB_basin (s : State) (f : Fd) (b : Bool) : (s.putB f b).basin = s.basin := rfl
@[simp] theorem putB_xspi (s : State) (f : Fd) (b : Bool) : (s.putB f b).xspi = s.xspi := rfl
@[simp] theorem putB_out (s : State) (f : Fd) (b : Bool) : (s.putB f b).out = s.out := rfl
@[simp] theorem putB_fresh (s : State) (f : Fd) (b : Bool) : (s.putB f b).fresh = s.fresh := rfl
@[simp] theorem putB_err (s : State) (f : Fd) (b : Bool) : (s.putB f b).err = s.err := rfl
@[simp] theorem putB_sed (s : State) (f : Fd) (b : Bool) : (s.putB f b).sed = s.sed := rfl
@[simp] theorem putB_sib (s : State) (f : Fd) (b : Bool) : (s.putB f b).sib = s.sib := rfl
@[simp] theorem putB_txn (s : State) (f : Fd) (b : Bool) : (s.putB f b).txn = s.txn := rfl
@[simp] theorem putB_scn (s : State) (f : Fd) (b : Bool) : (s.putB f b).scn = s.scn := rfl
@[simp] theorem putB_time (s : State) (f : Fd) (b : Bool) : (s.putB f b).time = s.time := rfl
@[simp] theorem putB_field (s : State) (f : Fd) (b : Bool) : (s.putB f b).field = s.field := rfl
@[simp] theorem putB_net (s : State) (f : Fd) (b : Bool) : (s.putB f b).net = s.net := rfl
@[simp] theorem putB_pending (s : State) (f : Fd) (b : Bool) : (s.putB f b).pending = s.pending := rfl
@[simp] theorem putB_awake (s : State) (f : Fd) (b : Bool) : (s.putB f b).awake = s.awake := rfl
@[simp] theorem putB_byte (s : State) (f : Fd) (b : Bool) (k : Nat) : (s.putB f b).byte k = s.byte k := rfl

/-! ### bump -/

@[simp] theorem bump_mode (s : State) (f : Fd) : (s.bump f).mode = s.mode := rfl
@[simp] theorem bump_held (s : State) (f : Fd) : (s.bump f).held = s.held := rfl
@[simp] theorem bump_basin (s : State) (f : Fd) : (s.bump f).basin = s.basin := rfl
@[simp] theorem bump_xspi (s : State) (f : Fd) : (s.bump f).xspi = s.xspi := rfl
@[simp] theorem bump_out (s : State) (f : Fd) : (s.bump f).out = s.out := rfl
@[simp] theorem bump_fresh (s : State) (f : Fd) : (s.bump f).fresh = s.fresh := rfl
@[simp] theorem bump_err (s : State) (f : Fd) : (s.bump f).err = s.err := rfl
@[simp] theorem bump_sed (s : State) (f : Fd) : (s.bump f).sed = s.sed := rfl
@[simp] theorem bump_sib (s : State) (f : Fd) : (s.bump f).sib = s.sib := rfl
@[simp] theorem bump_txn (s : State) (f : Fd) : (s.bump f).txn = s.txn := rfl
@[simp] theorem bump_scn (s : State) (f : Fd) : (s.bump f).scn = s.scn := rfl
@[simp] theorem bump_time (s : State) (f : Fd) : (s.bump f).time = s.time := rfl
@[simp] theorem bump_field (s : State) (f : Fd) : (s.bump f).field = s.field := rfl
@[simp] theorem bump_net (s : State) (f : Fd) : (s.bump f).net = s.net := rfl
@[simp] theorem bump_pending (s : State) (f : Fd) : (s.bump f).pending = s.pending := rfl
@[simp] theorem bump_awake (s : State) (f : Fd) : (s.bump f).awake = s.awake := rfl
@[simp] theorem bump_byte (s : State) (f : Fd) (k : Nat) : (s.bump f).byte k = s.byte k := rfl

/-! ### put64 -/

@[simp] theorem put64_mode (s : State) (lo hi v : Nat) : (s.put64 lo hi v).mode = s.mode := rfl
@[simp] theorem put64_held (s : State) (lo hi v : Nat) : (s.put64 lo hi v).held = s.held := rfl
@[simp] theorem put64_basin (s : State) (lo hi v : Nat) : (s.put64 lo hi v).basin = s.basin := rfl
@[simp] theorem put64_xspi (s : State) (lo hi v : Nat) : (s.put64 lo hi v).xspi = s.xspi := rfl
@[simp] theorem put64_out (s : State) (lo hi v : Nat) : (s.put64 lo hi v).out = s.out := rfl
@[simp] theorem put64_fresh (s : State) (lo hi v : Nat) : (s.put64 lo hi v).fresh = s.fresh := rfl
@[simp] theorem put64_err (s : State) (lo hi v : Nat) : (s.put64 lo hi v).err = s.err := rfl
@[simp] theorem put64_sed (s : State) (lo hi v : Nat) : (s.put64 lo hi v).sed = s.sed := rfl
@[simp] theorem put64_sib (s : State) (lo hi v : Nat) : (s.put64 lo hi v).sib = s.sib := rfl
@[simp] theorem put64_txn (s : State) (lo hi v : Nat) : (s.put64 lo hi v).txn = s.txn := rfl
@[simp] theorem put64_scn (s : State) (lo hi v : Nat) : (s.put64 lo hi v).scn = s.scn := rfl
@[simp] theorem put64_time (s : State) (lo hi v : Nat) : (s.put64 lo hi v).time = s.time := rfl
@[simp] theorem put64_field (s : State) (lo hi v : Nat) : (s.put64 lo hi v).field = s.field := rfl
@[simp] theorem put64_net (s : State) (lo hi v : Nat) : (s.put64 lo hi v).net = s.net := rfl
@[simp] theorem put64_pending (s : State) (lo hi v : Nat) : (s.put64 lo hi v).pending = s.pending := rfl
@[simp] theorem put64_awake (s : State) (lo hi v : Nat) : (s.put64 lo hi v).awake = s.awake := rfl
@[simp] theorem put64_byte (s : State) (lo hi v : Nat) (k : Nat) : (s.put64 lo hi v).byte k = s.byte k := rfl

/-! ### setByte -/

@[simp] theorem setByte_mode (s : State) (a : Nat) (v : Byte) : (s.setByte a v).mode = s.mode := rfl
@[simp] theorem setByte_mainOn (s : State) (a : Nat) (v : Byte) : (s.setByte a v).mainOn = s.mainOn := rfl
@[simp] theorem setByte_held (s : State) (a : Nat) (v : Byte) : (s.setByte a v).held = s.held := rfl
@[simp] theorem setByte_stopped (s : State) (a : Nat) (v : Byte) : (s.setByte a v).stopped = s.stopped := rfl
@[simp] theorem setByte_waking (s : State) (a : Nat) (v : Byte) : (s.setByte a v).waking = s.waking := rfl
@[simp] theorem setByte_strapsDue (s : State) (a : Nat) (v : Byte) : (s.setByte a v).strapsDue = s.strapsDue := rfl
@[simp] theorem setByte_cause (s : State) (a : Nat) (v : Byte) : (s.setByte a v).cause = s.cause := rfl
@[simp] theorem setByte_pos (s : State) (a : Nat) (v : Byte) : (s.setByte a v).pos = s.pos := rfl
@[simp] theorem setByte_boot (s : State) (a : Nat) (v : Byte) : (s.setByte a v).boot = s.boot := rfl
@[simp] theorem setByte_aoAlm (s : State) (a : Nat) (v : Byte) : (s.setByte a v).aoAlm = s.aoAlm := rfl
@[simp] theorem setByte_regs (s : State) (a : Nat) (v : Byte) : (s.setByte a v).regs = s.regs := rfl
@[simp] theorem setByte_latch (s : State) (a : Nat) (v : Byte) : (s.setByte a v).latch = s.latch := rfl
@[simp] theorem setByte_lowHeld (s : State) (a : Nat) (v : Byte) : (s.setByte a v).lowHeld = s.lowHeld := rfl
@[simp] theorem setByte_locks (s : State) (a : Nat) (v : Byte) : (s.setByte a v).locks = s.locks := rfl
@[simp] theorem setByte_readData (s : State) (a : Nat) (v : Byte) : (s.setByte a v).readData = s.readData := rfl
@[simp] theorem setByte_xspi (s : State) (a : Nat) (v : Byte) : (s.setByte a v).xspi = s.xspi := rfl
@[simp] theorem setByte_out (s : State) (a : Nat) (v : Byte) : (s.setByte a v).out = s.out := rfl
@[simp] theorem setByte_fresh (s : State) (a : Nat) (v : Byte) : (s.setByte a v).fresh = s.fresh := rfl
@[simp] theorem setByte_err (s : State) (a : Nat) (v : Byte) : (s.setByte a v).err = s.err := rfl
@[simp] theorem setByte_sed (s : State) (a : Nat) (v : Byte) : (s.setByte a v).sed = s.sed := rfl
@[simp] theorem setByte_sib (s : State) (a : Nat) (v : Byte) : (s.setByte a v).sib = s.sib := rfl
@[simp] theorem setByte_txn (s : State) (a : Nat) (v : Byte) : (s.setByte a v).txn = s.txn := rfl
@[simp] theorem setByte_bsn (s : State) (a : Nat) (v : Byte) : (s.setByte a v).bsn = s.bsn := rfl
@[simp] theorem setByte_monLive (s : State) (a : Nat) (v : Byte) : (s.setByte a v).monLive = s.monLive := rfl
@[simp] theorem setByte_monSnap (s : State) (a : Nat) (v : Byte) : (s.setByte a v).monSnap = s.monSnap := rfl
@[simp] theorem setByte_monArmed (s : State) (a : Nat) (v : Byte) : (s.setByte a v).monArmed = s.monArmed := rfl
@[simp] theorem setByte_scn (s : State) (a : Nat) (v : Byte) : (s.setByte a v).scn = s.scn := rfl
@[simp] theorem setByte_slv (s : State) (a : Nat) (v : Byte) : (s.setByte a v).slv = s.slv := rfl
@[simp] theorem setByte_time (s : State) (a : Nat) (v : Byte) : (s.setByte a v).time = s.time := rfl
@[simp] theorem setByte_field (s : State) (a : Nat) (v : Byte) : (s.setByte a v).field = s.field := rfl
@[simp] theorem setByte_lop (s : State) (a : Nat) (v : Byte) : (s.setByte a v).lop = s.lop := rfl
@[simp] theorem setByte_adc (s : State) (a : Nat) (v : Byte) : (s.setByte a v).adc = s.adc := rfl
@[simp] theorem setByte_nrg (s : State) (a : Nat) (v : Byte) : (s.setByte a v).nrg = s.nrg := rfl
@[simp] theorem setByte_rsv (s : State) (a : Nat) (v : Byte) : (s.setByte a v).rsv = s.rsv := rfl
@[simp] theorem setByte_stn (s : State) (a : Nat) (v : Byte) : (s.setByte a v).stn = s.stn := rfl
@[simp] theorem setByte_lum (s : State) (a : Nat) (v : Byte) : (s.setByte a v).lum = s.lum := rfl
@[simp] theorem setByte_pms (s : State) (a : Nat) (v : Byte) : (s.setByte a v).pms = s.pms := rfl
@[simp] theorem setByte_net (s : State) (a : Nat) (v : Byte) : (s.setByte a v).net = s.net := rfl
@[simp] theorem setByte_wear (s : State) (a : Nat) (v : Byte) : (s.setByte a v).wear = s.wear := rfl
@[simp] theorem setByte_tap (s : State) (a : Nat) (v : Byte) : (s.setByte a v).tap = s.tap := rfl
@[simp] theorem setByte_pending (s : State) (a : Nat) (v : Byte) : (s.setByte a v).pending = s.pending := rfl
@[simp] theorem setByte_awake (s : State) (a : Nat) (v : Byte) : (s.setByte a v).awake = s.awake := rfl
@[simp] theorem setByte_reg (s : State) (a : Nat) (v : Byte) (k : Nat) : (s.setByte a v).reg k = s.reg k := rfl
@[simp] theorem setByte_fld (s : State) (a : Nat) (v : Byte) (k : Fd) : (s.setByte a v).fld k = s.fld k := rfl
@[simp] theorem setByte_flag (s : State) (a : Nat) (v : Byte) (k : Fd) : (s.setByte a v).flag k = s.flag k := rfl

/-! ### setWord -/

@[simp] theorem setWord_mode (s : State) (a : Nat) (v : Word) : (s.setWord a v).mode = s.mode := rfl
@[simp] theorem setWord_held (s : State) (a : Nat) (v : Word) : (s.setWord a v).held = s.held := rfl
@[simp] theorem setWord_regs (s : State) (a : Nat) (v : Word) : (s.setWord a v).regs = s.regs := rfl
@[simp] theorem setWord_xspi (s : State) (a : Nat) (v : Word) : (s.setWord a v).xspi = s.xspi := rfl
@[simp] theorem setWord_out (s : State) (a : Nat) (v : Word) : (s.setWord a v).out = s.out := rfl
@[simp] theorem setWord_fresh (s : State) (a : Nat) (v : Word) : (s.setWord a v).fresh = s.fresh := rfl
@[simp] theorem setWord_err (s : State) (a : Nat) (v : Word) : (s.setWord a v).err = s.err := rfl
@[simp] theorem setWord_sed (s : State) (a : Nat) (v : Word) : (s.setWord a v).sed = s.sed := rfl
@[simp] theorem setWord_sib (s : State) (a : Nat) (v : Word) : (s.setWord a v).sib = s.sib := rfl
@[simp] theorem setWord_txn (s : State) (a : Nat) (v : Word) : (s.setWord a v).txn = s.txn := rfl
@[simp] theorem setWord_scn (s : State) (a : Nat) (v : Word) : (s.setWord a v).scn = s.scn := rfl
@[simp] theorem setWord_time (s : State) (a : Nat) (v : Word) : (s.setWord a v).time = s.time := rfl
@[simp] theorem setWord_field (s : State) (a : Nat) (v : Word) : (s.setWord a v).field = s.field := rfl
@[simp] theorem setWord_net (s : State) (a : Nat) (v : Word) : (s.setWord a v).net = s.net := rfl
@[simp] theorem setWord_pending (s : State) (a : Nat) (v : Word) : (s.setWord a v).pending = s.pending := rfl
@[simp] theorem setWord_awake (s : State) (a : Nat) (v : Word) : (s.setWord a v).awake = s.awake := rfl
@[simp] theorem setWord_reg (s : State) (a : Nat) (v : Word) (k : Nat) : (s.setWord a v).reg k = s.reg k := rfl
@[simp] theorem setWord_fld (s : State) (a : Nat) (v : Word) (k : Fd) : (s.setWord a v).fld k = s.fld k := rfl
@[simp] theorem setWord_flag (s : State) (a : Nat) (v : Word) (k : Fd) : (s.setWord a v).flag k = s.flag k := rfl

/-! ### setScn -/

@[simp] theorem setScn_mode (s : State) (f : ScanState → ScanState) : (s.setScn f).mode = s.mode := rfl
@[simp] theorem setScn_held (s : State) (f : ScanState → ScanState) : (s.setScn f).held = s.held := rfl
@[simp] theorem setScn_regs (s : State) (f : ScanState → ScanState) : (s.setScn f).regs = s.regs := rfl
@[simp] theorem setScn_basin (s : State) (f : ScanState → ScanState) : (s.setScn f).basin = s.basin := rfl
@[simp] theorem setScn_xspi (s : State) (f : ScanState → ScanState) : (s.setScn f).xspi = s.xspi := rfl
@[simp] theorem setScn_out (s : State) (f : ScanState → ScanState) : (s.setScn f).out = s.out := rfl
@[simp] theorem setScn_fresh (s : State) (f : ScanState → ScanState) : (s.setScn f).fresh = s.fresh := rfl
@[simp] theorem setScn_err (s : State) (f : ScanState → ScanState) : (s.setScn f).err = s.err := rfl
@[simp] theorem setScn_sed (s : State) (f : ScanState → ScanState) : (s.setScn f).sed = s.sed := rfl
@[simp] theorem setScn_sib (s : State) (f : ScanState → ScanState) : (s.setScn f).sib = s.sib := rfl
@[simp] theorem setScn_txn (s : State) (f : ScanState → ScanState) : (s.setScn f).txn = s.txn := rfl
@[simp] theorem setScn_time (s : State) (f : ScanState → ScanState) : (s.setScn f).time = s.time := rfl
@[simp] theorem setScn_field (s : State) (f : ScanState → ScanState) : (s.setScn f).field = s.field := rfl
@[simp] theorem setScn_net (s : State) (f : ScanState → ScanState) : (s.setScn f).net = s.net := rfl
@[simp] theorem setScn_pending (s : State) (f : ScanState → ScanState) : (s.setScn f).pending = s.pending := rfl
@[simp] theorem setScn_awake (s : State) (f : ScanState → ScanState) : (s.setScn f).awake = s.awake := rfl
@[simp] theorem setScn_reg (s : State) (f : ScanState → ScanState) (k : Nat) : (s.setScn f).reg k = s.reg k := rfl
@[simp] theorem setScn_fld (s : State) (f : ScanState → ScanState) (k : Fd) : (s.setScn f).fld k = s.fld k := rfl
@[simp] theorem setScn_flag (s : State) (f : ScanState → ScanState) (k : Fd) : (s.setScn f).flag k = s.flag k := rfl
@[simp] theorem setScn_byte (s : State) (f : ScanState → ScanState) (k : Nat) : (s.setScn f).byte k = s.byte k := rfl
@[simp] theorem setScn_scn (s : State) (f : ScanState → ScanState) : (s.setScn f).scn = f s.scn := rfl

/-! ### setSib -/

@[simp] theorem setSib_mode (s : State) (f : SibState → SibState) : (s.setSib f).mode = s.mode := rfl
@[simp] theorem setSib_held (s : State) (f : SibState → SibState) : (s.setSib f).held = s.held := rfl
@[simp] theorem setSib_regs (s : State) (f : SibState → SibState) : (s.setSib f).regs = s.regs := rfl
@[simp] theorem setSib_basin (s : State) (f : SibState → SibState) : (s.setSib f).basin = s.basin := rfl
@[simp] theorem setSib_xspi (s : State) (f : SibState → SibState) : (s.setSib f).xspi = s.xspi := rfl
@[simp] theorem setSib_out (s : State) (f : SibState → SibState) : (s.setSib f).out = s.out := rfl
@[simp] theorem setSib_fresh (s : State) (f : SibState → SibState) : (s.setSib f).fresh = s.fresh := rfl
@[simp] theorem setSib_err (s : State) (f : SibState → SibState) : (s.setSib f).err = s.err := rfl
@[simp] theorem setSib_sed (s : State) (f : SibState → SibState) : (s.setSib f).sed = s.sed := rfl
@[simp] theorem setSib_txn (s : State) (f : SibState → SibState) : (s.setSib f).txn = s.txn := rfl
@[simp] theorem setSib_scn (s : State) (f : SibState → SibState) : (s.setSib f).scn = s.scn := rfl
@[simp] theorem setSib_time (s : State) (f : SibState → SibState) : (s.setSib f).time = s.time := rfl
@[simp] theorem setSib_field (s : State) (f : SibState → SibState) : (s.setSib f).field = s.field := rfl
@[simp] theorem setSib_net (s : State) (f : SibState → SibState) : (s.setSib f).net = s.net := rfl
@[simp] theorem setSib_pending (s : State) (f : SibState → SibState) : (s.setSib f).pending = s.pending := rfl
@[simp] theorem setSib_awake (s : State) (f : SibState → SibState) : (s.setSib f).awake = s.awake := rfl
@[simp] theorem setSib_reg (s : State) (f : SibState → SibState) (k : Nat) : (s.setSib f).reg k = s.reg k := rfl
@[simp] theorem setSib_fld (s : State) (f : SibState → SibState) (k : Fd) : (s.setSib f).fld k = s.fld k := rfl
@[simp] theorem setSib_flag (s : State) (f : SibState → SibState) (k : Fd) : (s.setSib f).flag k = s.flag k := rfl
@[simp] theorem setSib_byte (s : State) (f : SibState → SibState) (k : Nat) : (s.setSib f).byte k = s.byte k := rfl
@[simp] theorem setSib_sib (s : State) (f : SibState → SibState) : (s.setSib f).sib = f s.sib := rfl

/-! ### setBsn -/

@[simp] theorem setBsn_mode (s : State) (f : BsnState → BsnState) : (s.setBsn f).mode = s.mode := rfl
@[simp] theorem setBsn_held (s : State) (f : BsnState → BsnState) : (s.setBsn f).held = s.held := rfl
@[simp] theorem setBsn_regs (s : State) (f : BsnState → BsnState) : (s.setBsn f).regs = s.regs := rfl
@[simp] theorem setBsn_basin (s : State) (f : BsnState → BsnState) : (s.setBsn f).basin = s.basin := rfl
@[simp] theorem setBsn_xspi (s : State) (f : BsnState → BsnState) : (s.setBsn f).xspi = s.xspi := rfl
@[simp] theorem setBsn_out (s : State) (f : BsnState → BsnState) : (s.setBsn f).out = s.out := rfl
@[simp] theorem setBsn_fresh (s : State) (f : BsnState → BsnState) : (s.setBsn f).fresh = s.fresh := rfl
@[simp] theorem setBsn_err (s : State) (f : BsnState → BsnState) : (s.setBsn f).err = s.err := rfl
@[simp] theorem setBsn_sed (s : State) (f : BsnState → BsnState) : (s.setBsn f).sed = s.sed := rfl
@[simp] theorem setBsn_sib (s : State) (f : BsnState → BsnState) : (s.setBsn f).sib = s.sib := rfl
@[simp] theorem setBsn_txn (s : State) (f : BsnState → BsnState) : (s.setBsn f).txn = s.txn := rfl
@[simp] theorem setBsn_scn (s : State) (f : BsnState → BsnState) : (s.setBsn f).scn = s.scn := rfl
@[simp] theorem setBsn_time (s : State) (f : BsnState → BsnState) : (s.setBsn f).time = s.time := rfl
@[simp] theorem setBsn_field (s : State) (f : BsnState → BsnState) : (s.setBsn f).field = s.field := rfl
@[simp] theorem setBsn_net (s : State) (f : BsnState → BsnState) : (s.setBsn f).net = s.net := rfl
@[simp] theorem setBsn_pending (s : State) (f : BsnState → BsnState) : (s.setBsn f).pending = s.pending := rfl
@[simp] theorem setBsn_awake (s : State) (f : BsnState → BsnState) : (s.setBsn f).awake = s.awake := rfl
@[simp] theorem setBsn_reg (s : State) (f : BsnState → BsnState) (k : Nat) : (s.setBsn f).reg k = s.reg k := rfl
@[simp] theorem setBsn_fld (s : State) (f : BsnState → BsnState) (k : Fd) : (s.setBsn f).fld k = s.fld k := rfl
@[simp] theorem setBsn_flag (s : State) (f : BsnState → BsnState) (k : Fd) : (s.setBsn f).flag k = s.flag k := rfl
@[simp] theorem setBsn_byte (s : State) (f : BsnState → BsnState) (k : Nat) : (s.setBsn f).byte k = s.byte k := rfl
@[simp] theorem setBsn_bsn (s : State) (f : BsnState → BsnState) : (s.setBsn f).bsn = f s.bsn := rfl

/-! ### setTime -/

@[simp] theorem setTime_mode (s : State) (f : TimeState → TimeState) : (s.setTime f).mode = s.mode := rfl
@[simp] theorem setTime_held (s : State) (f : TimeState → TimeState) : (s.setTime f).held = s.held := rfl
@[simp] theorem setTime_regs (s : State) (f : TimeState → TimeState) : (s.setTime f).regs = s.regs := rfl
@[simp] theorem setTime_basin (s : State) (f : TimeState → TimeState) : (s.setTime f).basin = s.basin := rfl
@[simp] theorem setTime_xspi (s : State) (f : TimeState → TimeState) : (s.setTime f).xspi = s.xspi := rfl
@[simp] theorem setTime_out (s : State) (f : TimeState → TimeState) : (s.setTime f).out = s.out := rfl
@[simp] theorem setTime_fresh (s : State) (f : TimeState → TimeState) : (s.setTime f).fresh = s.fresh := rfl
@[simp] theorem setTime_err (s : State) (f : TimeState → TimeState) : (s.setTime f).err = s.err := rfl
@[simp] theorem setTime_sed (s : State) (f : TimeState → TimeState) : (s.setTime f).sed = s.sed := rfl
@[simp] theorem setTime_sib (s : State) (f : TimeState → TimeState) : (s.setTime f).sib = s.sib := rfl
@[simp] theorem setTime_txn (s : State) (f : TimeState → TimeState) : (s.setTime f).txn = s.txn := rfl
@[simp] theorem setTime_scn (s : State) (f : TimeState → TimeState) : (s.setTime f).scn = s.scn := rfl
@[simp] theorem setTime_field (s : State) (f : TimeState → TimeState) : (s.setTime f).field = s.field := rfl
@[simp] theorem setTime_net (s : State) (f : TimeState → TimeState) : (s.setTime f).net = s.net := rfl
@[simp] theorem setTime_pending (s : State) (f : TimeState → TimeState) : (s.setTime f).pending = s.pending := rfl
@[simp] theorem setTime_awake (s : State) (f : TimeState → TimeState) : (s.setTime f).awake = s.awake := rfl
@[simp] theorem setTime_reg (s : State) (f : TimeState → TimeState) (k : Nat) : (s.setTime f).reg k = s.reg k := rfl
@[simp] theorem setTime_fld (s : State) (f : TimeState → TimeState) (k : Fd) : (s.setTime f).fld k = s.fld k := rfl
@[simp] theorem setTime_flag (s : State) (f : TimeState → TimeState) (k : Fd) : (s.setTime f).flag k = s.flag k := rfl
@[simp] theorem setTime_byte (s : State) (f : TimeState → TimeState) (k : Nat) : (s.setTime f).byte k = s.byte k := rfl
@[simp] theorem setTime_time (s : State) (f : TimeState → TimeState) : (s.setTime f).time = f s.time := rfl

/-! ### setNet -/

@[simp] theorem setNet_mode (s : State) (f : NetState → NetState) : (s.setNet f).mode = s.mode := rfl
@[simp] theorem setNet_held (s : State) (f : NetState → NetState) : (s.setNet f).held = s.held := rfl
@[simp] theorem setNet_regs (s : State) (f : NetState → NetState) : (s.setNet f).regs = s.regs := rfl
@[simp] theorem setNet_basin (s : State) (f : NetState → NetState) : (s.setNet f).basin = s.basin := rfl
@[simp] theorem setNet_xspi (s : State) (f : NetState → NetState) : (s.setNet f).xspi = s.xspi := rfl
@[simp] theorem setNet_out (s : State) (f : NetState → NetState) : (s.setNet f).out = s.out := rfl
@[simp] theorem setNet_fresh (s : State) (f : NetState → NetState) : (s.setNet f).fresh = s.fresh := rfl
@[simp] theorem setNet_err (s : State) (f : NetState → NetState) : (s.setNet f).err = s.err := rfl
@[simp] theorem setNet_sed (s : State) (f : NetState → NetState) : (s.setNet f).sed = s.sed := rfl
@[simp] theorem setNet_sib (s : State) (f : NetState → NetState) : (s.setNet f).sib = s.sib := rfl
@[simp] theorem setNet_txn (s : State) (f : NetState → NetState) : (s.setNet f).txn = s.txn := rfl
@[simp] theorem setNet_scn (s : State) (f : NetState → NetState) : (s.setNet f).scn = s.scn := rfl
@[simp] theorem setNet_time (s : State) (f : NetState → NetState) : (s.setNet f).time = s.time := rfl
@[simp] theorem setNet_field (s : State) (f : NetState → NetState) : (s.setNet f).field = s.field := rfl
@[simp] theorem setNet_pending (s : State) (f : NetState → NetState) : (s.setNet f).pending = s.pending := rfl
@[simp] theorem setNet_awake (s : State) (f : NetState → NetState) : (s.setNet f).awake = s.awake := rfl
@[simp] theorem setNet_reg (s : State) (f : NetState → NetState) (k : Nat) : (s.setNet f).reg k = s.reg k := rfl
@[simp] theorem setNet_fld (s : State) (f : NetState → NetState) (k : Fd) : (s.setNet f).fld k = s.fld k := rfl
@[simp] theorem setNet_flag (s : State) (f : NetState → NetState) (k : Fd) : (s.setNet f).flag k = s.flag k := rfl
@[simp] theorem setNet_byte (s : State) (f : NetState → NetState) (k : Nat) : (s.setNet f).byte k = s.byte k := rfl
@[simp] theorem setNet_net (s : State) (f : NetState → NetState) : (s.setNet f).net = f s.net := rfl

/-! ### setTap -/

@[simp] theorem setTap_mode (s : State) (f : TapState → TapState) : (s.setTap f).mode = s.mode := rfl
@[simp] theorem setTap_held (s : State) (f : TapState → TapState) : (s.setTap f).held = s.held := rfl
@[simp] theorem setTap_regs (s : State) (f : TapState → TapState) : (s.setTap f).regs = s.regs := rfl
@[simp] theorem setTap_basin (s : State) (f : TapState → TapState) : (s.setTap f).basin = s.basin := rfl
@[simp] theorem setTap_xspi (s : State) (f : TapState → TapState) : (s.setTap f).xspi = s.xspi := rfl
@[simp] theorem setTap_out (s : State) (f : TapState → TapState) : (s.setTap f).out = s.out := rfl
@[simp] theorem setTap_fresh (s : State) (f : TapState → TapState) : (s.setTap f).fresh = s.fresh := rfl
@[simp] theorem setTap_err (s : State) (f : TapState → TapState) : (s.setTap f).err = s.err := rfl
@[simp] theorem setTap_sed (s : State) (f : TapState → TapState) : (s.setTap f).sed = s.sed := rfl
@[simp] theorem setTap_sib (s : State) (f : TapState → TapState) : (s.setTap f).sib = s.sib := rfl
@[simp] theorem setTap_txn (s : State) (f : TapState → TapState) : (s.setTap f).txn = s.txn := rfl
@[simp] theorem setTap_scn (s : State) (f : TapState → TapState) : (s.setTap f).scn = s.scn := rfl
@[simp] theorem setTap_time (s : State) (f : TapState → TapState) : (s.setTap f).time = s.time := rfl
@[simp] theorem setTap_field (s : State) (f : TapState → TapState) : (s.setTap f).field = s.field := rfl
@[simp] theorem setTap_net (s : State) (f : TapState → TapState) : (s.setTap f).net = s.net := rfl
@[simp] theorem setTap_pending (s : State) (f : TapState → TapState) : (s.setTap f).pending = s.pending := rfl
@[simp] theorem setTap_awake (s : State) (f : TapState → TapState) : (s.setTap f).awake = s.awake := rfl
@[simp] theorem setTap_reg (s : State) (f : TapState → TapState) (k : Nat) : (s.setTap f).reg k = s.reg k := rfl
@[simp] theorem setTap_fld (s : State) (f : TapState → TapState) (k : Fd) : (s.setTap f).fld k = s.fld k := rfl
@[simp] theorem setTap_flag (s : State) (f : TapState → TapState) (k : Fd) : (s.setTap f).flag k = s.flag k := rfl
@[simp] theorem setTap_byte (s : State) (f : TapState → TapState) (k : Nat) : (s.setTap f).byte k = s.byte k := rfl
@[simp] theorem setTap_tap (s : State) (f : TapState → TapState) : (s.setTap f).tap = f s.tap := rfl

/-! ### send -/

@[simp] theorem send_mode (s : State) (o : Out) : (s.send o).mode = s.mode := rfl
@[simp] theorem send_mainOn (s : State) (o : Out) : (s.send o).mainOn = s.mainOn := rfl
@[simp] theorem send_held (s : State) (o : Out) : (s.send o).held = s.held := rfl
@[simp] theorem send_stopped (s : State) (o : Out) : (s.send o).stopped = s.stopped := rfl
@[simp] theorem send_waking (s : State) (o : Out) : (s.send o).waking = s.waking := rfl
@[simp] theorem send_strapsDue (s : State) (o : Out) : (s.send o).strapsDue = s.strapsDue := rfl
@[simp] theorem send_cause (s : State) (o : Out) : (s.send o).cause = s.cause := rfl
@[simp] theorem send_pos (s : State) (o : Out) : (s.send o).pos = s.pos := rfl
@[simp] theorem send_boot (s : State) (o : Out) : (s.send o).boot = s.boot := rfl
@[simp] theorem send_aoAlm (s : State) (o : Out) : (s.send o).aoAlm = s.aoAlm := rfl
@[simp] theorem send_regs (s : State) (o : Out) : (s.send o).regs = s.regs := rfl
@[simp] theorem send_latch (s : State) (o : Out) : (s.send o).latch = s.latch := rfl
@[simp] theorem send_lowHeld (s : State) (o : Out) : (s.send o).lowHeld = s.lowHeld := rfl
@[simp] theorem send_locks (s : State) (o : Out) : (s.send o).locks = s.locks := rfl
@[simp] theorem send_readData (s : State) (o : Out) : (s.send o).readData = s.readData := rfl
@[simp] theorem send_basin (s : State) (o : Out) : (s.send o).basin = s.basin := rfl
@[simp] theorem send_xspi (s : State) (o : Out) : (s.send o).xspi = s.xspi := rfl
@[simp] theorem send_fresh (s : State) (o : Out) : (s.send o).fresh = s.fresh := rfl
@[simp] theorem send_err (s : State) (o : Out) : (s.send o).err = s.err := rfl
@[simp] theorem send_sed (s : State) (o : Out) : (s.send o).sed = s.sed := rfl
@[simp] theorem send_sib (s : State) (o : Out) : (s.send o).sib = s.sib := rfl
@[simp] theorem send_txn (s : State) (o : Out) : (s.send o).txn = s.txn := rfl
@[simp] theorem send_bsn (s : State) (o : Out) : (s.send o).bsn = s.bsn := rfl
@[simp] theorem send_monLive (s : State) (o : Out) : (s.send o).monLive = s.monLive := rfl
@[simp] theorem send_monSnap (s : State) (o : Out) : (s.send o).monSnap = s.monSnap := rfl
@[simp] theorem send_monArmed (s : State) (o : Out) : (s.send o).monArmed = s.monArmed := rfl
@[simp] theorem send_scn (s : State) (o : Out) : (s.send o).scn = s.scn := rfl
@[simp] theorem send_slv (s : State) (o : Out) : (s.send o).slv = s.slv := rfl
@[simp] theorem send_time (s : State) (o : Out) : (s.send o).time = s.time := rfl
@[simp] theorem send_field (s : State) (o : Out) : (s.send o).field = s.field := rfl
@[simp] theorem send_lop (s : State) (o : Out) : (s.send o).lop = s.lop := rfl
@[simp] theorem send_adc (s : State) (o : Out) : (s.send o).adc = s.adc := rfl
@[simp] theorem send_nrg (s : State) (o : Out) : (s.send o).nrg = s.nrg := rfl
@[simp] theorem send_rsv (s : State) (o : Out) : (s.send o).rsv = s.rsv := rfl
@[simp] theorem send_stn (s : State) (o : Out) : (s.send o).stn = s.stn := rfl
@[simp] theorem send_lum (s : State) (o : Out) : (s.send o).lum = s.lum := rfl
@[simp] theorem send_pms (s : State) (o : Out) : (s.send o).pms = s.pms := rfl
@[simp] theorem send_net (s : State) (o : Out) : (s.send o).net = s.net := rfl
@[simp] theorem send_wear (s : State) (o : Out) : (s.send o).wear = s.wear := rfl
@[simp] theorem send_tap (s : State) (o : Out) : (s.send o).tap = s.tap := rfl
@[simp] theorem send_pending (s : State) (o : Out) : (s.send o).pending = s.pending := rfl
@[simp] theorem send_awake (s : State) (o : Out) : (s.send o).awake = s.awake := rfl
@[simp] theorem send_reg (s : State) (o : Out) (k : Nat) : (s.send o).reg k = s.reg k := rfl
@[simp] theorem send_fld (s : State) (o : Out) (k : Fd) : (s.send o).fld k = s.fld k := rfl
@[simp] theorem send_flag (s : State) (o : Out) (k : Fd) : (s.send o).flag k = s.flag k := rfl
@[simp] theorem send_byte (s : State) (o : Out) (k : Nat) : (s.send o).byte k = s.byte k := rfl

/-! ### usedFree -/

@[simp] theorem usedFree_mode (s : State) : (s.usedFree).mode = s.mode := rfl
@[simp] theorem usedFree_held (s : State) : (s.usedFree).held = s.held := rfl
@[simp] theorem usedFree_regs (s : State) : (s.usedFree).regs = s.regs := rfl
@[simp] theorem usedFree_basin (s : State) : (s.usedFree).basin = s.basin := rfl
@[simp] theorem usedFree_xspi (s : State) : (s.usedFree).xspi = s.xspi := rfl
@[simp] theorem usedFree_out (s : State) : (s.usedFree).out = s.out := rfl
@[simp] theorem usedFree_err (s : State) : (s.usedFree).err = s.err := rfl
@[simp] theorem usedFree_sed (s : State) : (s.usedFree).sed = s.sed := rfl
@[simp] theorem usedFree_sib (s : State) : (s.usedFree).sib = s.sib := rfl
@[simp] theorem usedFree_txn (s : State) : (s.usedFree).txn = s.txn := rfl
@[simp] theorem usedFree_scn (s : State) : (s.usedFree).scn = s.scn := rfl
@[simp] theorem usedFree_time (s : State) : (s.usedFree).time = s.time := rfl
@[simp] theorem usedFree_field (s : State) : (s.usedFree).field = s.field := rfl
@[simp] theorem usedFree_net (s : State) : (s.usedFree).net = s.net := rfl
@[simp] theorem usedFree_pending (s : State) : (s.usedFree).pending = s.pending := rfl
@[simp] theorem usedFree_awake (s : State) : (s.usedFree).awake = s.awake := rfl
@[simp] theorem usedFree_reg (s : State) (k : Nat) : (s.usedFree).reg k = s.reg k := rfl
@[simp] theorem usedFree_fld (s : State) (k : Fd) : (s.usedFree).fld k = s.fld k := rfl
@[simp] theorem usedFree_flag (s : State) (k : Fd) : (s.usedFree).flag k = s.flag k := rfl
@[simp] theorem usedFree_byte (s : State) (k : Nat) : (s.usedFree).byte k = s.byte k := rfl

end Sys2Proof.Machine
end

