-- ==== Sys2Proof/Tests/Slice0.lean ====
section
/-! SUPPORT. The model's own tests: an ill-formed term for each check of WellFormed, scan code words written out from the spec's fields, a
concrete state for the hypotheses of every statement, and single steps whose expected results come from the spec's words. -/

namespace Sys2Proof.Tests
open Sys2Proof Sys2Proof.Machine

set_option Elab.async false

/-! ### States -/

/-- Member A in Run, its core domains and clocks running, within base tick 4. -/
def atWork : State :=
  let s := { State.reset with held := false, strapsDue := false, mode := .run, pos := 1,
                              time := { State.reset.time with running := true, ns := 1000000, edge := 1250000 } }
  s.setRole 1 3

/-- PTP time at an instant, the next base tick edge after it. -/
def atTime (ns : Nat) : State := { atWork with time := { atWork.time with ns := ns, edge := (ns / 250000 + 1) * 250000 } }

/-- The same in Commission. -/
def atBench : State := { atWork with mode := .commission }

/-- A device at position S. -/
def single : State := { atWork with pos := 0 }

/-- A state with the clock at an instant, the next base tick edge after it. -/
def timed (s : State) (ns : Nat) : State := { s with time := { s.time with ns := ns, edge := (ns / 250000 + 1) * 250000 } }

/-- A member whose siblings vote. -/
def inTriplet : State := ((atWork.setRole 1 3).setRole 2 3).setRole 3 3

/-- A program of some words in phase 3, at its first word. -/
def program (ws : List Word) : State := (atWork.put .SCN_STAT_PHASE 3).setScn fun x => { x with code := ws }

/-- A program that begins with an instruction. -/
def placed (i : Instr) : State := program ((scanEncode i).toList ++ [0, 0])

/-- What a command's next state shows; false where there is none. -/
def after (c : Instr) (s : State) (p : State → Bool) : Bool :=
  match exec c s with
  | .next t => p t
  | .fault _ => false
  | .refused _ => false

/-! ### Well-formedness -/

theorem test_wf_register_address : Instr.wf (.registerWrite 0x32000 0) = false ∧ Instr.wf (.rcRead 2) = false ∧
    Instr.wf (.w1cWrite 0x3FFFC 0) = false ∧ Instr.wf (.loWordRead 0x00001) = false ∧ Instr.wf (.rwsWrite 0x32000 0) = false ∧
    Instr.wf (.registerWrite 0x31FFC 0) = true := by decide
theorem test_wf_scan_operands : Instr.wf (.add 0 0 64) = false ∧ Instr.wf (.add 0 0 0x2040) = true ∧ Instr.wf (.ldhi 0 16 0) = false ∧
    Instr.wf (.tmr 3 0 0) = false ∧ Instr.wf (.rdl 0 6 0) = false ∧ Instr.wf (.rdq 0 3 0) = false ∧ Instr.wf (.raise 3 0 0) = false ∧
    Instr.wf (.grpOpen 5 63 0) = false ∧ Instr.wf (.grpOpen 5 62 0) = true := by decide
theorem test_wf_register_forms : ([.sel 0 0 64, .and 0 0 64, .or 0 0 64, .xor 0 0 64, .shl 0 0 64, .shr 0 0 64, .sar 0 0 64, .sub 0 0 64,
    .mul 0 0 64, .div 0 0 64, .cmp 0 0 64, .fadd 0 0 64, .fsub 0 0 64, .fmul 0 0 64, .fdiv 0 0 64, .flim 0 0 64,
    .fcmp 0 0 64] : List Instr).all (fun i => !i.wf) = true := by decide
theorem test_wf_lists : Instr.wf (.baseTick []) = false ∧ Instr.wf (.conversion 0 []) = false ∧ Instr.wf (.dioSample []) = false ∧
    Instr.wf (.dailyPlan [] 0 0 [] [] none) = false ∧ Instr.wf (.idleSequence 0 0 []) = false ∧ Instr.wf (.ethernetFrame 0 0 [] true) = false ∧
    Instr.wf (.hostSpiTransaction [] 0 none) = false := by decide
theorem test_wf_can_frames : Instr.wf (.canFrameReceived 0 0 false 2048 false false false 0 [] 0 0) = false ∧
    Instr.wf (.canFrameReceived 0 0 true 2048 false true false 0 [] 0 0) = false ∧
    Instr.wf (.canFrameReceived 0 0 true 2048 false false false 9 [] 0 0) = false ∧
    Instr.wf (.canFrameReceived 0 0 true 2048 true true false 9 (List.replicate 12 0) 0 0) = true := by decide
theorem test_wf_port_spans : Instr.wf (.bar2Access 0x3FFFFFF (.write [0, 0]) 2) = false ∧ Instr.wf (.bar2Access 0 (.write [0]) 2) = false ∧
    Instr.wf (.bar2Access 0x3FFFFFF (.read none) 2) = false ∧ Instr.wf (.extest 2 4) = false ∧ Instr.wf (.samplePreload 2 4) = false ∧
    Instr.wf (.bypass 2 4) = false ∧ Instr.wf (.bypass 2 3) = true := by decide
theorem test_wf_payloads : ∀ p : List Byte, p.length = 65536 → Instr.wf (.voteFrame 0 0 0 0 0 p 0) = false ∧
    Instr.wf (.cycleImageFrame 0 0 0 0 0 p 0) = false ∧ Instr.wf (.groupHashFrame 0 0 0 0 0 p 0) = false ∧
    Instr.wf (.timeFrame 0 0 0 0 0 0 p 0) = false ∧ Instr.wf (.healthFrame 0 0 0 0 0 0 p 0) = false ∧
    Instr.wf (.bulkFrame 0 0 0 0 0 p 0) = false ∧ Instr.wf (.frameRelay 0 0 0 0 0 0 p 0) = false ∧
    Instr.wf (.measurementFrame 0 0 0 p) = false ∧ Instr.wf (.joinFrame 0 0 0 p) = false := by
  intro p h; simp [Instr.wf, h]

/-! ### Scan code words, bit by bit from the fields of R217 and the opcodes of R219 -/

theorem test_scan_word_bits : scanDecode 0b000001_000101_000010_00000000000111#32 = some (.ldb 5 2 7) ∧
    scanDecode 0b000110_100001_000000_00000000000010#32 = some (.srb 33 0 2) ∧
    scanDecode 0b001010_000001_000000_00000000001001#32 = some (.edge 1 0 9) := by decide
theorem test_scan_word_words : scanDecode 0b001011_000001_000010_10000000000000#32 = some (.ldw 1 2 0x2000) ∧
    scanDecode 0b010000_000001_001111_00000000000001#32 = some (.ldhi 1 15 1) ∧
    scanDecode 0b010000_000001_010000_00000000000001#32 = none := by decide
theorem test_scan_word_integers : scanDecode 0b010110_000011_000100_11111111111111#32 = some (.add 3 4 0x3FFF) ∧
    scanDecode 0b010110_000011_000100_00000001000000#32 = none ∧ scanDecode 0b110011_000011_000100_00000000000101#32 = some (.shr 3 4 5) ∧
    scanDecode 0b011010_000010_000001_00000000000011#32 = some (.cmp 2 1 3) := by decide
theorem test_scan_word_floats : scanDecode 0b011011_000011_000100_00000000000101#32 = some (.fadd 3 4 5) ∧
    scanDecode 0b011111_000011_000100_00000000000001#32 = some (.fcvt 3 4 1) ∧
    scanDecode 0b100000_000011_000100_00000000000001#32 = some (.flim 3 4 1) := by decide
theorem test_scan_word_transfers : scanDecode 0b100011_000000_000000_00000000000011#32 = some (.lpb 0 0 3) ∧
    scanDecode 0b100101_000000_000000_00000000000100#32 = some (.call 0 0 4) ∧
    scanDecode 0b100110_000000_000000_00000000000000#32 = some (.ret 0 0 0) := by decide
theorem test_scan_word_timers : scanDecode 0b100111_000110_000001_00000000000010#32 = some (.tmr 6 1 2) ∧
    scanDecode 0b100111_000011_000001_00000000000010#32 = none ∧
    scanDecode 0b101000_000011_000001_00000000000010#32 = some (.ctr 3 1 2) := by decide
theorem test_scan_word_items : scanDecode 0b101010_000001_000101_00000000000001#32 = some (.rdl 1 5 1) ∧
    scanDecode 0b101010_000001_000110_00000000000001#32 = none ∧
    scanDecode 0b101100_000001_000010_00000000000001#32 = some (.rdq 1 2 1) ∧ scanDecode 0b101100_000001_000111_00000000000001#32 = none := by
  decide
theorem test_scan_word_groups : scanDecode 0b101110_001010_000000_00000000000111#32 = some (.grpArm 1 0 7) ∧
    scanDecode 0b101110_101001_111111_00000000000111#32 = none ∧ scanDecode 0b101110_000100_000000_00000000000000#32 = none ∧
    scanDecode 0b101111_000001_000010_00000000000011#32 = some (.stg 1 2 3) := by decide
theorem test_scan_word_events : scanDecode 0b110001_000001_000010_00000000000000#32 = some (.erd 1 2 0) ∧
    scanDecode 0b110010_000000_000000_00000000000000#32 = some (.eret 0 0 0) ∧
    scanDecode 0b111111_0000000000000000_1000000001#32 = some (.pfx 513) ∧
    scanDecode 0b111111_0000000000000001_1000000001#32 = none ∧ scanDecode 0b111110_000000_000000_00000000000000#32 = none := by decide

/-! ### Scan code results (expected values from R219 to R223) -/

/-- W1 and W2 hold two values; the first word is an instruction. -/
def withWords (i : Instr) (x y : Word) : State := (placed i).setScn fun z => { z with w := Sparse.put 0 (Sparse.put 0 z.w 1 x) 2 y }

theorem test_add_saturates : after (.add 3 1 2) (withWords (.add 3 1 2) 0x7FFFFFFF 1) (fun t =>
    t.wreg 3 == 0x7FFFFFFF#32 && t.flag .SCN_STAT_OVF && t.scn.pc == 1) = true := by decide +kernel
theorem test_sub_saturates : after (.sub 1 1 2) (withWords (.sub 1 1 2) 0x80000000 1) (fun t => t.wreg 1 == 0x80000000#32) = true := by
  decide +kernel
theorem test_mul : after (.mul 3 1 0x3FFF) (withWords (.mul 3 1 0x3FFF) 7 0) (fun t =>
    t.wreg 3 == 0xFFFFFFF9#32 && !t.flag .SCN_STAT_OVF) = true := by decide +kernel
theorem test_div_corner : after (.div 3 1 0x3FFF) (withWords (.div 3 1 0x3FFF) 0x80000000 0) (fun t =>
    t.wreg 3 == 0x7FFFFFFF#32 && t.flag .SCN_STAT_OVF) = true := by decide +kernel
theorem test_div_truncates : after (.div 3 1 2) (withWords (.div 3 1 2) 0xFFFFFFF9 2) (fun t => t.wreg 3 == 0xFFFFFFFD#32) = true := by
  decide +kernel
theorem test_sar : after (.sar 3 1 0x2024) (withWords (.sar 3 1 0x2024) 0x80000000 0) (fun t => t.wreg 3 == 0xF8000000#32) = true := by
  decide +kernel
theorem test_shr : after (.shr 3 1 0x2004) (withWords (.shr 3 1 0x2004) 0x80000000 0) (fun t => t.wreg 3 == 0x08000000#32) = true := by
  decide +kernel
theorem test_ldhi : after (.ldhi 1 15 1) (withWords (.ldhi 1 15 1) 0x00003FFF 0) (fun t => t.wreg 1 == 0xF0007FFF#32) = true := by
  decide +kernel
theorem test_ldi_sign : after (.ldi 1 0 0x2000) (withWords (.ldi 1 0 0x2000) 0 0) (fun t => t.wreg 1 == 0xFFFFE000#32) = true := by
  decide +kernel
theorem test_fadd_ties_to_even : after (.fadd 3 1 2) (withWords (.fadd 3 1 2) 0x3F800000 0x33800000) (fun t =>
    t.wreg 3 == 0x3F800000#32) = true := by decide +kernel
theorem test_fdiv_subnormal : after (.fdiv 3 1 2) (withWords (.fdiv 3 1 2) 0x00800000 0x40000000) (fun t =>
    t.wreg 3 == 0x00400000#32) = true := by decide +kernel
theorem test_fcvt_ties_to_even : after (.fcvt 3 1 1) (withWords (.fcvt 3 1 1) 0x40200000 0) (fun t => t.wreg 3 == 2#32) = true := by
  decide +kernel
theorem test_fcvt_saturates : after (.fcvt 3 1 1) (withWords (.fcvt 3 1 1) 0x4F000000 0) (fun t =>
    t.wreg 3 == 0x7FFFFFFF#32 && t.flag .SCN_STAT_OVF) = true := by decide +kernel
theorem test_fcmp_nan_ne : after (.fcmp 1 1 2) (withWords (.fcmp 1 1 2) 0x7FC00000 0) (fun t => t.scn.ba) = true := by decide +kernel
theorem test_flim_nan_second : after (.flim 1 2 3) (withWords (.flim 1 2 3) 0x3F800000 0x7FC00000) (fun t =>
    t.wreg 1 == 0#32) = true := by decide +kernel
theorem test_cmp_lt : after (.cmp 2 1 2) (withWords (.cmp 2 1 2) 0xFFFFFFFF 0) (fun t => t.scn.ba) = true := by decide +kernel
theorem test_jmp_forward : after (.jmp 0 0 1) (placed (.jmp 0 0 1)) (fun t => t.scn.pc == 2) = true := by decide +kernel
theorem test_jmp_beyond_code : after (.jmp 0 0 2) (placed (.jmp 0 0 2)) (fun t => t.err.log.any fun e => e.1.cause == 4) = true := by
  decide +kernel
theorem test_lpb_zero_is_one : after (.lpb 0 0 0) (placed (.lpb 0 0 0)) (fun t => t.scn.loops == [(1, 1)]) = true := by decide +kernel
theorem test_stw_output_region : after (.stw 1 2 0) (withWords (.stw 1 2 0) 0xCAFE 0x40000) (fun t =>
    t.word 0x40000 == 0xCAFE#32 && t.byte 0x100000 == 0xFE#8) = true := by decide +kernel
theorem test_stw_outside : after (.stw 1 2 0) (withWords (.stw 1 2 0) 0xCAFE 0x3FFFF) (fun t =>
    t.word 0x3FFFF == 0#32 && t.fld (.ERR_CODE_CODE 0x0D) == 0x65) = true := by decide +kernel
theorem test_ldw_unlatched : after (.ldw 1 0 5) (placed (.ldw 1 0 5)) (fun t => t.wreg 1 == 0#32 && t.flag .SCN_STAT_UNLATCHED) = true := by
  decide +kernel
theorem test_tmr_ton_starts : after (.tmr 0 1 0) ((withWords (.tmr 0 1 0) 0 0).setScn fun z => { z with ba := true }) (fun t =>
    t.scn.ba && t.scn.pc == 1) = true := by decide +kernel
theorem test_ctr_counts_edge : after (.ctr 0 1 3) ((withWords (.ctr 0 1 3) 1 0).setScn fun z => { z with ba := true }) (fun t =>
    t.scn.ba && (Sparse.at {} t.scn.mem.counters 3).cv == 1#32) = true := by decide +kernel
theorem test_ldl_prefix : after (.ldl 3 0 1) ((placed (.ldl 3 0 1)).setScn fun z =>
    { z with pfx := some 1, mem := { z.mem with locals := [(16385, 9)] } }) (fun t => t.wreg 3 == 9#32) = true := by decide +kernel
theorem test_eret_outside_the_task : after (.eret 0 0 0) (placed (.eret 0 0 0)) (fun t => t.err.log.any fun e => e.1.cause == 2) = true := by
  decide +kernel

/-! ### States that meet the statements' hypotheses

One theorem per statement of Certificates/Slice0/Obligations.lean that has hypotheses; a part for each clause. -/

theorem test_hyp_StepRunsTheFrontCommand : { State.reset with pending := [.idcode, .ospRead] }.pending = .idcode :: [.ospRead] ∧
    State.reset.pending = [] := by decide
theorem test_hyp_StepKeepsQueueWellFormed : { State.reset with pending := [.idcode, .ospRead] }.queueWf = true ∧
    ∃ t, step { State.reset with pending := [.idcode] } = .next t := by
  refine ⟨by decide, _, rfl⟩
theorem test_hyp_RegisterReadsBack : State.reset.regsWf = true ∧ (let f : Fd := ⟨0, 31, 31⟩; let g : Fd := ⟨0, 30, 0⟩
    f.lo ≤ f.hi ∧ f.hi < 32 ∧ g.lo ≤ g.hi ∧ g.hi < 32 ∧ g.hi < f.lo) ∧ (let f : Fd := ⟨0, 0, 0⟩; let g : Fd := ⟨0, 31, 1⟩
    f.lo ≤ f.hi ∧ f.hi < 32 ∧ g.lo ≤ g.hi ∧ g.hi < 32 ∧ f.hi < g.lo) := by decide
theorem test_hyp_BasinReadsBack : State.reset.memWf = true ∧ (State.reset.setWord 0xFFFFFF 7).memWf = true := by decide
theorem test_hyp_ScanDecodeOfEncode : Instr.wf (.ldhi 63 15 0x3FFF) = true ∧ scanEncode (.ldhi 63 15 0x3FFF) = some 0x43F3FFFF := by decide
theorem test_hyp_ScanEncodeOfDecode : scanDecode 0x43F3FFFF = some (.ldhi 63 15 0x3FFF) := by decide

/-- One instruction of each scan code row, operands at places where they matter. -/
def scanSamples : List Instr :=
  [.nop 0 0 0, .ldb 33 1 2, .andb 1 0 2, .orb 1 0 2, .xorb 1 0 2, .stb 31 1 2, .srb 32 1 2, .tstw 0 1 31, .putb 1 0 31, .notb 0 0 0,
   .edge 1 0 1023, .ldw 1 2 3, .stw 1 2 3, .ldl 1 2 3, .stl 1 2 3, .ldi 1 0 0x2000, .ldhi 1 15 3, .sel 1 2 63, .and 1 2 0x3FFF, .or 1 2 3,
   .xor 1 2 3, .shl 1 2 3, .shr 1 2 3, .sar 1 2 3, .add 1 2 63, .sub 1 2 0x2000, .mul 1 2 3, .div 1 2 3, .cmp 5 2 3, .fadd 1 2 3,
   .fsub 1 2 3, .fmul 1 2 3, .fdiv 1 2 3, .fcvt 1 2 1, .flim 1 2 3, .fcmp 6 2 3, .jmp 5 0 1, .lpb 0 0 3, .lpe 0 0 0, .call 0 0 1,
   .ret 0 0 0, .tmr 2 1 5, .ctr 3 1 5, .tcrd 1 1 5, .rdl 1 5 511, .rds 1 3 31, .rdq 1 2 255, .raise 2 1 5, .grpSelect 0 0 15,
   .grpOpen 5 62 15, .grpArm 0 0 15, .grpAbort 0 0 15, .stg 1 2 3, .rstg 1 0 3, .erd 1 3 0, .eret 0 0 0, .pfx 1023]

theorem test_hyp_scan_in_place : scanSamples.all (fun i => (placed i).atInstr i && i.wf) = true ∧ scanSamples.length = 57 := by
  decide +kernel
theorem test_hyp_ScanMalformedWords : ((program [0xD4000000]).atCode 0xD4000000 = true ∧ badWord 0xD4000000 = true) ∧
    ((program [0xC8000000]).atCode 0xC8000000 = true ∧ ((0xC8000000#32) >>> 26).toNat = 0x32 ∧ (program [0xC8000000]).scn.serving = none) ∧
    ((program [0]).atCode 0xC8000000 = false ∧ badWord 0 = false ∧ ((0#32) >>> 26).toNat ≠ 0x32) ∧
    ((placed (.add 0 0 64)).atInstr (.add 0 0 64) = true ∧ Instr.wf (.add 0 0 64) = false ∧ scanEncode (.add 0 0 64) = some 0x58000040) ∧
    (let s := (placed (.nop 0 0 0)).putB .WIR_ST_STAT_LOCKSTEP_FAIL true
     s.regsWf = true ∧ s.atCode 0 = true ∧ s.flag .WIR_ST_STAT_LOCKSTEP_FAIL = true) := by decide +kernel
theorem test_hyp_ScanWordResults : (placed (.ldi 1 0 5)).scn.pfx = none ∧ (15#6).toNat < 16 ∧ operandOk 63 = true ∧
    (let s := (placed (.ldi 1 0 5)).setScn fun x => { x with pfx := some 1 }; s.scn.pfx = some 1 ∧ s.atInstr (.ldi 1 0 5) = true) := by
  decide +kernel
theorem test_hyp_ScanIntegerArithmetic : operandOk 0x2000 = true ∧ operandOk 63 = true ∧
    ((placed (.div 1 2 0x2001)).opB 0x2001).toInt ≠ 0 ∧ ((placed (.div 1 2 3)).opB 3).toInt = 0 := by decide +kernel
theorem test_hyp_ScanComparisons : (0#6).toNat % 8 = 0 ∧ (1#6).toNat % 8 = 1 ∧ (2#6).toNat % 8 = 2 ∧ (3#6).toNat % 8 = 3 ∧
    (4#6).toNat % 8 = 4 ∧ (5#6).toNat % 8 = 5 ∧ 6 ≤ (6#6).toNat % 8 ∧ fisNan 0x7FC00000 = true := by decide +kernel
theorem test_hyp_ScanFloatResults : operandOk 63 = true ∧ (0#14).getLsbD 0 = false ∧ (1#14).getLsbD 0 = true ∧ fisNan 0x7FC00000 = true ∧
    fisNan 0xCF000000 = false ∧ fmt32.toInt 0 (0xCF000000#32).toNat = some (-2147483648) ∧
    fmt32.toInt 0 (0xCF000001#32).toNat = some (-2147483904) ∧ fmt32.toInt 0 (0x4F000000#32).toNat = some 2147483648 ∧
    (fmt32.toInt 0 (0x7F800000#32).toNat = none ∧ fisNan 0x7F800000 = false ∧ (0x7F800000#32).msb = false) ∧
    (fmt32.toInt 0 (0xFF800000#32).toNat = none ∧ (0xFF800000#32).msb = true) := by decide +kernel
theorem test_hyp_ScanTransfers : ((0#6).toNat % 8 = 0 ∧ (placed (.jmp 0 0 1)).scn.pc + 1 + 1 < (placed (.jmp 0 0 1)).scn.code.length) ∧
    ((placed (.jmp 0 0 2)).scn.code.length ≤ (placed (.jmp 0 0 2)).scn.pc + 1 + 2) ∧ (placed (.jmp 1 0 1)).scn.ba = false ∧
    (placed (.lpb 0 0 1)).scn.loops.length < 4 ∧ (placed (.lpe 0 0 1)).scn.loops = [] ∧ (placed (.ret 0 0 0)).scn.calls = [] ∧
    (let s := (placed (.lpb 0 0 1)).setScn fun x => { x with loops := [(1, 0), (1, 0), (1, 0), (1, 0)] }
     s.atInstr (.lpb 0 0 1) = true ∧ 4 ≤ s.scn.loops.length) ∧
    (let s := (placed (.lpe 0 0 1)).setScn fun x => { x with loops := [(2, 0)] }
     s.atInstr (.lpe 0 0 1) = true ∧ s.scn.loops = (2, 0) :: []) ∧
    (let s := (placed (.lpe 0 0 1)).setScn fun x => { x with loops := [(1, 0)] }
     s.atInstr (.lpe 0 0 1) = true ∧ s.scn.loops = (1, 0) :: []) ∧
    (let s := (placed (.call 0 0 1)).setScn fun x => { x with calls := List.replicate 8 0 }
     s.atInstr (.call 0 0 1) = true ∧ 8 ≤ s.scn.calls.length) ∧
    ((placed (.call 0 0 3)).scn.calls.length < 8 ∧ (placed (.call 0 0 3)).scn.code.length ≤ 3) ∧
    ((placed (.call 0 0 2)).scn.calls.length < 8 ∧ 2 < (placed (.call 0 0 2)).scn.code.length) ∧
    (let s := (placed (.ret 0 0 0)).setScn fun x => { x with calls := [1] }
     s.atInstr (.ret 0 0 0) = true ∧ s.scn.calls = 1 :: []) := by decide +kernel

/-- A program whose W2 holds a word address; input word 0x3FFFF is in the latch list. -/
def loading (i : Instr) (a : Word) : State := (withWords i 0 a).setScn fun x =>
  { x with latchList := [⟨0, 0x3FFFF, 0, 0⟩], agreed := [⟨5, 0, true⟩] }

theorem test_hyp_ScanImageLoads : ((loading (.ldw 1 2 0) 0x3FFFF).atInstr (.ldw 1 2 0) = true ∧
      (loading (.ldw 1 2 0) 0x3FFFF).effAdr 2 0 < 0x40000 ∧
      (loading (.ldw 1 2 0) 0x3FFFF).latched 0 ((loading (.ldw 1 2 0) 0x3FFFF).effAdr 2 0) = some ⟨5, 0, true⟩) ∧
    (loading (.ldb 1 2 0) 0x3FFFE).latched 0 ((loading (.ldb 1 2 0) 0x3FFFE).effAdr 2 0) = none ∧
    (0x40000 ≤ (loading (.ldb 1 2 0) 0x40000).effAdr 2 0 ∧ (loading (.ldb 1 2 0) 0x7FFFF).effAdr 2 0 < 0x80000) ∧
    0x80000 ≤ (loading (.ldw 1 2 0) 0x80000).effAdr 2 0 ∧ (loading (.andb 1 2 0) 0x80000).atInstr (.andb 1 2 0) = true ∧
    ((loading (.ldw 1 2 0) 0xFFFF7F).effAdr 2 0 = 0xFFFF7F ∧ (loading (.ldw 1 2 0) 0xFFFF7F).latched 0 0xFFFF7F = none ∧
      (loading (.ldw 1 2 0) 0xFFFF7E).effAdr 2 0 ≠ 0xFFFF7F) ∧
    (((loading (.ldw 1 2 0) 0xFFFF7F).setScn fun x => { x with latchList := [⟨0, 0xFFFF7F, 0, 0⟩], agreed := [{}] }).latched 0 0xFFFF7F =
      some {}) := by decide +kernel
theorem test_hyp_ScanImageStores : (0x40000 ≤ (withWords (.stw 1 2 0) 0 0x40000).effAdr 2 0 ∧
      (withWords (.stw 1 2 0) 0 0x7FFFF).effAdr 2 0 < 0x80000 ∧ (withWords (.stw 1 2 0) 0 0x40000).atInstr (.stw 1 2 0) = true) ∧
    (let s := (withWords (.srb 1 2 0) 0 0x40000).setScn fun x => { x with ba := true }
     s.atInstr (.srb 1 2 0) = true ∧ s.scn.ba = true) ∧ (withWords (.srb 1 2 0) 0 0x40000).scn.ba = false ∧
    ¬ (0x40000 ≤ (withWords (.stw 1 2 0) 0 0x3FFFF).effAdr 2 0 ∧ (withWords (.stw 1 2 0) 0 0x3FFFF).effAdr 2 0 < 0x80000) := by decide +kernel
theorem test_hyp_ScanTimersAndCounters : ((4#6).toNat % 4 = 0 ∧ (1#6).toNat % 4 = 1 ∧ (2#6).toNat % 4 = 2 ∧ (3#6).toNat % 4 = 3) ∧
    (placed (.tmr 0 1 5)).scn.ba = false ∧ (placed (.ctr 0 1 5)).atInstr (.ctr 0 1 5) = true ∧
    (let s := (placed (.tmr 2 1 5)).setScn fun x => { x with ba := true }
     s.atInstr (.tmr 2 1 5) = true ∧ s.scn.ba = true ∧ (Sparse.at {} s.scn.mem.timers 5).edge = false ∧
       (Sparse.at {} s.scn.mem.timers 5).q = false ∧ (Sparse.at {} s.scn.mem.timers 5).on = false) ∧
    (let s := (placed (.tmr 2 1 5)).setScn fun x => { x with mem := { x.mem with timers := [(5, { on := true, q := true })] } }
     s.scn.ba = false ∧ (Sparse.at {} s.scn.mem.timers 5).on = true) ∧
    (let s := (placed (.tmr 1 1 5)).setScn fun x => { x with mem := { x.mem with timers := [(5, { q := true })] } }
     s.atInstr (.tmr 1 1 5) = true ∧ s.scn.ba = false ∧ (Sparse.at {} s.scn.mem.timers 5).q = true) := by decide +kernel
theorem test_hyp_ScanAgreedItems : (5#6).toNat % 8 < 6 ∧ (4#6).toNat % 4 = 0 ∧ (5#6).toNat % 4 = 1 ∧ (6#6).toNat % 4 = 2 ∧
    (placed (.rdl 1 5 511)).latched 1 (511 * 8 + 5) = none ∧
    (let s := (placed (.rdq 1 2 255)).setScn fun x => { x with latchList := [⟨3, 255, 0, 0⟩], agreed := [⟨5, 6, false⟩] }
     s.atInstr (.rdq 1 2 255) = true ∧ s.latched 3 255 = some ⟨5, 6, false⟩) := by decide +kernel
theorem test_hyp_ScanGroups : (placed (.grpOpen 0 0 15)).mayOpen = true ∧ ((placed (.grpOpen 0 0 15)).group 15).state = 0 ∧
    (let s := (placed (.grpOpen 0 0 15)).setGroup 15 fun x => { x with state := 1 }
     s.atInstr (.grpOpen 0 0 15) = true ∧ (s.group 15).state ≠ 0) ∧ ((placed (.grpOpen 0 0 15)).setRole 1 4).mayOpen = false ∧
    (let s := placed (.grpOpen 3 63 15); s.atInstr (.grpOpen 3 63 15) = true ∧ (s.group 15).state = 0 ∧ s.mayOpen = true) ∧
    (let s := placed (.grpOpen 5 62 15); s.atInstr (.grpOpen 5 62 15) = true ∧ (62#6) ≠ 63 ∧ s.mayOpen = true) ∧
    (placed (.grpArm 0 0 15)).armRefusal 15 = some 0x11 ∧
    (let s := ((placed (.grpArm 0 0 15)).putB .SIB_CTRL_AUTO_REJOIN false).setGroup 15 fun x =>
        { x with state := 1, entries := [(⟨true, 0x100⟩, 1)] }
     s.atInstr (.grpArm 0 0 15) = true ∧ s.armRefusal 15 = none) := by decide +kernel
theorem test_hyp_ScanStagingAndEvents : (placed (.stg 1 0 5)).flag .SCN_GRP_VALID = false ∧ (2#6).toNat % 4 ≠ 3 ∧
    (placed (.eret 0 0 0)).scn.serving = none ∧ hasAcc .rws 0x44 = true ∧
    (placed (.rstg 1 0 0x11)).domainOff (pageDomain (0x44 / 0x1000)) = false ∧ hasAcc .rws 0x40 = false ∧
    (Target.deviceOnly ⟨true, 0xB160⟩ = false ∧ Target.deviceOnly ⟨false, 0xB160⟩ = true ∧ Target.deviceOnly ⟨false, 0xB15C⟩ = false) ∧
    (let s := (((placed (.stg 1 0 5)).putB .SCN_GRP_VALID true).put .SCN_GRP_GROUP 3).setGroup 3 fun x => { x with state := 1 }
     s.atInstr (.stg 1 0 5) = true ∧ s.flag .SCN_GRP_VALID = true ∧ s.stageWhyNot 3 ⟨true, 0x80000⟩ 0 = none ∧
       s.stageWhyNot 3 ⟨true, s.effAdr 0 5⟩ (s.wreg 1) = none ∧ s.stageWhyNot 3 modeTarget 7 = some (0x01, false)) ∧
    (let s := (placed (.stg 1 0 5)).putB .SCN_GRP_VALID true
     s.flag .SCN_GRP_VALID = true ∧ s.stageWhyNot (s.fld .SCN_GRP_GROUP) ⟨true, s.effAdr 0 5⟩ (s.wreg 1) = some (0x11, true)) ∧
    (let e : Event := { cls := 1, page := 5, idx := 0, cause := 1, detail := 0 }
     let s := { (placed (.eret 0 0 0)).setScn fun x => { x with serving := some e } with
       err := { State.reset.err with slots := [(1, some e)] } }
     s.atInstr (.eret 0 0 0) = true ∧ s.scn.serving = some e ∧ s.slot e.cls = some e ∧
       { s with err := State.reset.err }.slot e.cls ≠ some e) := by decide +kernel
theorem test_hyp_ScanFaults : (program [0x8C000000]).atCode 0x8C000000 = true ∧
    (let s := (program [0x8C000000]).setScn fun x => { x with loops := List.replicate 4 (1, 0), calls := List.replicate 8 0 }
     s.atCode 0x8C000000 = true ∧ ((0x8C000000#32) >>> 26).toNat = 0x23 ∧ 4 ≤ s.scn.loops.length ∧ 8 ≤ s.scn.calls.length) ∧
    ((0x90000000#32) >>> 26).toNat = 0x24 ∧ ((0x94000000#32) >>> 26).toNat = 0x25 ∧ ((0x98000000#32) >>> 26).toNat = 0x26 ∧
    (program [0x90000000]).scn.loops = [] ∧ (program [0x98000000]).scn.calls = [] ∧
    (let s := program [0x88000000, 0]
     s.atCode 0x88000000 = true ∧ ((0x88000000#32) >>> 26).toNat = 0x22 ∧ s.jumpCond 0 = true ∧ ¬ s.scn.code.length ≤ 0 + 1 + 0) ∧
    (let s := program [0x88000001, 0]; s.atCode 0x88000001 = true ∧ s.scn.code.length ≤ 0 + 1 + 1) ∧
    (let s := program [0x94000001]; s.atCode 0x94000001 = true ∧ s.scn.calls.length < 8 ∧ s.scn.code.length ≤ 1) ∧
    ((program []).awake = true ∧ (program []).inProgram = true ∧ (program []).scn.code.length ≤ (program []).scn.pc) ∧
    State.reset.awake = false ∧ atWork.inProgram = false := by decide +kernel
/-- A device whose start-up waits at step 11, image applied, the set not yet formed. -/
def atJoin : State := (({ atWork with mode := .startUp }.put .SYS_MODE_STARTUP 6).setRole 1 1).put .SYS_BOOT_STAT_RESULT 1

/-- The smallest boot image: no body, FLAGS TRIPLET; SEAL and HDR_CRC as R31 and R32 form them. -/
def smallImage : List Byte :=
  [0x57, 0x4B, 0x58, 0x49, 1, 0, 0, 0, 1, 0, 4, 0, 0, 0, 0, 0] ++ List.replicate 16 0 ++
  (leBytes 32 4499338126583036993831366576749953051091310169231526792790195184980773779548).reverse ++ List.replicate 0xBC 0 ++
  leBytes 4 4288623470

/-- A start-up that waits for its image, which the host has staged. -/
def staged : State := ({ atWork with mode := .startUp, boot := 1 }).setBytes 0x02000000 smallImage

/-- A sibling heard with a fingerprint. -/
def heardSib (s : State) (k : Nat) (fp : BitVec 128) : State :=
  let h : Health := ⟨1, 4, 6, 0, 0, ownClass, false, 0, fp, [], [], [], 0⟩
  (((s.setPeer k fun p => { p with health := some h }).putB (.SIB_PEER_CFG_AGREE k) (fp == s.fp)).putB
    (.SIB_PEER_VER_AGREE k) true).put (.SIB_PEER_REACH k) 1

theorem test_hyp_SupplyAndReset : { State.reset with mainOn := false }.mainOn = false ∧ State.reset.mode ≠ .sleep ∧ State.reset.mainOn = true ∧
    (let s := { State.reset with mode := .sleep }; s.mode = .sleep ∧ s.mainOn = true) := by decide
theorem test_hyp_SoftwareReset : (atWork.hostMay 0 = true ∧ atWork.mode = .run) ∧ (atBench.hostMay 0 = true ∧ atBench.mode = .commission) ∧
    (let s := { atWork with mode := .safe }; s.hostMay 0 = true ∧ s.mode = .safe) ∧
    (let s := { atWork with mode := .degraded }; s.hostMay 0 = true ∧ s.mode = .degraded) ∧
    (0xA5A4#32) ≠ 0xA5A5 := by decide +kernel
theorem test_hyp_StartUpAndFreeze : (State.reset.held = true ∧ State.reset.mainOn = true ∧ State.reset.mode = .startUp) ∧
    atWork.held = false ∧
    (staged.hostMay 0 = true ∧ staged.mode = .startUp ∧ staged.applied = false ∧ staged.boot = 1 ∧
      (staged.loadImage (fun o n => staged.bytes (0x02000000 + o) n) 3).2 = true) ∧ atWork.mode ≠ .startUp ∧
    (atJoin.hostMay 0 = true ∧ atJoin.mode = .startUp) ∧
    (atJoin.awake = true ∧ atJoin.joining = true ∧ atJoin.applied = true ∧ atJoin.setExists = false ∧ atJoin.sib.wgrp = none ∧
      (atJoin.group atJoin.wgrpNo).weir = false ∧ atJoin.agreeingSibs = [] ∧ atJoin.pairAgainst = false) ∧
    (atWork.awake = true ∧ atWork.applied = false) ∧
    (atWork.mode ≠ .sleep ∧ atWork.mode ≠ .frozen ∧ State.reset.mode ≠ .frozen ∧ State.reset.awake = false) ∧
    { atWork with mode := .frozen }.mode = .frozen ∧ atWork.wdtPending = false ∧
    (let s := { atWork with err := { atWork.err with slots := [(3, some { cls := 3, page := 5, idx := 0, cause := 1, detail := 0 })] } }
     s.awake = true ∧ s.wdtPending = true) := by decide +kernel
/-- R29: a sibling of the same configuration that joins; two siblings that agree with each other and not with this member. -/
theorem test_hyp_StartUpAndFreeze_siblings : ((heardSib atJoin 0 atJoin.fp).agreeingSibs = [0]) ∧
    (let s := heardSib (heardSib atJoin 0 (atJoin.fp + 1)) 1 (atJoin.fp + 1); s.agreeingSibs = [] ∧ s.pairAgainst = true) := by decide +kernel
theorem test_hyp_InspectionPort : atWork.inspectHold = false ∧ { State.reset with stopped := true, boot := 3 }.inspectHold = true ∧
    { atWork with mode := .frozen }.readable = true ∧ atWork.readable = false := by decide +kernel
theorem test_hyp_PowerDomains : (atBench.awake = true ∧ atBench.net.idle.contains 4 = false ∧ bitOf (atBench.fld .PWR_HOLD) 4 = false ∧
      atBench.domainBusy 4 = false ∧ atBench.holdsLock 4 = false) ∧
    (atWork.net.idle.contains 5 = false ∧ bitOf (atWork.fld .PWR_HOLD) 5 = false ∧ atWork.domainBusy 5 = false ∧ atWork.holdsLock 5 = false) ∧
    { atWork with net := { atWork.net with idle := [5, 13] } }.net.idle.contains 13 = true ∧
    (let s := atWork.putB .PWR_BANK_LS_EN true; s.awake = true ∧ s.flag .PWR_BANK_LS_EN = true ∧ s.bsn.waiting = [] ∧ s.lockOf 15 = none) ∧
    atWork.flag .PWR_BANK_LS_EN = false ∧ State.reset.mainOn = true ∧ { State.reset with mainOn := false }.mainOn = false ∧
    State.reset.held = true ∧ (atWork.held = false ∧ atWork.mode ≠ .sleep ∧ atWork.field.lpOn = true ∧ atWork.mainOn = true) ∧
    (let s := { State.reset with field := { State.reset.field with lpOn := false } }
     s.field.lpOn = false ∧ s.mode ≠ .sleep ∧ s.mainOn = true ∧ s.held = true ∧ { s with held := false }.held = false) ∧
    (let s := { State.reset with mode := .sleep, field := { State.reset.field with lpOn := false } }
     s.field.lpOn = false ∧ s.mode = .sleep) := by decide +kernel
theorem test_hyp_WatchdogsAndSelfTests : (atWork.awake = true ∧ atWork.live = true) ∧ (atBench.awake = true ∧ atBench.live = false) ∧
    atWork.flag .WIR_CLK_MON_WARN = false ∧
    (let s := atWork.putB .WIR_CLK_MON_WARN true
     s.flag .WIR_CLK_MON_WARN = true ∧ s.flag .WIR_CLK_MON_FAIL = false ∧ (s.putB .WIR_CLK_MON_FAIL true).flag .WIR_CLK_MON_FAIL = true) ∧
    ((24750 ≤ 24750 ∧ 25250 ≤ 25250) ∧ ((24749 : Nat) < 24750 ∧ (25250 : Nat) < 25251)) ∧
    bitOf ((atWork.put (.SLV_LANE_OUT 7) 0x80000000).fld (.SLV_LANE_OUT (255 / 32))) (255 % 32) = true ∧
    bitOf (atWork.fld (.SLV_LANE_OUT (255 / 32))) (255 % 32) = false ∧
    (let s := (atWork.putB .SLC_LANE_FAIL_VALID true).put .SLC_LANE_FAIL_LANE 255
     s.flag .SLC_LANE_FAIL_VALID = true ∧ s.fld .SLC_LANE_FAIL_LANE = 255) ∧ atWork.flag .SLC_LANE_FAIL_VALID = false ∧
    (clampInt (-32768) 32767 (-1000)).natAbs ≤ 1000 ∧ 1000 < (clampInt (-32768) 32767 1001).natAbs := by decide +kernel
theorem test_hyp_ErrorManager : (let e : Event := { cls := 1, page := 5, idx := 0, cause := 1, detail := 0 }
      let s := { atWork with err := { atWork.err with slots := [(1, some e)], log := [(e, 7)] } }
      s.awake = true ∧ s.runningClass = some 1 ∧ s.slot 1 = some e ∧ s.assigned e = false ∧ s.hostMay 7 = true ∧ s.regsWf = true ∧
        s.err.log = (e, 7) :: [] ∧ s.runningClass = some 1 ∧
        ((s.putB .SCN_STAT_ETASK true).put (.ERR_ASSIGN_PAGES 0) 32).assigned e = true) ∧
    (atWork.hostMay 7 = true ∧ atWork.mode ≠ .commission ∧ atWork.runningClass = none ∧ atWork.err.log = []) ∧
    (atBench.hostMay 7 = true ∧ atBench.mode = .commission ∧ bitsOf (0x3FFFFFFF#32).toNat 30 28 ≤ 3) ∧
    3 < bitsOf (0x40000000#32).toNat 30 28 ∧ { atWork with net := { atWork.net with idle := [5] } }.net.idle.contains 5 = true ∧
    atWork.net.idle.contains 5 = false := by decide +kernel
/-! #### The triplet -/

/-- A member whose link 0 is up. -/
def linked : State := inTriplet.put (.SIB_LINK_STAT_STATE 0) 2

/-- The frame of an origin and a destination with no payload: its CRC. -/
def emptyCrc (kind flags seq : Nat) : Word := crc32 (crcBytes kind flags 0 seq 0 [])

theorem test_hyp_LinkStates : (atWork.awake = true ∧ atWork.inTick 1000000 = true ∧ atWork.inTick 1249999 = true ∧
      atWork.inTick 1250000 = false ∧ (atWork.at 1249999).pos ≠ 0 ∧ (atWork.at 1249999).link 0 = 0) ∧ (single.at 1000000).pos = 0 ∧
    (let s := atWork.put (.SIB_LINK_STAT_STATE 1) 1
     (s.at 1000000).link 1 = 1 ∧ 1000000 ≤ (s.at 1000000).linkAge 1 ∧ ((timed s 999999).at 999999).linkAge 1 < 1000000) ∧
    ((linked.at 1000000).link 0 = 2 ∧ Sparse.at 0 (linked.at 1000000).sib.heard 0 + 100000 ≤ (linked.at 1000000).now ∧
      ¬ Sparse.at 0 (linked.setSib fun x => { x with heard := [(0, 900001)] }).sib.heard 0 + 100000 ≤ 1000000) ∧
    (let s := timed (atWork.put (.SIB_LINK_STAT_STATE 0) 4) 10000000
     (s.at 10000000).link 0 = 4 ∧ 10000000 ≤ (s.at 10000000).linkAge 0 ∧ ((timed s 9999999).at 9999999).linkAge 0 < 10000000) ∧
    (let b := List.replicate 14 (0#8) ++ leBytes 2 (crc16 (List.replicate 14 0)).toNat
     linked.link 0 ≠ 0 ∧ b.length = 16 ∧ (crc16 (b.take 14)).toNat = fieldAt b 14 2) ∧
    (let b := List.replicate 16 (0#8); ¬ (crc16 (b.take 14)).toNat = fieldAt b 14 2) := by decide +kernel
theorem test_hyp_BadFramesDiscarded : (linked.awake = true ∧ (linked.at 1000000).pos ≠ 0 ∧ (linked.at 1000000).link 0 = 2) ∧
    (linked.at 1000000).link 1 = 0 ∧ emptyCrc 2 0x90 0 + 1 ≠ crc32 (crcBytes 2 0x90 0 0 0 []) ∧
    (0 : Nat) = (0#8).toNat ∧ 6 < (7#8).toNat := by decide +kernel
theorem test_hyp_SiblingFrames : (let v := (linked.at 1000000).linkHeard 0
      linked.awake = true ∧ v.link 0 = 2 ∧ v.pos ≠ 0 ∧ sibOf v.pos ((0x90#8).toNat / 64) = some 0 ∧ bitsOf (0x90#8).toNat 5 4 = v.pos ∧
        (0x90#8).getLsbD 3 = ((0 : Nat) != 0) ∧ sibOf v.pos ((0xD8#8).toNat / 64) = some 1 ∧ bitsOf (0xD8#8).toNat 5 4 = v.pos ∧
        (0xD8#8).getLsbD 3 = ((1 : Nat) != 0)) ∧
    [1, 2, 3, 4, 5, 6].all (fun k => !badYarnan k 0x90 1 0 [] (emptyCrc k 0x90 1)) = true ∧ (1#32).toNat % 1024 ≠ 0 ∧
    (1024#32).toNat % 1024 = 0 ∧
    (let s := (linked.put (.SIB_LINK_STAT_STATE 0) 1).setSib fun x => { x with training := [(0, 2)] }
     let v := (s.at 1000000).linkHeard 0
     v.link 0 ≠ 0 ∧ v.link 0 ≠ 4 ∧ v.link 0 ≠ 2 ∧ (v.trainLink 0 ((0x90#8).toNat / 64) 0).link 0 = 2) ∧
    (let v := (linked.at 1000000).linkHeard 0
     sibOf v.pos ((0x10#8).toNat / 64) = none ∧ bitsOf (0xA0#8).toNat 5 4 ≠ v.pos ∧
       (sibOf v.pos ((0x98#8).toNat / 64) = some 0 ∧ (0x98#8).getLsbD 3 = ((0 : Nat) == 0))) ∧
    (let s := linked.put (.SIB_LINK_STAT_STATE 1) 2
     let v := (s.at 1000000).linkHeard 0
     v.pos ≠ 0 ∧ v.link 0 = 2 ∧ badYarnan 2 0xB0 1 0 [] (emptyCrc 2 0xB0 1) = false ∧ (0xB0#8).toNat / 64 = sibPos v.pos 0 ∧
       bitsOf (0xB0#8).toNat 5 4 = sibPos v.pos 1 ∧ (0xB0#8).getLsbD 3 = false ∧ v.link 1 = 2) := by decide +kernel
theorem test_hyp_SiblingSupervision : (inTriplet.awake = true ∧ inTriplet.pos ≠ 0 ∧ (inTriplet.at 1000000).sib.timeRef = none) ∧
    single.pos = 0 ∧
    (let s := inTriplet.setSib fun x => { x with timeRef := some 7, peers := [(0, { offset := some (0, 0), offRef := 7 }),
        (1, { offset := some (0, 0), offRef := 7 })] }
     (s.at 1000000).sib.timeRef = some 7 ∧ ((s.at 1000000).heldOffsets 7).length = (s.at 1000000).votingSibs.length) ∧
    (let t := (inTriplet.setSib fun x => { x with timeRef := some 7 }).put .SIB_CYC_TMO 1000 |>.at 1000000
     t.sib.timeRef = some 7 ∧ (t.heldOffsets 7).length ≠ t.votingSibs.length ∧ t.sib.timeSent + t.fld .SIB_CYC_TMO * 1000 ≤ t.now) ∧
    (let t := (inTriplet.setSib fun x => { x with timeRef := some 7 }).put .SIB_CYC_TMO 1001 |>.at 1000000
     (t.heldOffsets 7).length ≠ t.votingSibs.length ∧ t.now < t.sib.timeSent + t.fld .SIB_CYC_TMO * 1000) ∧
    (let t := (timed inTriplet 5000000).at 5000000
     t.pos ≠ 0 ∧ (t.peer 0).lost = false ∧ (t.peer 0).heardAt + t.fld .SIB_LOST_T_LOST * 1000 ≤ t.now) ∧
    ((timed inTriplet 1000000).at 1000000).now < ((timed inTriplet 1000000).at 1000000).fld .SIB_LOST_T_LOST * 1000 ∧
    ((0x00001#20).getLsbD 0 = true ∧ (0x00000#20).getLsbD 19 = false ∧ ((0x00000#20).extractLsb' 1 2).toNat ≠ sibPos inTriplet.pos 0 ∧
      (0#20).extractLsb' 11 8 ≠ ~~~ (0#20).extractLsb' 3 8) ∧
    (let f : BitVec 20 := 0b1_11111111_00000000_10_0
     f.getLsbD 0 = false ∧ (f.extractLsb' 1 2).toNat = sibPos inTriplet.pos 0 ∧ f.extractLsb' 11 8 = ~~~ f.extractLsb' 3 8 ∧
       f.getLsbD 19 = true) ∧
    (let s := inTriplet.setSib fun x => { x with isoMiss := [(0, 2), (1, 1)] }
     2 ≤ Sparse.at 0 s.sib.isoMiss 0 ∧ Sparse.at 0 s.sib.isoMiss 1 < 2) ∧
    (let s := (inTriplet.setPeer 0 fun x => { x with legCnt := [(6, 254), (7, 255)] }).put .WIR_LEG_DEV_FILT 255
     s.role (sibPos s.pos 0) = 3 ∧ max 1 (s.fld .WIR_LEG_DEV_FILT) ≤ Sparse.at 0 (s.peer 0).legCnt 7 ∧
       ¬ max 1 (s.fld .WIR_LEG_DEV_FILT) ≤ Sparse.at 0 (s.peer 0).legCnt 6) := by decide +kernel
theorem test_hyp_Rejoin : (let s := (atWork.setRole 1 1).put .SIB_REJOIN_STAT_PHASE 3
      s.awake = true ∧ s.pos ≠ 0 ∧ s.fld .SIB_REJOIN_STAT_PHASE = 3 ∧ s.role s.pos ≠ 3 ∧ s.mayRejoin = true) ∧
    (let s := { (atWork.setRole 1 4).put .SIB_REJOIN_STAT_PHASE 3 with mode := .commission }
     s.fld .SIB_REJOIN_STAT_PHASE = 3 ∧ s.role s.pos ≠ 3 ∧ s.mayRejoin = false) ∧
    (let s := (inTriplet.put .SIB_REJOIN_STAT_PHASE 3).put .SIB_REJOIN_ADMIT_POS 2
     s.role s.pos = 3 ∧ sibOf s.pos (s.fld .SIB_REJOIN_ADMIT_POS) = some 0 ∧ sibOf s.pos ((s.put .SIB_REJOIN_ADMIT_POS 1).fld .SIB_REJOIN_ADMIT_POS) =
       none) ∧ atWork.fld .SIB_REJOIN_STAT_PHASE ≠ 3 ∧
    (let s := timed (atWork.put .SIB_REJOIN_STAT_PHASE 3) 200000000
     (s.at 200000000).fld .SIB_REJOIN_STAT_PHASE = 3 ∧ (s.at 200000000).sib.bulkAt + 200000000 ≤ (s.at 200000000).now ∧
       ((timed s 199999999).at 199999999).now < 0 + 200000000) ∧
    (let s := atWork.setRole 1 1
     s.mayRejoin = true ∧ s.fld .SIB_REJOIN_STAT_PHASE ≠ 3 ∧ s.fld .SIB_REJOIN_STAT_PHASE ≠ 4) ∧
    (let s := (((inTriplet.setRole 2 2).put .SIB_REJOIN_STAT_PHASE 4).put .SIB_REJOIN_ADMIT_POS 2).put .SIB_REJOIN_STAT_SHADOW_DONE 256
     s.role s.pos = 3 ∧ s.fld .SIB_REJOIN_STAT_PHASE = 4 ∧ s.role (s.fld .SIB_REJOIN_ADMIT_POS) = 2 ∧ s.sib.wgrp = none ∧
       (s.group s.wgrpNo).weir = false ∧ s.fld .SIB_REJOIN_SHADOW_CYC ≤ s.fld .SIB_REJOIN_STAT_SHADOW_DONE ∧
       ¬ s.fld .SIB_REJOIN_SHADOW_CYC ≤ (s.put .SIB_REJOIN_STAT_SHADOW_DONE 255).fld .SIB_REJOIN_STAT_SHADOW_DONE) ∧
    (let t := ((inTriplet.setRole 2 1).putB .SIB_CTRL_AUTO_REJOIN true).at 1000000
     t.pos ≠ 0 ∧ t.role t.pos = 3 ∧ t.flag .SIB_CTRL_AUTO_REJOIN = true ∧ t.admissible 2 = true ∧
       t.fld .SIB_REJOIN_STAT_PHASE = 0 ∧ Sparse.at none t.sib.admitAt 2 = none ∧ t.sib.wgrp = none ∧
       (t.group t.wgrpNo).weir = false) := by decide +kernel
/-! #### Groups, the Basin, ticks, the scan cycle, the solver -/

/-- Group 15 with changed contents. -/
def grouped (f : Group → Group) : State := atWork.setGroup 15 f

theorem test_hyp_CommitGroups : (atWork.hostMay 8 = true ∧ (atWork.group 15).state = 0 ∧ atWork.mayOpen = true ∧
      Sparse.wf (fun _ => ({} : Group)) atWork.txn = true ∧ atWork.armRefusal 15 = some 0x11) ∧
    (((grouped fun x => { x with state := 1 }).group 15).state = 1 ∧ (atWork.setRole 1 4).mayOpen = false) ∧
    (let s := grouped fun x => { x with state := 1, entries := [(⟨true, 0x80000⟩, 1)] }
     s.hostMay 8 = true ∧ s.armRefusal 15 = none) ∧
    (let s := grouped fun x => { x with state := 2 }
     (s.group 15).state = 2 ∧ s.noHashes = false ∧ { s with pos := 0 }.noHashes = true ∧ (s.setGroup 15 fun x => { x with state := 4 }).txn ≠ []) ∧
    (atWork.flag (.TXN_SEL_EN 8) = false ∧ (atWork.putB (.TXN_SEL_EN 8) true).flag (.TXN_SEL_EN 8) = true) ∧
    ((0x100000#32).getLsbD 20 = true ∧ (0#32).getLsbD 20 = false ∧ bitsOf (0x1F0000#32).toNat 19 16 = 15) ∧
    ((0x44#18).toNat % 4 = 0 ∧ hasAcc .rws (0x44#18).toNat = true ∧ atWork.domainOff (pageDomain ((0x44#18).toNat / 0x1000)) = false ∧
      atWork.locked 0 = false ∧ { atWork with locks := [0] }.locked 0 = true ∧ (atWork.putB (.TXN_SEL_EN 0) true).flag (.TXN_SEL_EN 0) = true ∧
      atWork.flag (.TXN_SEL_EN 0) = false ∧ hasAcc .rws (0x40#18).toNat = false) ∧
    (let s := (grouped fun x => { x with state := 2, bound := 1249999 }).put (.TXN_GRP_CFG_KIND 15) 4
     let t := (if s.groupDue 15 (s.time.edge - 1) then s.at (s.group 15).bound else s).stoppedSlots
     s.awake = true ∧ t.groupDue 15 t.now = true ∧ t.now = 1249999) ∧
    (let t := (if atWork.groupDue 15 (atWork.time.edge - 1) then atWork.at (atWork.group 15).bound else atWork).stoppedSlots
     t.groupDue 15 t.now = false) := by decide +kernel
/-- R82, R85: groups that apply, with and without a locked bank; outcomes. -/
theorem test_hyp_CommitGroups_apply : (let s := grouped fun x => { x with state := 4 }
      let t := s.takeBanks (s.group 15).entries
      (s.group 15).state = 4 ∧ t.applyWaits (s.group 15).entries = false ∧ (t.finishApply 15).applying = false) ∧
    (let s := (grouped fun x => { x with state := 4 }).setGroup 14 fun x => { x with state := 4 }
     let t := s.takeBanks (s.group 15).entries
     t.applyWaits (s.group 15).entries = false ∧ (t.finishApply 15).applying = true ∧ (s.group 13).state ≠ 4 ∧ s.applying = true) ∧
    (let s := (grouped fun x => { x with state := 4, entries := [(⟨true, 0x80000⟩, 1)] }).setLock 0 (some ⟨9, 0⟩)
     let t := s.takeBanks (s.group 15).entries
     t.applyWaits (s.group 15).entries = true ∧ t.applying = true) ∧
    ((atWork.group 15).outcome = none ∧ (atWork.group 15).reps = 0) ∧
    (let s := grouped fun x => { x with outcome := some 0, reps := 1 }
     (s.group 15).outcome = some 0 ∧ (s.group 15).compared = false ∧ (s.heldOutcomes 15 false).length = s.votingSibs.length ∧
       (s.group 15).reps ≠ 0) ∧
    (let s := inTriplet.setGroup 15 fun x => { x with outcome := some 0 }
     (s.heldOutcomes 15 false).length ≠ s.votingSibs.length) := by decide +kernel
theorem test_hyp_ArbiterGrants : (let s := atWork.setBsn fun x => { x with waiting := [(15, 11), (15, 9)] }
    s.granted 15 = some 11 ∧ 9 ∈ s.competing 15) ∧ (atWork.granted 15 = none ∧ atWork.competing 15 = []) ∧
    (let s := ((atWork.setReg 0x9040 0).setReg 0x9044 0).setBsn fun x => { x with waiting := [(15, 5), (15, 9)], pointers := [(120, 6)] }
     s.granted 15 = some 9 ∧ 5 ∈ s.competing 15 ∧ s.rankOf 5 = s.rankOf 9) := by decide +kernel
theorem test_hyp_BankRequestsAndLocks : (atWork.awake = true ∧ atWork.masked 9 = false ∧ atWork.lockOf 15 = none ∧
      atWork.scrubFirst 15 = false ∧ atWork.granted 15 = none) ∧
    atWork.masked 2 = true ∧
    (let s := atWork.setBsn fun x => { x with waiting := [(15, 9)] }
     s.granted 15 = some 9 ∧ s.lockOf 15 = none ∧ s.bsn.lockAsks.contains (15, 9) = false) ∧
    (let s := atWork.setBsn fun x => { x with waiting := [(15, 9)], lockAsks := [(15, 9)] }
     s.granted 15 = some 9 ∧ s.bsn.lockAsks.contains (15, 9) = true) ∧
    (let s := (atWork.setBsn fun x => { x with waiting := [(15, 9)] }).setLock 15 (some ⟨9, 63⟩)
     s.granted 15 = some 9 ∧ s.lockOf 15 = some ⟨9, 63⟩ ∧ (Lock.mk 9 63).beats < 64 ∧
       (s.setLock 15 (some ⟨9, 64⟩)).granted 15 = some 9 ∧ 64 ≤ (Lock.mk 9 64).beats) ∧
    (let s := atWork.setLock 15 (some ⟨9, 64⟩)
     s.lockOf 15 = some ⟨9, 64⟩ ∧ (14 < 15 ∧ (15 : Nat) < 16 ∧ (Lock.mk 9 64).owner = 9) ∧ (Lock.mk 9 64).owner ≠ 8) ∧
    (let t := (atWork.wakeBank 15 9).setBsn fun x =>
       { x with waiting := addOnce x.waiting (15, 9), lockAsks := addOnce x.lockAsks (15, 9) }
     (∀ c : Fin 16, 15 < c.val → ∀ l, atWork.lockOf c.val = some l → l.owner ≠ 9) ∧ t.scrubFirst 15 = false ∧ t.granted 15 = some 9) ∧
    (let t := (atWork.wakeBank 15 9).setBsn fun x =>
       { x with waiting := addOnce [(15, 11)] (15, 9), lockAsks := addOnce x.lockAsks (15, 9) }
     t.granted 15 ≠ some 9) ∧
    atWork.hostMay 9 = true ∧ Sparse.at 0 atWork.bsn.scrub 15 < bankBeats ∧ atWork.scrubMay 15 = true ∧
    (let s := atWork.setBsn fun x => { x with scrub := [(15, bankBeats)] }; bankBeats ≤ Sparse.at 0 s.bsn.scrub 15) := by decide +kernel
theorem test_hyp_Monitors : (atWork.awake = true ∧ atWork.domainOff (pageDomain 49) = false ∧ atWork.hostMay 0x30 = true ∧
      atWork.snapAt ≤ atWork.now ∧ atWork.monArmed = false) ∧
    { atWork with field := { atWork.field with lpOn := false } }.domainOff (pageDomain 0x13) = true ∧
    (let s := { atWork.put64 0x30048 0x3004C 1000001 with monArmed := true }
     s.now < s.snapAt ∧ s.monArmed = true ∧ s.snapAt ≤ (s.at s.snapAt).now) ∧
    (let s := { atWork.put64 0x30048 0x3004C 1250000 with monArmed := true }
     s.monArmed = true ∧ (s.at s.snapAt).now < s.snapAt) := by decide +kernel
theorem test_hyp_Ticks : (atWork.awake = true ∧ atWork.time.running = true ∧ atWork.inTick 1000000 = true ∧ atWork.inTick 1250000 = false) ∧
    { atWork with time := { atWork.time with running := false } }.awake = true ∧
    (let e := atWork.endEdge
     let t := (e.setTime fun x => { x with ns := x.edge }).dueGroups
     t.applying = false ∧ t.cycleDue = false) ∧
    (let e := (timed atWork 999750000).endEdge
     let t := (e.setTime fun x => { x with ns := x.edge }).dueGroups
     t.applying = false ∧ t.cycleDue = true) ∧
    (let s := ((timed atWork 999750000).setGroup 15 fun x => { x with state := 4, entries := [(⟨true, 0x80000⟩, 1)] }).setLock 0 (some ⟨9, 0⟩)
     let t := (s.setTime fun x => { x with ns := x.edge }).dueGroups
     t.applying = true ∧ t.cycleDue = true) ∧
    (let s := timed atWork 40000000
     let c := s.cycleStart
     let t := (s.at (c + s.snapOffset)).dueGroups
     t.time.running = true ∧ t.now = c + t.snapOffset ∧ t.stn.snapAt ≠ c + t.snapOffset ∧
       (t.snapshot.lightIntegral).fld (.SLV_CTX_CFG_TRIG 0) = 1) ∧
    ((atWork.at (atWork.cycleStart + atWork.snapOffset)).now ≠ atWork.cycleStart + atWork.snapOffset) ∧
    (let s := (timed atWork 40000000).put (.SLV_CTX_CFG_TRIG 0) 2
     ((s.at (s.cycleStart + s.snapOffset)).dueGroups.snapshot.lightIntegral).fld (.SLV_CTX_CFG_TRIG 0) ≠ 1) := by decide +kernel
/-- A member whose scan engine runs, in a phase. -/
def scanning (ph : Nat) (s : State) : State := (s.putB .SCN_STAT_RUN true).put .SCN_STAT_PHASE ph

/-- Both siblings' images held for a cycle. -/
def imaged (n : Nat) (s : State) : State :=
  (s.setPeer 0 fun x => { x with cycle := n, complete := true }).setPeer 1 fun x => { x with cycle := n, complete := true }

theorem test_hyp_ScanCycle : (atWork.awake = true ∧ (atWork.at 1000000).flag .SCN_STAT_RUN = false) ∧
    (let t := (scanning 0 { inTriplet with mode := .startUp } |>.put .SYS_MODE_STARTUP 7).at 1000000
     t.flag .SCN_STAT_RUN = true ∧ t.shadowWaits = true ∧
       (t.votingSibs.find? fun k => (t.peer k).complete && (t.peer k).cycle != zeroRef) = none ∧
       ((imaged 5 t).votingSibs.find? fun k => ((imaged 5 t).peer k).complete && ((imaged 5 t).peer k).cycle != zeroRef) = some 0) ∧
    (let t := ((scanning 0 atWork).setScn fun x => { x with zero := true }).at 1000000
     t.flag .SCN_STAT_RUN = true ∧ t.shadowWaits = false ∧ t.scn.zero = true ∧ t.fld .SCN_STAT_PHASE = 0 ∧
       t.zeroLatch.siblingsReady zeroRef = true ∧ t.scn.zeroTaken = false) ∧
    (let t := ((scanning 0 inTriplet).setScn fun x => { x with zero := true }).at 1000000
     t.scn.zero = true ∧ t.zeroLatch.siblingsReady zeroRef = false ∧ t.zeroLatch.scn.zeroTaken = true) ∧
    (let t := (scanning 6 atWork).at 1000000
     t.scn.zero = false ∧ t.fld .SCN_STAT_PHASE = 6 ∧ t.scn.waitAlign = false) ∧ ((scanning 5 atWork).at 1000000).fld .SCN_STAT_PHASE ≠ 6 ∧
    (let t := ((scanning 6 inTriplet).setScn fun x => { x with waitAlign := true, overrun := 4 }).at 1000000
     t.fld .SCN_STAT_PHASE = 6 ∧ t.scn.waitAlign = true ∧ (imaged 5 t).laterCycle 4 = some 5 ∧ (imaged 4 t).laterCycle 4 = none ∧
       t.alone = false) ∧
    (let t := ((scanning 6 single).setScn fun x => { x with waitAlign := true }).at 1000000
     t.laterCycle t.scn.overrun = none ∧ t.alone = true) ∧ ((program []).at 1000000).fld .SCN_STAT_PHASE = 3 := by decide +kernel
/-- R54, R210: the vote, the image time-out and the overrun at the edges of their waits. -/
theorem test_hyp_ScanCycle_waits : (let t := (scanning 5 atWork).at 1000000
      t.fld .SCN_STAT_PHASE = 5 ∧ t.siblingsReady t.scn.cycle = true ∧ t.hashesReady = true) ∧
    (let t := (scanning 5 inTriplet).at 1000000; t.siblingsReady t.scn.cycle = false ∧ t.flag .SCN_STAT_RUN = true) ∧
    ((inTriplet.put .SCN_STAT_PHASE 5).at 1000000).flag .SCN_STAT_RUN = false ∧
    (let t := ((scanning 5 atWork).put .SIB_CYC_TMO 1000).at 1000000
     t.scn.imageAt + t.fld .SIB_CYC_TMO * 1000 ≤ t.now ∧ ¬ t.scn.imageAt + (t.put .SIB_CYC_TMO 1001).fld .SIB_CYC_TMO * 1000 ≤ t.now) ∧
    (let t := (((scanning 0 inTriplet).put .SIB_CYC_TMO 1000).setScn fun x => { x with zero := true }).at 1000000
     t.scn.imageAt + t.fld .SIB_CYC_TMO * 1000 ≤ t.now ∧ t.scn.zero = true ∧ t.fld .SCN_STAT_PHASE = 0 ∧ t.shadowWaits = false) ∧
    (let t := (((scanning 6 inTriplet).put .SIB_CYC_TMO 1000).setScn fun x => { x with waitAlign := true }).at 1000000
     t.scn.imageAt + t.fld .SIB_CYC_TMO * 1000 ≤ t.now ∧ t.scn.waitAlign = true ∧ t.fld .SCN_STAT_PHASE = 6) ∧
    (let t := ((scanning 4 atWork).put .SIB_CYC_TMO 1000).at 1000000
     t.fld .SCN_STAT_PHASE ≠ 5 ∧ t.fld .SCN_STAT_PHASE ≠ 0 ∧ t.fld .SCN_STAT_PHASE ≠ 6) ∧
    (let t := ((scanning 5 atWork).put .SCN_CYC_MAX 999).at 1000000
     1 ≤ t.fld .SCN_STAT_PHASE ∧ t.fld .SCN_STAT_PHASE ≤ 5 ∧ t.scn.startAt + t.fld .SCN_CYC_MAX * 1000 < t.now ∧
       ¬ t.scn.startAt + (t.put .SCN_CYC_MAX 1000).fld .SCN_CYC_MAX * 1000 < t.now) := by decide +kernel
theorem test_hyp_WordVotes : ((1#32) = 1 ∧ (1#32) ≠ 2 ∧ (2#32) ≠ 3 ∧ (1#32) ≠ 3) ∧ atWork.safetyPoint 0x40000 = none := by decide +kernel
/-- Context 0 in a state, running where that is 3. -/
def context (st : Nat) : State :=
  let s := atWork.put (.SLV_CTX_STAT_STATE 0) st
  { s with slv := { s.slv with running := if st = 3 then some 0 else none } }

/-- Context 0 at a step of a kind and SUB: its schedule lies at byte 0x1000 of an image at 0. -/
def atKind (kind sub : Nat) : State := ((context 3).setBytes 0x58 [0x00, 0x10]).setBytes 0x1000 [BitVec.ofNat 8 kind, BitVec.ofNat 8 sub]

/-- Two contexts ready, 0 and 1, the fabric free. -/
def twoReady : State := { (context 2).put (.SLV_CTX_STAT_STATE 1) 2 with slv := { State.reset.slv with ready := [0, 1] } }

theorem test_hyp_SolverOrder : (let s := timed ((atWork.put (.SLV_CTX_CFG_TRIG 3) 2).put (.SLV_CTX_PERIOD 3) 1) 1000000000
      s.awake = true ∧ s.fld (.SLV_CTX_CFG_TRIG 3) = 2 ∧ s.now % (max 1 (s.fld (.SLV_CTX_PERIOD 3)) * 1000000000) = 0) ∧
    atWork.fld (.SLV_CTX_CFG_TRIG 3) ≠ 2 ∧ (atWork.flag (.SLV_CTX_CFG_EN 0) = false ∧ atWork.ctxState 0 = 0) ∧
    (let s := (context 1).putB (.SLV_CTX_CFG_EN 0) true
     s.flag (.SLV_CTX_CFG_EN 0) = true ∧ s.loopsMayRun = true ∧ s.mayOpen = true ∧ s.ctxState 0 = 1 ∧ s.slv.running = none ∧
       2 ≤ (s.put (.SLV_CTX_STAT_STATE 0) 5).ctxState 0) ∧
    (let s := { (((context 1).putB (.SLV_CTX_CFG_EN 0) true).setCtx 1 fun x => { x with barrier := some ⟨0, 0⟩ }).put
         (.SLV_CTX_STAT_STATE 1) 3 with slv := { (State.reset.setCtx 1 fun x => { x with barrier := some ⟨0, 0⟩ }).slv with running := some 1 } }
     s.ctxState 0 = 1 ∧ s.slv.running = some 1 ∧ (s.ctx 1).barrier = some ⟨0, 0⟩) ∧
    (twoReady.slv.running = none ∧ twoReady.nextCtx = some 0 ∧ twoReady.ctxState 0 = 2 ∧ 1 ∈ twoReady.slv.ready ∧ twoReady.ctxState 1 = 2) ∧
    ((context 4).slv.running = none ∧ (context 4).nextCtx = some 0 ∧ (context 4).ctxState 0 = 4) ∧
    (let s := { (context 3).put (.SLV_CTX_STAT_STATE 1) 2 |>.put (.SLV_CTX_CFG_FPRI 0) 3 with
         slv := { (context 3).slv with ready := [1] } }
     s.slv.running = some 0 ∧ s.firstOf s.readyCtx = some 1 ∧ s.ctxState 0 = 3 ∧ s.fpri 1 < s.fpri 0) ∧
    ((context 3).slv.running = some 0 ∧ (context 3).firstOf (context 3).readyCtx ≠ some 1 ∧ atWork.slv.running = none) := by decide +kernel
theorem test_hyp_SolverSteps : [1, 2, 3, 4, 5, 6, 8].all (fun k => (atKind k 0).atStep 0 k) = true ∧
    [1, 2, 3, 4, 5].all (fun k => (atKind 7 k).atTest 0 k) = true ∧ atWork.awake = true ∧ atWork.atStep 0 1 = false ∧
    atWork.atTest 0 1 = false ∧
    (let s := (atKind 8 0).setCtx 0 fun x => { x with abortDue := true }
     s.atStep 0 8 = true ∧ ((s.runClock 0).ctx 0).abortDue = true ∧ (((atKind 8 0).runClock 0).ctx 0).abortDue = false) ∧
    (let t := (context 3).setCtx 0 fun x => { x with abortDue := true }; t.ctxState 0 = 3 ∧ (t.ctx 0).abortDue = true) := by decide +kernel
theorem test_hyp_SolverTests : ((single.ctx 0).residOk = true ∧ (single.ctx 0).best = none) ∧
    (let s := (single.setCtx 0 fun x => { x with residOk := false }).put (.SLC_ITER_CAP 0) 1
     (s.ctx 0).residOk = false ∧ (s.ctx 0).iter + 1 = s.fld (.SLC_ITER_CAP 0)) ∧
    (let s := ((single.setCtx 0 fun x => { x with residOk := false, clock := 500 }).put (.SLC_ITER_CAP 0) 2).put (.SLC_DEADLINE_US 0) 500
     (s.ctx 0).iter + 1 ≠ s.fld (.SLC_ITER_CAP 0) ∧ s.fld (.SLC_DEADLINE_US 0) ≤ (s.ctx 0).clock) ∧
    (let s := ((single.setCtx 0 fun x => { x with residOk := false, clock := 499 }).put (.SLC_ITER_CAP 0) 2).put (.SLC_DEADLINE_US 0) 500
     (s.ctx 0).iter + 1 ≠ s.fld (.SLC_ITER_CAP 0) ∧ (s.ctx 0).clock < s.fld (.SLC_DEADLINE_US 0)) ∧
    single.alone = true ∧ (inTriplet.voting = true ∧ inTriplet.alone = false ∧ inTriplet.barrierSibs 0 ≠ []) ∧
    (let s := ((single.setCtx 0 fun x => { x with best := some [1, 2], infeas := [(0, 2)] }).put .SLC_INFEAS_N 3).put (.SLC_TOL 0) 0
     (s.ctx 0).best ≠ none ∧ max 1 (s.fld .SLC_INFEAS_N) ≤ Sparse.at 0 (s.ctx 0).infeas (s.ctx 0).step + 1 ∧
       1 < max 1 (s.fld .SLC_INFEAS_N) ∧
       fle (w32 (s.fld (.SLC_TOL (8 * 0 + (s.stepNow 0).param % 8)))) (s.rhoStep 0) = true) ∧
    (let s := (single.put .SLC_INFEAS_N 3).put (.SLC_TOL 0) 0x3F800000
     fle (w32 (s.fld (.SLC_TOL (8 * 0 + (s.stepNow 0).param % 8)))) (s.rhoStep 0) = false ∧
       flt 0 0x3F800000 = true ∧ flt 0x3F800000 0x3F800000 = false) := by decide +kernel
theorem test_hyp_SolverTests_merit : (((single.setCtx 0 fun x => { x with best := some [1], bestMerit := 0x3F800000 }).meritTest 0).ctx
    0).best ≠ some [1] ∧ single.opnd 0 (single.stepNow 0).opa = none := by decide +kernel
theorem test_hyp_BarriersAndEnds : (let s := (context 3).setCtx 0 fun x => { x with barrier := some ⟨0, 0⟩ }
      s.awake = true ∧ (s.ctx 0).barrier = some ⟨0, 0⟩ ∧ s.marksAgree 0 = true ∧ (s.runClock 0).marksAgree 0 = true) ∧
    (atWork.ctx 0).barrier = none ∧ ((atWork.runClock 0).ctx 0).barrier = none ∧
    (let s := { inTriplet with slv := (context 3).slv }.setCtx 0 fun x => { x with barrier := some ⟨0, 5⟩ }
     ((s.runClock 0).ctx 0).barrier = some ⟨0, 5⟩ ∧ (s.runClock 0).marksAgree 0 = false ∧ (s.runClock 0).votingSibs.length ≠ 1 ∧
       ∀ k ∈ (s.runClock 0).barrierSibs 0,
         Sparse.at none ((s.runClock 0).group ((s.runClock 0).fld (.SLC_GRP_SYNC 0))).sibHash k = none) ∧
    (let s := { inTriplet.setRole 3 0 with slv := (context 3).slv }.setCtx 0 fun x => { x with barrier := some ⟨0, 0⟩ }
     ((s.runClock 0).ctx 0).barrier = some ⟨0, 0⟩ ∧ (s.runClock 0).marksAgree 0 = false ∧ (s.runClock 0).votingSibs.length = 1) ∧
    (let s := (atWork.setGen 7 { on := true, k := 1 }).setWord ((atWork.fld .LOP_TEST_BASE + 256 * 7 + 4) / 4) 1
     0 < s.genWord 7 4 ∧ s.genWord 7 4 ≤ (s.gen 7).k ∧ (s.gen 7).on = true) ∧
    (let s := atWork.setGen 7 { on := true, k := 1 }; s.genWord 7 4 = 0 ∧ s.flag (.LOP_TEST_RUN 7) = false) ∧ (atWork.gen 7).on = false ∧
    (let s := atWork.setCapture 3 { state := 3, post := 65536 }
     (s.capture 3).state = 3 ∧ s.capTotal 3 - s.capPre 3 ≤ (s.capture 3).post) ∧ (atWork.capture 3).state ≠ 3 ∧
    (let s := { atWork with lop := { atWork.lop with slots := [(510, { satN := 15 }), (511, { satN := 16 })] } }
     max 15 (bitsOf (s.slotCfg 511 0x2C).toNat 31 16) + 1 ≤ (s.slotOf 511).satN ∧
       (s.slotOf 510).satN < max 15 (bitsOf (s.slotCfg 510 0x2C).toNat 31 16) + 1) := by decide +kernel
/-! #### Stations, feeders, quantities, the field, time, links, ports, records, registers -/

/-- A station datagram of a payload length field, with a CRC. -/
def datagram (kind flags len : Nat) (payload : List Byte) (crc : Word) : List Byte :=
  List.replicate 0x14 0 ++ [BitVec.ofNat 8 kind, BitVec.ofNat 8 flags] ++ leBytes 2 len ++ List.replicate 4 0 ++ leBytes 4 crc.toNat ++ payload

theorem test_hyp_StationFrames : (atWork.awake = true ∧ atWork.flag .STN_CTRL_EN = false) ∧
    (let s := atWork.putB .STN_CTRL_EN true; s.flag .STN_CTRL_EN = true ∧ 2 ≤ (5#3).toNat ∧ (5#3).toNat ≤ 5) ∧
    (List.replicate 31 (0#8)).length < 32 ∧
    (let d := datagram 2 0 20 (List.replicate 20 0) 0
     32 ≤ d.length ∧ fieldAt d 0x16 2 = 20 ∧ byteAt d 0x14 = 2 ∧ bitOf (byteAt d 0x15) 3 = false ∧ d.length = 32 + fieldAt d 0x16 2 ∧
       wordAt d 0x1C ≠ crc32 (d.take 0x1C ++ (d.take (32 + fieldAt d 0x16 2)).drop 32)) ∧
    (let d := datagram 1 8 0 (List.replicate 8 0) 0
     byteAt d 0x14 ≠ 2 ∧ bitOf (byteAt d 0x15) 3 = true ∧ d.length = 32 + fieldAt d 0x16 2 + 8 ∧
       wordAt d 0x1C ≠ crc32 (d.take 0x1C ++ (d.take (32 + fieldAt d 0x16 2)).drop 32)) ∧
    (let b := atWork.cycleStart + atWork.fld .STN_TIMING_BUILD_US * 1000
     let s := (timed atWork b).putB .STN_CTRL_EN true
     let t := (s.at b).dueGroups
     s.cycleStart + s.fld .STN_TIMING_BUILD_US * 1000 = b ∧ t.flag .STN_CTRL_EN = true ∧ b ≤ t.now ∧ t.buildWaits (tickOf b) = false ∧
       ((t.put .SCN_STAT_PHASE 5).setScn fun x => { x with startAt := b }).fld .SCN_STAT_PHASE = 5) := by decide +kernel
theorem test_hyp_FeederEvents : ((timed atWork 100000000).at 100000000).absentAt 3 ≤ ((timed atWork 100000000).at 100000000).now ∧
    (let s := { timed atWork 100000000 with nrg := { atWork.nrg with crossed := [(3, some 99000000)] } }
     (s.at 100000000).now < (s.at 100000000).absentAt 3) ∧ atWork.crossingNow 3 = none ∧
    (let s := { atWork with nrg := { atWork.nrg with armed := [3], wave := [(3, [(62500, 0x3F800000), (0, 0xBF800000)])] } }
     s.crossingNow 3 = some 31250 ∧ Sparse.at none s.nrg.crossed 3 = none) ∧
    (31250 < 0 + 12500000 ∧ (12500000 : Nat) ≤ 12500000) ∧
    (let s := timed { atWork with nrg := { atWork.nrg with fixed := true } } 20000000
     let w := s.at (s.nrg.winStart + 20000000)
     w.nrg.fixed = true ∧ s.nrg.winStart + 20000000 ≤ w.now ∧ (timed s 19000000 |>.at (s.nrg.winStart + 20000000)).now < 20000000) ∧
    atWork.nrg.fixed = false ∧ (atWork.underHolds 7 = false ∧ atWork.overHolds 7 = false) ∧
    (let s := { (((((atWork.put .NRG_STAT_VABS 0).putB .PMS_CTRL_EN true).putB (.PMS_STAGE_CTRL_EN 7) true).put (.PMS_STAGE_UF_HZ 7)
        0x42480000).put (.PMS_STAGE_WIN_UF_N 7) 1) with
        pms := { atWork.pms with periods := [(0, 0, 0x42440000)], overOn := [7] } }
     s.stageOn 7 = true ∧ s.underHolds 7 = true ∧ s.overHolds 7 = true ∧ s.shedLevel < 8) ∧
    (let s := timed (((atWork.putB .PMS_CTRL_EN true).put .NRG_STAT_VABS 1).put .PMS_RESTORE_BLACKOUT_T 1) 1000000
     let t := s.at 1000000
     t.flag .PMS_CTRL_EN = true ∧ t.fsrcAbsent = true ∧ t.flag .PMS_LEVEL_BLACKOUT = false ∧
       t.pms.absentFrom + t.fld .PMS_RESTORE_BLACKOUT_T * 1000000 ≤ t.now ∧ (t.putB .PMS_LEVEL_BLACKOUT true).shedLevel < 8 ∧
       8 ≤ ((t.putB .PMS_LEVEL_BLACKOUT true).put .PMS_LEVEL_OWN 8).shedLevel ∧
       ¬ (t.setPms fun x => { x with absentFrom := 1 }).pms.absentFrom + t.fld .PMS_RESTORE_BLACKOUT_T * 1000000 ≤ t.now) := by decide +kernel
theorem test_hyp_QuantityEvents : (atTime 3600000000000).now % (max 60 ((atTime 0).fld .NRG_INT_S) * 1000000000) = 0 ∧
    atWork.now % (max 60 (atWork.fld .NRG_INT_S) * 1000000000) ≠ 0 ∧
    (let s := atWork.putB .NRG_CTRL_SAVE_EN true
     s.flag .NRG_CTRL_SAVE_EN = true ∧ s.rsv.frozen = false ∧ s.rsv.savedAt = none) ∧
    (let s := timed { atWork.putB .NRG_CTRL_SAVE_EN true with rsv := { atWork.rsv with savedAt := some 0 } } (atWork.savePeriod * 1000000000)
     s.rsv.savedAt = some 0 ∧ 0 + s.savePeriod * 1000000000 ≤ s.now ∧ ¬ 1 + s.savePeriod * 1000000000 ≤ s.now) ∧
    (atWork.putB .NRG_CTRL_SAVE_EN false).flag .NRG_CTRL_SAVE_EN = false ∧ (atWork.mode ≠ .sleep ∧ atWork.mainOn = true ∧
      atWork.rsv.frozen = false ∧ (atWork.finalCommit true 100).awake = true ∧ (State.reset.finalCommit true 100).awake = false) ∧
    { atWork with rsv := { atWork.rsv with frozen := true } }.rsv.frozen = true ∧
    (atWork.regsWf = true ∧ atWork.flag (.PLS_SPC_CFG_EN 7) = false) ∧
    (let s := atWork.putB (.PLS_SPC_CFG_EN 7) true
     let t := s.put .PLS_SPC_STAT_CLOSED (s.fld .PLS_SPC_STAT_CLOSED ||| 2 ^ 7)
     s.regsWf = true ∧ t.flag (.PLS_SPC_CFG_EN 7) = true ∧ t.flag (.PLS_SPC_CFG_DIR_EN 7) = false ∧
       bitOf (s.fld .PLS_SPC_STAT_CLOSED) 7 ≠ true ∧ true ≠ t.flag (.PLS_SPC_CFG_EDGE 7)) ∧
    (let t := ((atWork.putB (.PLS_SPC_CFG_DIR_EN 7) true).put (.PLS_SPC_CFG_DIR_SRC 7) 6).put .PLS_SPC_STAT_CLOSED 64
     t.flag (.PLS_SPC_CFG_DIR_EN 7) = true ∧ bitOf (t.fld .PLS_SPC_STAT_CLOSED) (t.fld (.PLS_SPC_CFG_DIR_SRC 7)) = true) ∧
    (let s := { atWork with nrg := { atWork.nrg with outHigh := [3], outEnd := [(3, 1000000)] } }
     s.nrg.outHigh.contains 3 = true ∧ Sparse.at 0 s.nrg.outEnd 3 ≤ s.now ∧ ¬ Sparse.at 0 [(3, 1000001)] 3 ≤ s.now) ∧
    atWork.nrg.outHigh.contains 3 = false := by decide +kernel
theorem test_hyp_ConverterAndInputs : (let t := (atWork.put (.ADC_SEQ_TRIG 3) 1).at 1000000
      t.trigInstant 3 t.now = true ∧ t.field.lpOn = true) ∧ (atWork.at 1000001).trigInstant 3 1000001 = false ∧
    { atWork with field := { atWork.field with lpOn := false } }.field.lpOn = false ∧
    (atWork.at (1000999 / 1000 * 1000 + 1000)).field.lpOn = true ∧
    (let s := { atWork with adc := { atWork.adc with seqs := [(3, some 0)] } }
     ((s.at (1000999 / 1000 * 1000)).nextConversion).isSome = true ∧ (s.at (1000999 / 1000 * 1000)).field.lpOn = true) ∧
    (atWork.at 1000000).nextConversion = none ∧ atWork.fld .ADC_RING_LEN_LOG2 = 0 ∧
    (let s := { atWork.put .ADC_RING_LEN_LOG2 6 with adc := { atWork.adc with queue := [1] } }
     s.fld .ADC_RING_LEN_LOG2 ≠ 0 ∧ s.masked 11 = false ∧ s.adc.queue ≠ []) ∧
    (let s := { atWork with adc := { atWork.adc with ain := [(14, { settleEnd := 1250000 }), (15, { settleEnd := 1249999 })] } }
     let u := s.at (s.ain 15).settleEnd
     (u.ain 15).settleEnd ≤ u.now ∧ (s.at (s.ain 14).settleEnd).now < (s.ain 14).settleEnd) ∧
    (let s := (atWork.putB (.AIN_CFG_LS 15) true).put (.AIN_CFG_MODE 15) 1
     s.flag (.AIN_CFG_LS 15) = true ∧ s.fld (.AIN_CFG_MODE 15) = 1 ∧ s.field.lpOn = true ∧ s.flag (.AIN_STAT_LS_THERM 15) = false ∧
       (s.putB (.AIN_STAT_LS_THERM 15) true).flag (.AIN_STAT_LS_THERM 15) = true) ∧ atWork.flag (.AIN_CFG_LS 15) = false ∧
    (atWork.domainOff (pageDomain 0x13) = false ∧ atWork.regsWf = true) ∧
    { atWork with field := { atWork.field with lpOn := false } }.domainOff (pageDomain 0x13) = true := by decide +kernel
theorem test_hyp_CurrentOutputs : (atWork.field.lpOn = true ∧ atWork.flag (.AOU_STAT_COMP 7) = false ∧
      (atWork.putB (.AOU_STAT_COMP 7) true).flag (.AOU_STAT_COMP 7) = true) ∧
    { atWork with field := { atWork.field with lpOn := false } }.field.lpOn = false ∧
    (let t := atWork.sample 0x15 3 7 115; t.field.lpOn = true ∧ t.flag (.AOU_STAT_THERM 7) = false) ∧
    (let t := (atWork.putB (.AOU_STAT_THERM 7) true).sample 0x15 3 7 99; t.field.lpOn = true ∧ t.flag (.AOU_STAT_THERM 7) = true) ∧
    (100 ≤ 100 ∧ (100 : Nat) < 115) ∧
    (atBench.hostMay 0x15 = true ∧ atBench.mode = .commission) ∧ (atWork.hostMay 0x15 = true ∧ atWork.mode ≠ .commission) := by decide +kernel
theorem test_hyp_DigitalChannels : { atWork with field := { atWork.field with lpOn := false } }.field.lpOn = false ∧
    (let s := atWork.setDch 31 fun d => { d with on := true }; (s.dch 31).on = true ∧ s.field.lpOn = true) ∧ (atWork.dch 31).on = false ∧
    (let s := ((atWork.setDch 31 fun d => { d with retryAt := 1249999 }).putB (.DIO_STAT_OVL 31) true).put (.DIO_CFG_RETRY 31) 1
     let t := s.at (s.dch 31).retryAt
     t.flag (.DIO_STAT_OVL 31) = true ∧ 0 < t.fld (.DIO_CFG_RETRY 31) ∧ (t.dch 31).retryAt ≤ t.now ∧ t.field.lpOn = true) ∧
    atWork.flag (.DIO_STAT_OVL 31) = false ∧
    (let t := atWork.sample 0x16 3 31 115; t.field.lpOn = true ∧ t.flag (.DIO_STAT_THERM 31) = false) ∧
    (let t := (atWork.putB (.DIO_STAT_THERM 31) true).sample 0x16 3 31 99; t.field.lpOn = true ∧ t.flag (.DIO_STAT_THERM 31) = true) ∧
    (atBench.hostMay 0x16 = true ∧ atBench.mode = .commission) ∧ (atWork.hostMay 0x16 = true ∧ atWork.mode ≠ .commission) := by decide +kernel
theorem test_hyp_TripElements : (atWork.putB .TRP_TEST_EN false).flag .TRP_TEST_EN = false ∧ atWork.field.test = none ∧
    (atWork.at atWork.field.ptEnd).field.ptCmd = none ∧
    (let s := { atWork with field := { atWork.field with test := some 15, ptCmd := some (15, false), ptEnd := 1000000 } }
     s.field.test = some 15 ∧ (s.at s.field.ptEnd).field.ptCmd = some (15, false)) ∧
    (1 ≤ 1 ∧ 300 ≤ 300 ∧ (1 : Nat) < 2 ∧ (299 : Nat) < 300) ∧
    (let s := (atWork.putB (.TRP_STAT_CLOSED_A 7) true).putB (.TRP_STAT_CLOSED_B 7) true
     let t := (s.elemCurrent 7 0 1).elemCurrent 7 1 10
     t.flag (.TRP_STAT_CLOSED_A 7) = true ∧ t.flag (.TRP_STAT_CLOSED_B 7) = true ∧ t.flag (.TRP_STAT_PATH_OPEN 7) = false ∧
       (t.putB (.TRP_STAT_PATH_OPEN 7) true).flag (.TRP_STAT_PATH_OPEN 7) = true ∧ (t.putB (.TRP_STAT_CLOSED_A 7) false).flag
       (.TRP_STAT_CLOSED_A 7) = false) ∧
    (atBench.hostMay 0x17 = true ∧ atBench.mode = .commission ∧ atBench.field.ptCmd = none ∧ (0xF#32).getLsbD 4 = false) ∧
    (let s := { atBench with pos := 0 }; s.mode = .commission ∧ s.pos = 0 ∧ (0x1F#32).getLsbD 4 = true ∧ atBench.pos ≠ 0) ∧
    (atWork.hostMay 0x17 = true ∧ atWork.mode ≠ .commission) := by decide +kernel
theorem test_hyp_TripElements_slot : (let s := { atWork.putB .TRP_TEST_EN true with
      time := { atWork.time with ns := 999750000000, edge := 10000000000000 } }
    let per := s.fld .TRP_TEST_PER * 1000000000
    let ns := (999750000000 / per + 1) * per
    let t := s.at ns
    t.flag .TRP_TEST_EN = true ∧ t.slotInstant 0 0 t.now = true ∧ t.field.lpOn = true) := by decide +kernel
theorem test_hyp_SpringEvents : (atWork.time.springPend = [] ∧ atWork.time.medianPend = none ∧ atWork.flag .SPR_SET_HI_GO = false ∧
      atWork.flag .SPR_CMP_HI_ARM = false) ∧ (atWork.awake = true ∧ atWork.regsWf = true ∧ atWork.hostMay 3 = true) ∧
    (1#32).getLsbD 0 = true ∧ (0#32).getLsbD 0 = false ∧ (atWork.putB .SPR_STAT_XTAL_STOP true).flag .SPR_STAT_XTAL_STOP = true ∧
    atWork.flag .SPR_STAT_XTAL_STOP = false ∧ (State.reset.awake = false ∧ State.reset.flag .SPR_STAT_CELL_LOW = false) ∧
    (State.reset.putB .SPR_STAT_CELL_LOW true).flag .SPR_STAT_CELL_LOW = true ∧
    (let s := atWork.setTime fun x => { x with vbat := 2199 }
     (s.sample 0x03 1 0 2199).flag .SPR_STAT_CELL_LOW = false ∧
       ((s.putB .SPR_STAT_CELL_LOW true).sample 0x03 1 0 2199).flag .SPR_STAT_CELL_LOW = true) := by decide +kernel
theorem test_hyp_PtpEvents : (let s := atWork.putB .PTP_STAT_HOLD true; s.hostMay 0x18 = true ∧ s.flag .PTP_STAT_HOLD = true) ∧
    (atWork.hostMay 0x18 = true ∧ atWork.flag .PTP_STAT_HOLD = false ∧ atWork.regsWf = true ∧ atWork.lowHeld = []) ∧
    (let t := ((timed atWork 10000000000).putB .PTP_CTRL_EN true).at 10000000000
     t.flag .PTP_CTRL_EN = true ∧ t.flag .PTP_STAT_HOLD = false ∧ t.time.syncAt + t.holdTime ≤ t.now) ∧
    (atWork.at 1000000).now < (atWork.at 1000000).time.syncAt + (atWork.at 1000000).holdTime ∧
    (let t := (atWork.setTime fun x => { x with ppsHigh := true, ppsEnd := 1000000 }).at 1000000
     t.time.ppsHigh = true ∧ t.time.ppsEnd ≤ t.now) ∧
    (let t := ((timed atWork 1000000000).putB .PTP_CTRL_PPS_OUT_EN true).at 1000000000
     t.time.ppsHigh = false ∧ t.flag .PTP_CTRL_PPS_OUT_EN = true ∧ t.now % 1000000000 = 0) ∧
    (atWork.time.ppsHigh = false ∧ atWork.flag .PTP_CTRL_PPS_OUT_EN = false) := by decide +kernel
/-- A MAC with a neighbour whose data last until an instant. -/
def neighboured (e : Nat) : State := atWork.setMac 7 fun x => { x with lldp := some ([], e) }

theorem test_hyp_EthernetEvents : (atWork.awake = true ∧ (atWork.putB (.ETH_CTRL_EN 7) true |>.at 1000000).flag (.ETH_CTRL_EN 7) = true ∧
      (atWork.putB (.ETH_CTRL_EN 7) false |>.at 1000000).flag (.ETH_CTRL_EN 7) = false) ∧
    ((List.replicate 59 (0#8)).length < 60 ∧ 1532 < (List.replicate 1533 (0#8)).length) ∧
    (((neighboured 1000000).at 1000000).mac 7).lldp = some ([], 1000000) ∧ (((neighboured 1000001).at 1000000).mac 7).lldp = some ([], 1000001) ∧
    (atWork.mac 7).lldp = none ∧ (atWork.putB (.ETH_CTRL_LLDP_TX 7) true).flag (.ETH_CTRL_LLDP_TX 7) = true ∧
    (atWork.putB (.ETH_CTRL_LLDP_TX 7) false).flag (.ETH_CTRL_LLDP_TX 7) = false ∧
    (let s := atWork.put .PRP_CTRL_EN 0; (s.prpOn 3 && bitOf (s.fld .PRP_CTRL_SUP) 3) = false) ∧
    (let s := (atWork.put .PRP_CTRL_EN 15).put .PRP_CTRL_SUP 15; s.prpOn 3 = true ∧ bitOf (s.fld .PRP_CTRL_SUP) 3 = true) ∧
    (atWork.putB (.ETH_STAT_LINK 7) true).flag (.ETH_STAT_LINK 7) = true ∧ atWork.flag (.ETH_STAT_LINK 7) = false ∧
    (let v : Word := Fd.into (.ETH_TX_CMD_LEN 7) 0 60
     atWork.hostMay (0x1A + 7) = true ∧ (Fd.ETH_TX_CMD_LEN 7).of v = 60 ∧ atWork.slotBusy 7 ((Fd.ETH_TX_CMD_SLOT 7).of v) = false ∧
       (atWork.setSlotBusy 7 ((Fd.ETH_TX_CMD_SLOT 7).of v) true).slotBusy 7 ((Fd.ETH_TX_CMD_SLOT 7).of v) = true) ∧
    (Fd.ETH_TX_CMD_LEN 7).of (Fd.into (.ETH_TX_CMD_LEN 7) 0 59) < 60 ∧ (Fd.ETH_TX_CMD_LEN 7).of (Fd.into (.ETH_TX_CMD_LEN 7) 0 1514) ≤ 1514 ∧
    1514 < (Fd.ETH_TX_CMD_LEN 7).of (Fd.into (.ETH_TX_CMD_LEN 7) 0 1515) ∧ (atWork.mac 7).sending = none ∧
    (let f : TxFrame := { launch := 0, bytes := [] }
     (((atWork.setMac 7 fun x => { x with sending := some f }).mac 7).sending = some f ∧ f.slot = none ∧ { f with slot := some 3 }.slot = some 3)) := by
  decide +kernel
theorem test_hyp_FieldBusEvents : (let at_ := ((atWork.putB (.CAN_CTRL_EN 3) true).put (.CAN_STAT_STATE 3) 1).at 1000000
      at_.flag (.CAN_CTRL_EN 3) = true ∧ at_.fld (.CAN_STAT_STATE 3) < 2 ∧
        (((at_.bump (.CAN_CNT_RX 3)).canErrors 3 0 0).canBus 3).rx.length < 512 ∧ 127 < (128#9).toNat ∧ ¬ 127 < (127#9).toNat) ∧
    (atWork.at 1000000).flag (.CAN_CTRL_EN 3) = false ∧
    (let s := (((atWork.putB (.CAN_CTRL_EN 3) true).putB (.CAN_CTRL_AUTO_RECOV 3) true).put (.CAN_STAT_STATE 3) 2)
     s.flag (.CAN_CTRL_EN 3) = true ∧ s.flag (.CAN_CTRL_AUTO_RECOV 3) = true ∧ s.fld (.CAN_STAT_STATE 3) = 2) ∧
    (atWork.canBus 3).sending = none ∧
    (let f : CanFrame := { xtd := false, id := 1, fd := false, brs := false, dlc := 0, data := [] }
     let s := (atWork.setCan 3 fun c => { c with sending := some { map := false, f := f } }).put (.CAN_CTRL_RETRY 3) 1
     (s.canBus 3).sending = some { map := false, f := f } ∧ 0 < s.fld (.CAN_CTRL_RETRY 3) ∧ s.fld (.CAN_CTRL_RETRY 3) ≤ 1) ∧
    (atWork.hostMay (0x23 + 3) = true ∧ (1#32).getLsbD 0 = true ∧ (0#32).getLsbD 0 = false ∧ (atWork.canBus 3).rx = [] ∧
      Sparse.wf (fun _ => ({} : Can)) atWork.net.can = true ∧ (0x80000000#32).getLsbD 31 = true ∧
      (((atWork.canBus 3).pend ++ (atWork.canBus 3).sending.toList).filter fun x => !x.map).length < 16) ∧
    (let f : CanFrame := { xtd := false, id := 1, fd := false, brs := false, dlc := 0, data := [] }
     let s := atWork.setCan 3 fun c => { c with pend := List.replicate 16 { map := false, f := f }, rx := [f, f] }
     16 ≤ (((s.canBus 3).pend ++ (s.canBus 3).sending.toList).filter fun x => !x.map).length ∧
       ((s.setCan 3 fun c => { c with rx := c.rx.tail }).canBus 3).rx ≠ []) ∧
    (let s := atWork.putB (.SER_STAT_BUSY 3) true; s.hostMay (0x27 + 3) = true ∧ s.flag (.SER_STAT_BUSY 3) = true) ∧
    (let s := atWork.putB (.SER_CTRL_EN 3) true
     let v : Word := Fd.into (.SER_TX_CMD_LEN 3) 0 4096
     s.hostMay (0x27 + 3) = true ∧ s.flag (.SER_STAT_BUSY 3) = false ∧ s.flag (.SER_CTRL_EN 3) = true ∧ (Fd.SER_TX_CMD_LEN 3).of v = 4096 ∧
       4096 < (Fd.SER_TX_CMD_LEN 3).of (Fd.into (.SER_TX_CMD_LEN 3) 0 4097) ∧ v.getLsbD 31 = false) ∧
    (let s := atWork.setSer 3 fun y => { y with started := true }; (s.serLine 3).started = true ∧ (atWork.serLine 3).started = false) ∧
    (let at_ := (atWork.putB (.SER_CTRL_EN 3) true).at 1000000
     let start := at_.now - at_.serFrame 3 * at_.serBit 3 / 2
     at_.flag (.SER_CTRL_EN 3) = true ∧ (at_.serLine 3).started = false ∧ (at_.serLine 3).lastRx = none ∧
       2 * 0 + at_.serGap 3 ≤ 2 * start ∧ 2 * start < 2 * 1000000 + at_.serGap 3) := by decide +kernel
theorem test_hyp_FieldBusEvents_full : (let f : CanFrame := { xtd := false, id := 1, fd := false, brs := false, dlc := 0, data := [] }
    let s := (atWork.putB (.CAN_CTRL_EN 3) true).setCan 3 fun c => { c with rx := List.replicate 512 f }
    512 ≤ ((((((s.at 1000000)).bump (.CAN_CNT_RX 3)).canErrors 3 0 0).mapCheck 3 f).canBus 3).rx.length) := by decide +kernel
theorem test_hyp_HostPorts : (atWork.awake = true ∧ atWork.hostMay 0x2B = true ∧ atWork.hostMay 0x2C = true ∧ atWork.hostMay 0x2D = true) ∧
    ([0, 0, 0, 0, 0] : List Byte).length < 6 ∧
    (let b : List Byte := [0x80, 0, 0, 0, 0, 0]
     6 ≤ b.length ∧ crc8 (b.take 5) ≠ byteAt b 5) ∧
    (let b : List Byte := [0x80, 0, 0, 0, 0, crc8 [0x80, 0, 0, 0, 0]]
     crc8 (b.take 5) = byteAt b 5 ∧ ((spiHead b).rd = true ∨ (spiHead b).rd = false)) ∧
    (let b : List Byte := [0, 0, 0, 0, 0, 0]; crc8 (b.take 5) = byteAt b 5) ∧
    (spiHead [0x80, 0, 0, 0, 0, 0]).rd ≠ (spiHead [0, 0, 0, 0, 0, 0]).rd ∧
    atWork.net.xspiOp = none ∧ { atWork with net := { atWork.net with xspiOp := some ⟨1, 0, 0, 1⟩ } }.net.xspiOp = some ⟨1, 0, 0, 1⟩ ∧
    (let s := (atWork.putB .BMI_CTRL_EN true).putB (.BMI_POLL_EN 15) true; s.flag .BMI_CTRL_EN = true ∧ s.flag (.BMI_POLL_EN 15) = true) ∧
    atWork.flag .BMI_CTRL_EN = false ∧ ((0x80000000#32).getLsbD 31 = true ∧ (0#32).getLsbD 31 = false) ∧
    (atWork.putB .BMI_XSTAT_BUSY true).flag .BMI_XSTAT_BUSY = true ∧ atWork.flag .BMI_XSTAT_BUSY = false ∧ atWork.net.bmi.running = none ∧
    (atWork.setBmi fun x => { x with running := some 15 }).net.bmi.running = some 15 ∧
    (atWork.setBmi fun x => { x with running := some 16 }).net.bmi.running = some 16 ∧
    (let s := (atWork.setBmi fun x => { x with running := some 32 }).putB .BMI_XFER_RD true
     s.net.bmi.running = some 32 ∧ s.flag .BMI_XFER_RD = true ∧ (s.putB .BMI_XFER_RD false).flag .BMI_XFER_RD = false) := by decide +kernel
theorem test_hyp_SedimentAndWear : (atTime 60000000000).now % (max 1 ((atTime 0).fld .SED_INT_S) * 1000000000) = 0 ∧
    atWork.now % (max 1 (atWork.fld .SED_INT_S) * 1000000000) ≠ 0 ∧ (atTime 60000000000).now % 60000000000 = 0 ∧
    atWork.now % 60000000000 ≠ 0 ∧ (atWork.putB .SED_RD_STAT_BUSY true).flag .SED_RD_STAT_BUSY = true ∧
    atWork.flag .SED_RD_STAT_BUSY = false ∧ atWork.hostMay 0x2E = true ∧ (atWork.putB .PTP_STAT_HOLD true).flag .PTP_STAT_HOLD = true ∧
    (atWork.flag .PTP_STAT_HOLD = false ∧ atWork.wear.xtalFirst = none ∧ (atWork.putB .PTP_STAT_VALID true).flag .PTP_STAT_VALID = true ∧
      atWork.flag .PTP_STAT_VALID = false ∧ (atWork.setWear fun x => { x with xtalFirst := some 5 }).wear.xtalFirst = some 5) ∧
    (atWork.putB .WER_CTRL_EN false).flag .WER_CTRL_EN = false ∧ State.reset.awake = false ∧
    (let s := { atBench.putB .WER_CTRL_EN true with time := (atTime (atBench.planSecond * 1000000000)).time }
     s.flag .WER_CTRL_EN = true ∧ s.awake = true ∧ s.mode = .commission ∧ s.now / 1000000000 % 86400 = s.planSecond) ∧
    (let s := (atWork.putB .WER_CTRL_EN true).setWear fun x => { x with planLate := true, planAt := some 1000000 }
     s.live = true ∧ s.wear.planLate = true ∧ s.wear.planAt = some 1000000 ∧ 1000000 ≤ s.now ∧
       ¬ (s.now / 1000000000 % 86400 = s.planSecond ∨ (1000001 : Nat) ≤ s.now)) ∧
    (State.reset.putB .WER_CTRL_EN true).flag .WER_CTRL_EN = true ∧ (State.reset.putB .WER_CTRL_EN true).awake = false := by decide +kernel
theorem test_hyp_RegisterCommands : (atWork.awake = true ∧ (0x31018#18).toNat % 4 = 0 ∧ (0x31018#18).toNat % 0x1000 = 0x18) ∧
    (2#18).toNat % 4 ≠ 0 ∧ hasAcc .w1c (0x0004C#18).toNat = true ∧ hasAcc .rc (0x0101C#18).toNat = true ∧ hasAcc .rc (0x01018#18).toNat = false ∧
    lowWord 0x18044 = false ∧ lowWord 0x31044 = true ∧ atWork.domainOff (pageDomain 49) = false ∧
    (let s := { atWork with field := { atWork.field with lpOn := false } }; s.domainOff (pageDomain 0x15) = true ∧ s.awake = true) ∧
    (let s := atWork.setScn fun x => { x with forceKey := some 7 }; s.hostMay 0x0D = true ∧ s.scn.forceKey = some 7) ∧
    atWork.scn.forceKey ≠ some 7 ∧
    (let s := (atWork.putB .SCN_STAT_KEY_OK true).setScn fun x => { x with keyUntil := 1249999 }
     let t := s.at s.scn.keyUntil
     t.flag .SCN_STAT_KEY_OK = true ∧ t.scn.keyUntil ≤ t.now) ∧ (atWork.at 0).flag .SCN_STAT_KEY_OK = false ∧
    (let s := { atWork with locks := [0x08] }; s.domainOff (pageDomain 0x08) = false ∧ s.locked 0x08 = true) := by decide +kernel
/-! ### Single steps (expected results from the rules named) -/

/-- The code a page's ERR_CODE holds after a command. -/
def refusal (c : Instr) (s : State) (p : Nat) : Nat := match exec c s with
  | .next t => t.fld (.ERR_CODE_CODE p)
  | .fault _ => 0
  | .refused _ => 0

/-- R35, R76, R104, R318, R328, R339, R353, R366, R373, R375, R398. -/
theorem test_refusal_codes : [refusal (.sysSwrstWrite 0xA5A5) atWork 0, refusal (.txnArm 3) atWork 8, refusal (.errInjectWrite 0) atWork 7,
    refusal (.aouTestWrite 0 0) atWork 0x15, refusal (.dioTestWrite true 0) atWork 0x16, refusal (.trpPtCmd 0) atWork 0x17,
    refusal (.ptpStepHiWrite 0) (atWork.putB .PTP_STAT_HOLD true) 0x18, refusal (.ethTxCmd 0 0) atWork 0x1A,
    refusal (.serTxCmd 0 0) (atWork.putB (.SER_STAT_BUSY 0) true) 0x27, refusal .sedRdGo (atWork.putB .SED_RD_STAT_BUSY true) 0x2E] =
    [0x02, 0x11, 0x32, 0x70, 0x71, 0x80, 0x90, 0xB0, 0xB1, 0xC0] := by decide +kernel
/-- R76: an open of a group that is not Free. -/
theorem test_open_twice : after (.txnOpen 3) atWork (fun t => (t.group 3).state == 1 && refusal (.txnOpen 3) t 8 == 0x1C) = true := by
  decide +kernel
/-- R115: a lock is acquired in ascending bank order; a 65th beat is refused. -/
theorem test_lock_order : refusal (.basinLockAcquire 9 3) (atWork.setLock 4 (some ⟨9, 0⟩)) 9 = 0x40 ∧
    refusal (.basinLockRelease 9 4 true) (atWork.setLock 4 (some ⟨9, 64⟩)) 9 = 0x41 := by decide +kernel
/-- R112, R120: requester 11 (rank 3 after reset) goes before requester 9 (rank 5). -/
theorem test_grant_by_rank : after (.basinRequest 0 none none) (atWork.setBsn fun x => { x with waiting := [(0, 9), (0, 11)] })
    (fun t => t.bsn.waiting == [(0, 9)]) = true := by decide +kernel
/-- R343: the Spring count has 48 bits. -/
theorem test_spring_wraps : after .springTick (atWork.setTime fun x => { x with count := 2 ^ 48 - 1 }) (fun t => t.time.count == 0) = true := by
  decide +kernel
/-- R417: IDCODE. -/
theorem test_idcode : after .idcode State.reset (fun t => t.out == [.tdo 32 0x1730056B]) = true := by decide +kernel
/-- R438: RESET_N is ignored in Sleep. -/
theorem test_reset_in_sleep : after .resetNLow { atWork with mode := .sleep } (fun t => decide (t = { atWork with mode := .sleep })) = true := by
  decide +kernel
/-- R17, R34: RESET_N starts the device again; SAFE_N falls. -/
theorem test_reset_in_run : atWork.safeN = true ∧ after .resetNLow atWork (fun t => decide (t.mode = .startUp) && !t.safeN) = true := by
  decide +kernel
/-- R377, R433: ID of a page is read-only, SCRATCH-like RW registers take the value; a misaligned write is discarded. -/
theorem test_id_is_read_only : after (.registerWrite 0x05000 0xFFFFFFFF) atWork (fun t => t.view 0x05000 == atWork.view 0x05000) = true ∧
    after (.registerWrite 0x18061 7) atWork (fun t => decide (t = atWork)) = true := by decide +kernel
/-- R89: two windows outside in a row are an E3. -/
theorem test_clock_monitor : after (.clockMonitorWindow 24749) (atWork.putB .WIR_CLK_MON_WARN true) (fun t =>
    t.flag .WIR_CLK_MON_FAIL && t.err.log.any fun e => e.1.cls == 3) = true := by decide +kernel
/-- R66: a bad isolation frame opens with both lines; one line alone does not. -/
theorem test_isolation_one_line : after (.isolationFrame 0 1) inTriplet (fun t => decide (t.mode = .run)) = true := by decide +kernel
/-- R8: a reserved address reads 0. -/
theorem test_reserved_reads_zero : (atWork.regReadData 0x00FF0).readData = [0] := by decide +kernel
/-- R157: a trigger of a context that runs is counted and starts nothing. -/
theorem test_trigger_overrun : ((((context 3).putB (.SLV_CTX_CFG_EN 0) true).trigger 0).slv.ready == []) = true := by decide +kernel

/-! ### Check sums against their published vectors -/

/-- "123456789" in ASCII. -/
def nineDigits : List Byte := [0x31, 0x32, 0x33, 0x34, 0x35, 0x36, 0x37, 0x38, 0x39]

theorem test_crc32 : crc32 nineDigits = 0xCBF43926#32 := by decide +kernel
theorem test_crc16 : (crc16 nineDigits).toNat = 0x29B1 := by decide +kernel
theorem test_crc8 : crc8 nineDigits = 0xF4 := by decide +kernel
/-- FIPS 180-4, "abc". -/
theorem test_sha256 : sha256 [0x61, 0x62, 0x63] = 0xBA7816BF8F01CFEA414140DE5DAE2223B00361A396177A9CB410FF61F20015AD#256 := by decide +kernel
/-- NIST SP 800-38B, AES-128, empty message. -/
theorem test_cmac : blockNat (cmac 0x2B7E151628AED2A6ABF7158809CF4F3C#128 []) = 0xBB1D6929E95937287FA37D129B756746 := by decide +kernel

end Sys2Proof.Tests
end

/-! PROOFS. Registers and their fields: a field written into a word, bit by bit. What the storage primitives `State.setReg` and `Fd.into`
answer and leave; access types and reserved fields (R6, R8) are not theirs but those of `State.regWrite` and `State.regReadData`. -/

section
namespace Sys2Proof.Machine

/-- A number with the `n` bits from bit `lo` taken out and `x` put in: what lies above them, `x`, and what lies below them. -/
theorem sub_field_add_field (m x lo n : Nat) :
    m - m / 2 ^ lo % 2 ^ n * 2 ^ lo + x * 2 ^ lo = 2 ^ lo * (2 ^ n * (m / 2 ^ lo / 2 ^ n) + x) + m % 2 ^ lo := by
  have low := Nat.div_add_mod m (2 ^ lo)
  have field := Nat.div_add_mod (m / 2 ^ lo) (2 ^ n)
  have whole : m = 2 ^ lo * (2 ^ n * (m / 2 ^ lo / 2 ^ n)) + m / 2 ^ lo % 2 ^ n * 2 ^ lo + m % 2 ^ lo := by
    calc m = 2 ^ lo * (2 ^ n * (m / 2 ^ lo / 2 ^ n) + m / 2 ^ lo % 2 ^ n) + m % 2 ^ lo := by rw [field, low]
      _ = _ := by ring
  rw [Nat.mul_add, Nat.mul_comm x]
  omega

/-- A field reads the bits of its own place, and none above its width. -/
theorem testBit_of (f : Fd) (w : Word) (i : Nat) :
    (f.of w).testBit i = (decide (i < f.hi - f.lo + 1) && w.getLsbD (f.lo + i)) := by
  simp [Fd.of, bitsOf, BitVec.getLsbD]

/-- Where a field is written the word has the value's bits, and elsewhere its own. -/
theorem getLsbD_into {f : Fd} {w : Word} {v i : Nat} (hf : f.lo ≤ f.hi) (hi : i < 32) :
    (f.into w v).getLsbD i = if f.lo ≤ i ∧ i ≤ f.hi then v.testBit (i - f.lo) else w.getLsbD i := by
  have parts : f.into w v = BitVec.ofNat 32 (2 ^ f.lo * (2 ^ (f.hi - f.lo + 1) * (w.toNat / 2 ^ f.lo / 2 ^ (f.hi - f.lo + 1)) +
      v % 2 ^ (f.hi - f.lo + 1)) + w.toNat % 2 ^ f.lo) := by
    rw [← sub_field_add_field, ← Nat.shiftRight_eq_div_pow]
    rfl
  rw [parts, BitVec.getLsbD_ofNat, Nat.testBit_two_pow_mul_add _ (Nat.mod_lt _ (Nat.two_pow_pos _)),
    Nat.testBit_two_pow_mul_add _ (Nat.mod_lt _ (Nat.two_pow_pos _))]
  by_cases below : i < f.lo
  · simp [below, hi, show ¬ f.lo ≤ i by omega, BitVec.getLsbD]
  by_cases inside : i ≤ f.hi
  · have width : i - f.lo < f.hi - f.lo + 1 := by omega
    simp [below, inside, width, hi, show f.lo ≤ i by omega]
  · have width : ¬ i - f.lo < f.hi - f.lo + 1 := by omega
    have place : f.lo + (f.hi - f.lo + 1 + (i - f.lo - (f.hi - f.lo + 1))) = i := by omega
    simp [below, inside, width, hi, ← Nat.shiftRight_eq_div_pow, BitVec.getLsbD, place]

/-- A field written reads the value, cut to its width. -/
theorem of_into_same {f : Fd} {w : Word} {v : Nat} (hf : f.lo ≤ f.hi) (h32 : f.hi < 32) :
    f.of (f.into w v) = v % 2 ^ (f.hi - f.lo + 1) := by
  refine Nat.eq_of_testBit_eq fun i => ?_
  rw [testBit_of, Nat.testBit_mod_two_pow]
  by_cases width : i < f.hi - f.lo + 1
  · rw [getLsbD_into hf (by omega), if_pos (by omega), Nat.add_sub_cancel_left]
  · simp [width]

/-- A field written leaves every field of the word that shares no bit with it. -/
theorem of_into_other {f g : Fd} {w : Word} {v : Nat} (hf : f.lo ≤ f.hi) (hg : g.lo ≤ g.hi) (h32 : g.hi < 32)
    (apart : g.hi < f.lo ∨ f.hi < g.lo) : g.of (f.into w v) = g.of w := by
  refine Nat.eq_of_testBit_eq fun i => ?_
  rw [testBit_of, testBit_of]
  by_cases width : i < g.hi - g.lo + 1
  · rw [getLsbD_into hf (by omega), if_neg (by omega)]
  · simp [width]

/-- Settles O5: the register file by the laws of the sparse store, the fields of a word bit by bit. -/
theorem registerReadsBack : Obligations.RegisterReadsBack := by
  unfold Obligations.RegisterReadsBack
  refine ⟨fun s a w wf => ⟨setReg_same wf, fun b hb => setReg_other hb wf, setReg_wf wf⟩, fun f g w v hf hf32 hg hg32 => ?_⟩
  exact ⟨of_into_same hf hf32, of_into_other hf hg hg32⟩

end Sys2Proof.Machine
end

/-! PROOFS. The base tick, the station cycle start and the snapshot instant: what each answers at the edge that comes next, and where the
clock stands after its adjustment (R11, R12, R15, R48, R353). -/

section
namespace Sys2Proof.Machine

/-! ### Instants and edges -/

/-- An instant outside the base tick in progress does not move the time. -/
theorem at_not_inTick {s : State} {ns : Nat} (h : s.inTick ns = false) : s.at ns = s := by
  refine if_neg fun ⟨reached, before⟩ => ?_
  simp [State.inTick, State.now, reached, before] at h

theorem edgeAfter_onGrid (ns : Nat) : edgeAfter ns % 250000 = 0 := Nat.mul_mod_left ..

theorem lt_edgeAfter (ns : Nat) : ns < edgeAfter ns := by
  unfold edgeAfter
  omega

/-- The edge that follows an adjusted clock is on the grid, and ahead (R186). -/
theorem adjustClock_onGrid (s : State) : s.adjustClock.time.edge % 250000 = 0 := edgeAfter_onGrid _
theorem adjustClock_ahead (s : State) : s.adjustClock.now < s.adjustClock.time.edge := lt_edgeAfter _

/-- Nothing is left to add to an adjusted clock (R48, R353). -/
theorem adjustClock_step (s : State) : s.adjustClock.time.step = none := rfl
theorem adjustClock_phaseAdj (s : State) : s.adjustClock.sib.phaseAdj = 0 := rfl

/-- The work of an edge ends with the clock's adjustment: the next edge is on the grid and ahead, and nothing is left to add. -/
theorem edgeRest_clock (s : State) (sense : List (Nat × Nat × Nat)) (before : Option Event) :
    (s.edgeRest sense before).time.edge % 250000 = 0 ∧ (s.edgeRest sense before).now < (s.edgeRest sense before).time.edge ∧
      (s.edgeRest sense before).time.step = none ∧ (s.edgeRest sense before).sib.phaseAdj = 0 := by
  rw [State.edgeRest]
  exact ⟨adjustClock_onGrid _, adjustClock_ahead _, adjustClock_step _, adjustClock_phaseAdj _⟩

/-! ### The base tick and the station cycle start -/

theorem exec_baseTick_stopped {s : State} (sense : List (Nat × Nat × Nat)) (ha : s.awake = true) (hr : s.time.running = false) :
    exec (.baseTick sense) s = .next s := by
  simp [exec_baseTick, execBaseTick, coreAct_run _ ha, hr]

theorem exec_stationCycleStart_stopped {s : State} (ha : s.awake = true) (hr : s.time.running = false) :
    exec .stationCycleStart s = .next s := by
  simp [exec_stationCycleStart, execStationCycleStart, coreAct_run _ ha, hr]

section
/-! `t` is the edge that comes next with its groups applied; what an edge that waited had left is done first (R12, R79). -/

variable {s t : State} (ha : s.awake = true) (hr : s.time.running = true)
  (ht : (s.endEdge.setTime fun x => { x with ns := x.edge }).dueGroups = t)
include ha hr ht

/-- A tick whose groups are applied whole does all the work of its edge. -/
theorem exec_baseTick_whole (sense : List (Nat × Nat × Nat)) (whole : t.applying = false) :
    exec (.baseTick sense) s = .next ((t.edgeRest sense (s.endEdge.slot 2)).queueOf s) := by
  simp [exec_baseTick, execBaseTick, coreAct_run _ ha, hr, ht, whole]

/-- A tick with a group that waits for a locked bank holds the rest of its work. -/
theorem exec_baseTick_waits (sense : List (Nat × Nat × Nat)) (waits : t.applying = true) :
    exec (.baseTick sense) s = .next ((t.setTime fun x => { x with held := some (sense, s.endEdge.slot 2) }).queueOf s) := by
  simp [exec_baseTick, execBaseTick, coreAct_run _ ha, hr, ht, waits]

/-- After a tick that has done its work the next edge is on the grid and ahead, and nothing is left to add to the clock. -/
theorem exec_baseTick_clock (sense : List (Nat × Nat × Nat)) (whole : t.applying = false) :
    ∃ u, exec (.baseTick sense) s = .next u ∧ u.time.edge % 250000 = 0 ∧ u.now < u.time.edge ∧ u.time.step = none ∧
      u.sib.phaseAdj = 0 :=
  ⟨_, exec_baseTick_whole ha hr ht sense whole, edgeRest_clock t sense (s.endEdge.slot 2)⟩

/-- A station cycle start that is due is worked, unless a group still waits. -/
theorem exec_stationCycleStart_due (due : t.cycleDue = true) :
    exec .stationCycleStart s = .next ((if t.applying then t else t.cycleEdge).queueOf s) := by
  simp [exec_stationCycleStart, execStationCycleStart, coreAct_run _ ha, hr, ht, due]

theorem exec_stationCycleStart_notDue (due : t.cycleDue = false) : exec .stationCycleStart s = .next s := by
  simp [exec_stationCycleStart, execStationCycleStart, coreAct_run _ ha, hr, ht, due]

end

/-! ### The snapshot instant -/

/-- The snapshot of the cycle that starts at `c` is due: its instant has come and it has not been taken. -/
def State.snapDue (t : State) (c : Nat) : Prop :=
  t.time.running = true ∧ t.now = c + t.snapOffset ∧ t.stn.snapAt ≠ c + t.snapOffset

/-- The snapshot of the cycle that starts at `c` taken, and marked as taken. -/
def State.snapTaken (t : State) (c : Nat) : State :=
  (t.snapshot.lightIntegral).setStn fun x => { x with snapAt := c + t.snapOffset }

section
variable {s t : State} (ha : s.awake = true) (ht : (s.at (s.cycleStart + s.snapOffset)).dueGroups = t)
include ha ht

/-- The groups due come first; a snapshot that is due is then taken, and triggers context 0 if its TRIG is 1. -/
theorem exec_snapshotInstant_due {u : State} (hu : t.snapTaken s.cycleStart = u) (due : t.snapDue s.cycleStart) :
    exec .snapshotInstant s = .next ((if u.fld (.SLV_CTX_CFG_TRIG 0) = 1 then u.trigger 0 else u).queueOf s) := by
  rw [exec_snapshotInstant, execSnapshotInstant, coreAct_run _ ha, ← hu]
  dsimp only
  rw [ht]
  exact congrArg (fun u => Host.Outcome.next (State.queueOf u s)) (if_pos due)

/-- Where no snapshot is due the groups due alone are worked. -/
theorem exec_snapshotInstant_notDue (due : ¬ t.snapDue s.cycleStart) : exec .snapshotInstant s = .next (t.queueOf s) := by
  rw [exec_snapshotInstant, execSnapshotInstant, coreAct_run _ ha]
  dsimp only
  rw [ht]
  exact congrArg (fun u => Host.Outcome.next (State.queueOf u s)) (if_neg due)

end

/-- Settles O40: each command by the case of its edge, and the clock by the edge that follows its adjustment. -/
theorem ticks : Obligations.Ticks := by
  unfold Obligations.Ticks
  intro s sense ha
  refine ⟨fun ns => ⟨at_inTick, at_not_inTick⟩, fun hr => ?running,
    fun hr => ⟨exec_baseTick_stopped sense ha hr, exec_stationCycleStart_stopped ha hr⟩, ?snapshot⟩
  case running =>
    intro e t rest
    refine ⟨exec_baseTick_whole (t := t) ha hr rfl sense, exec_baseTick_waits (t := t) ha hr rfl sense,
      exec_baseTick_clock (t := t) ha hr rfl sense, fun due whole => ?_, fun due waits => ?_,
      exec_stationCycleStart_notDue (t := t) ha hr rfl⟩
    · rw [exec_stationCycleStart_due (t := t) ha hr rfl due, whole]
      rfl
    · rw [exec_stationCycleStart_due (t := t) ha hr rfl due, waits]
      rfl
  case snapshot =>
    intro c t u due
    refine ⟨fun now trig => ?_, fun now trig => ?_, exec_snapshotInstant_notDue (t := t) ha rfl⟩
    · rw [exec_snapshotInstant_due (t := t) (u := u) ha rfl rfl now, if_pos trig]
    · rw [exec_snapshotInstant_due (t := t) (u := u) ha rfl rfl now, if_neg trig]

end Sys2Proof.Machine
end

/-! PROOFS. The order on the solver's fabric: what a trigger does to a context, which waiting context a free fabric goes to, and which
commands start, resume and preempt a run (R13, R138, R139, R157). -/

section
namespace Sys2Proof.Machine

/-! ### The choice among contexts -/

/-- The choice by fabric priority is the library's first minimum of a list. -/
theorem firstOf_eq_argmin (s : State) (l : List Nat) : s.firstOf l = l.argmin s.fpri := by
  refine congrArg (fun f => l.foldl f none) (funext fun acc => funext fun k => ?_)
  cases acc <;> rfl

/-- A first minimum that stands in the second of two lists is strictly below all of the first. -/
theorem argmin_append_strict {f : Nat → Nat} {l₁ l₂ : List Nat} {m k : Nat} (hm : m ∈ (l₁ ++ l₂).argmin f) (later : m ∉ l₁)
    (hk : k ∈ l₁) : f m < f k := by
  by_contra notLess
  have order := List.index_of_argmin hm (List.mem_append_left l₂ hk) (Nat.le_of_not_lt notLess)
  rw [List.idxOf_append_of_mem hk, List.idxOf_append_of_notMem later] at order
  have := List.idxOf_lt_length_of_mem hk
  omega

/-- A context that waits for the fabric: a checkpointed one, or a ready one that is pending (R139). -/
def State.waits (s : State) (k : Nat) : Prop := (k < 4 ∧ s.ctxState k = 4) ∨ (k ∈ s.slv.ready ∧ s.ctxState k = 2)

/-- The checkpointed contexts. -/
def State.checkpointed (s : State) : List Nat := (List.range 4).filter fun k => s.ctxState k == 4

theorem mem_checkpointed {s : State} {k : Nat} : k ∈ s.checkpointed ↔ k < 4 ∧ s.ctxState k = 4 := by
  simp [State.checkpointed]

theorem mem_readyCtx {s : State} {k : Nat} : k ∈ s.readyCtx ↔ k ∈ s.slv.ready ∧ s.ctxState k = 2 := by
  simp [State.readyCtx]

theorem waits_iff {s : State} {k : Nat} : s.waits k ↔ k ∈ s.checkpointed ++ s.readyCtx := by
  rw [List.mem_append, mem_checkpointed, mem_readyCtx, State.waits]

theorem nextCtx_eq_argmin (s : State) : s.nextCtx = (s.checkpointed ++ s.readyCtx).argmin s.fpri :=
  firstOf_eq_argmin ..

/-- A free fabric goes to a context that waits, and to none that another of higher priority waits beside. -/
theorem nextCtx_waits {s : State} {m : Nat} (h : s.nextCtx = some m) : s.waits m ∧ ∀ k, s.waits k → s.fpri m ≤ s.fpri k := by
  rw [nextCtx_eq_argmin] at h
  exact ⟨waits_iff.mpr (List.argmin_mem h), fun k hk => List.le_of_mem_argmin (waits_iff.mp hk) h⟩

/-- A ready context gets the fabric before a checkpointed one only by a higher priority. -/
theorem nextCtx_ready_lt {s : State} {m k : Nat} (h : s.nextCtx = some m) (hm : s.ctxState m = 2) (hk : k < 4)
    (stopped : s.ctxState k = 4) : s.fpri m < s.fpri k := by
  rw [nextCtx_eq_argmin] at h
  refine argmin_append_strict h (fun mem => ?_) (mem_checkpointed.mpr ⟨hk, stopped⟩)
  have := (mem_checkpointed.mp mem).2
  omega

/-! ### The trigger -/

/-- May a trigger start a run: the context enabled, its loops free to run, the member free to open a group (R76, R138)? -/
def State.mayTrigger (s : State) (n : Nat) : Prop := s.flag (.SLV_CTX_CFG_EN n) = true ∧ s.loopsMayRun = true ∧ s.mayOpen = true

/-- A context made pending, its start instant now, at the end of the ready ones. -/
def State.pended (s : State) (n : Nat) : State :=
  let t := (s.put (.SLV_CTX_STAT_STATE n) 2).setCtx n fun c => { c with start := s.now }
  { t with slv := { t.slv with ready := t.slv.ready ++ [n] } }

theorem trigger_ignored {s : State} {n : Nat} (h : ¬ s.mayTrigger n ∨ s.ctxState n = 0) : s.trigger n = s := by
  refine if_pos ?_
  simp only [State.mayTrigger, not_and_or, Bool.not_eq_true] at h
  simpa [or_assoc] using h

/-- A busy context counts an overrun. -/
theorem trigger_busy {s : State} {n : Nat} (may : s.mayTrigger n) (busy : 2 ≤ s.ctxState n) :
    s.trigger n = s.bump (.SLV_CTX_STAT_OVR n) := by
  obtain ⟨enabled, loops, opens⟩ := may
  simp [State.trigger, enabled, loops, opens, show s.ctxState n ≠ 0 by omega, show s.ctxState n ≠ 1 by omega]

/-- An idle context becomes pending; a running context that waits at a barrier may be preempted for it at once. -/
theorem trigger_idle {s : State} {n : Nat} (may : s.mayTrigger n) (idle : s.ctxState n = 1) :
    s.trigger n = match s.slv.running with
      | some r => if ((s.pended n).ctx r).barrier.isSome then (s.pended n).preempt else s.pended n
      | none => s.pended n := by
  obtain ⟨enabled, loops, opens⟩ := may
  rw [State.trigger, if_neg (by simp [enabled, loops, opens, idle]), if_pos idle]
  rfl

theorem trigger_idle_noBarrier {s : State} {n : Nat} (may : s.mayTrigger n) (idle : s.ctxState n = 1)
    (noBarrier : ∀ r, s.slv.running = some r → ((s.pended n).ctx r).barrier = none) : s.trigger n = s.pended n := by
  rw [trigger_idle may idle]
  cases running : s.slv.running with
  | none => rfl
  | some r => exact if_neg (by simp [noBarrier r running])

theorem trigger_idle_barrier {s : State} {n r : Nat} {b : Barrier} (may : s.mayTrigger n) (idle : s.ctxState n = 1)
    (running : s.slv.running = some r) (barrier : ((s.pended n).ctx r).barrier = some b) :
    s.trigger n = (s.pended n).preempt := by
  rw [trigger_idle may idle, running]
  exact if_pos (by simp [barrier])

/-! ### The commands on the fabric -/

section
variable {s : State} (n : Fin 4) (ha : s.awake = true)
include ha

theorem exec_solverTrigger_due (due : s.fld (.SLV_CTX_CFG_TRIG n.val) = 2 ∧
    s.now % (max 1 (s.fld (.SLV_CTX_PERIOD n.val)) * 1000000000) = 0) :
    exec (.solverTrigger n) s = .next ((s.trigger n.val).queueOf s) := by
  rw [exec_solverTrigger, execSolverTrigger, coreAct_run _ ha, if_pos due]

theorem exec_solverTrigger_notDue (due : ¬ (s.fld (.SLV_CTX_CFG_TRIG n.val) = 2 ∧
    s.now % (max 1 (s.fld (.SLV_CTX_PERIOD n.val)) * 1000000000) = 0)) :
    exec (.solverTrigger n) s = .next s := by
  rw [exec_solverTrigger, execSolverTrigger, coreAct_run _ ha, if_neg due, queueOf_self]

/-- A free fabric starts the run of the ready context that it goes to. -/
theorem exec_solverRunStart_takes (free : s.slv.running = none) (chosen : s.nextCtx = some n.val) (ready : s.ctxState n.val = 2) :
    exec (.solverRunStart n) s = .next ((s.startRun n.val).queueOf s) := by
  rw [exec_solverRunStart, execSolverRunStart, coreAct_run _ ha, if_pos ⟨free, chosen, ready⟩]

theorem exec_solverRunStart_same (h : s.slv.running ≠ none ∨ s.nextCtx ≠ some n.val ∨ s.ctxState n.val ≠ 2) :
    exec (.solverRunStart n) s = .next s := by
  rw [exec_solverRunStart, execSolverRunStart, coreAct_run _ ha, if_neg (by tauto), queueOf_self]

/-- A free fabric resumes the checkpointed context that it goes to. -/
theorem exec_contextResume_takes (free : s.slv.running = none) (chosen : s.nextCtx = some n.val) (stopped : s.ctxState n.val = 4) :
    exec (.contextResume n) s = .next ((s.resume n.val).queueOf s) := by
  rw [exec_contextResume, execContextResume, coreAct_run _ ha, if_pos ⟨free, chosen, stopped⟩]

theorem exec_contextResume_same (h : s.slv.running ≠ none ∨ s.nextCtx ≠ some n.val ∨ s.ctxState n.val ≠ 4) :
    exec (.contextResume n) s = .next s := by
  rw [exec_contextResume, execContextResume, coreAct_run _ ha, if_neg (by tauto), queueOf_self]

/-- The first of the ready contexts may preempt; for any other the command does nothing. -/
theorem exec_contextPreempt_eq : exec (.contextPreempt n) s =
    .next ((if s.firstOf s.readyCtx = some n.val then s.preempt else s).queueOf s) := by
  rw [exec_contextPreempt, execContextPreempt, coreAct_run _ ha]

end

theorem preempt_free {s : State} (free : s.slv.running = none) : s.preempt = s := by
  simp [State.preempt, free]

/-- The first ready context against the running one: it takes the fabric only from a run in progress of a lower priority. -/
theorem preempt_first {s : State} {r k : Nat} (running : s.slv.running = some r) (first : s.firstOf s.readyCtx = some k) :
    s.preempt = if s.ctxState r = 3 ∧ s.fpri k < s.fpri r then (s.checkpoint r).startRun k else s := by
  simp [State.preempt, running, first]

/-- Settles O43: the trigger by the context's state, the choice as a first minimum, the commands by their guards. -/
theorem solverOrder : Obligations.SolverOrder := by
  unfold Obligations.SolverOrder
  intro s n ha
  refine ⟨⟨exec_solverTrigger_due n ha, exec_solverTrigger_notDue n ha⟩,
    ⟨trigger_ignored, trigger_busy, trigger_idle_noBarrier, fun may idle _ _ => trigger_idle_barrier may idle⟩,
    fun m chosen => ?choice,
    fun free chosen => ⟨exec_solverRunStart_takes n ha free chosen, exec_contextResume_takes n ha free chosen⟩,
    exec_solverRunStart_same n ha, exec_contextResume_same n ha,
    fun r running first runs higher => ?preempts, fun r running h => ?keeps, fun free => ?free⟩
  case choice =>
    obtain ⟨waiting, least⟩ := nextCtx_waits chosen
    exact ⟨waiting, least, fun ready k => nextCtx_ready_lt chosen ready⟩
  case preempts =>
    refine (exec_contextPreempt_eq n ha).trans ?_
    rw [if_pos first, preempt_first running first, if_pos ⟨runs, higher⟩]
  case keeps =>
    rw [exec_contextPreempt_eq n ha]
    split
    next first =>
      have stays : s.ctxState r ≠ 3 ∨ s.fpri r ≤ s.fpri n.val := h.resolve_left (not_not_intro first)
      rw [preempt_first running first, if_neg (by omega), queueOf_self]
    next => rw [queueOf_self]
  case free =>
    rw [exec_contextPreempt_eq n ha, preempt_free free, ite_self, queueOf_self]

end Sys2Proof.Machine
end

/-! PROOFS. Reset, the supplies and the lands RESET_N and WAKE_N: what the work on the field lands and the reset of the core domains leave
(R26, R34, R349, R438), and the software reset (R35). -/

section
namespace Sys2Proof.Machine

/-! ### What outlives a reset -/

/-- What outlives a reset and a loss of main supply: the Spring count, the records in MRAM, the xSPI memory (R34, R349). -/
def State.durable (s : State) : Nat × Sparse (Option SedRec) × List Host.Cell := (s.time.count, s.sed.ring, s.xspi)

theorem durable_eq_iff {t : State} {count : Nat} {ring : Sparse (Option SedRec)} {xspi : List Host.Cell} :
    t.durable = (count, ring, xspi) ↔ t.time.count = count ∧ t.sed.ring = ring ∧ t.xspi = xspi := by
  simp [State.durable]

/-- The record written at a save lies in the Reservoir and shows in registers (R293). -/
theorem saveSlot_durable (s : State) (kind : Nat) (whole : Bool) : (s.saveSlot kind whole).durable = s.durable := by
  unfold State.saveSlot State.showSlot
  split
  · rfl
  · dsimp only
    split <;> rfl

/-! ### A command's end -/

theorem effect_eq (s t : State) : effect s t = .next (t.queueOf s) := rfl

/-! The queue put back touches nothing else. -/

@[simp] theorem queueOf_mode (t s : State) : (t.queueOf s).mode = t.mode := rfl
@[simp] theorem queueOf_mainOn (t s : State) : (t.queueOf s).mainOn = t.mainOn := rfl
@[simp] theorem queueOf_held (t s : State) : (t.queueOf s).held = t.held := rfl
@[simp] theorem queueOf_safeN (t s : State) : (t.queueOf s).safeN = t.safeN := rfl
@[simp] theorem queueOf_durable (t s : State) : (t.queueOf s).durable = t.durable := rfl

/-! ### Work on the field lands -/

/-- The state without the registers, the field lands and the wear counts, which the work on the lands alone changes. -/
def State.besideLands (s : State) : State := { s with regs := [], field := {}, wear := {} }

/-- The pages that show the supplies and the field lands. -/
def landPages : List Nat := [0x01, 0x05, 0x15, 0x16, 0x17]

/-- `t` is `s` after work on the field lands: beside lands, wear counts and registers nothing differs, and of the registers, held in
canonical form, those of the pages that show supplies and lands alone. -/
structure LandWork (s t : State) : Prop where
  beside : t.besideLands = s.besideLands
  regs : s.regsWf = true → t.regsWf = true ∧ ∀ a, landPages.contains (a / 0x1000) = false → t.reg a = s.reg a

namespace LandWork

variable {s t u : State}

theorem refl (s : State) : LandWork s s := ⟨rfl, fun wf => ⟨wf, fun _ _ => rfl⟩⟩

theorem trans (h : LandWork s t) (k : LandWork t u) : LandWork s u where
  beside := k.beside.trans h.beside
  regs wf := by
    obtain ⟨wfT, sameT⟩ := h.regs wf
    obtain ⟨wfU, sameU⟩ := k.regs wfT
    exact ⟨wfU, fun a other => (sameU a other).trans (sameT a other)⟩

/-- Work that touches no register. -/
theorem of_regs_eq (beside : t.besideLands = s.besideLands) (same : t.regs = s.regs) : LandWork s t where
  beside := beside
  regs wf := by simp_all [State.regsWf, State.reg]

/-- A field written on one of the pages. -/
theorem put {f : Fd} {v : Nat} (page : f.adr / 0x1000 ∈ landPages) : LandWork s (s.put f v) where
  beside := rfl
  regs wf := ⟨put_wf wf, fun a other => put_other (by rintro rfl; simp_all) wf⟩

/-- Work repeated. -/
theorem forN {n : Nat} {f : Nat → State → State} (each : ∀ k < n, ∀ t, LandWork t (f k t)) (s : State) : LandWork s (forN n f s) :=
  List.foldlRecOn _ _ (refl s) fun t done k hk => done.trans (each k (List.mem_range.mp hk) t)

theorem mode (h : LandWork s t) : t.mode = s.mode := (congrArg State.mode h.beside :)
theorem mainOn (h : LandWork s t) : t.mainOn = s.mainOn := (congrArg State.mainOn h.beside :)
theorem held (h : LandWork s t) : t.held = s.held := (congrArg State.held h.beside :)
theorem cause (h : LandWork s t) : t.cause = s.cause := (congrArg State.cause h.beside :)
theorem locks (h : LandWork s t) : t.locks = s.locks := (congrArg State.locks h.beside :)
theorem durable (h : LandWork s t) : t.durable = s.durable := (congrArg State.durable h.beside :)

end LandWork

theorem setLeg_landWork (s : State) (n : Nat) (w : Word) : LandWork s (s.setLeg n w) := .of_regs_eq rfl rfl

theorem switchOut_landWork (s : State) (n : Nat) (on : Bool) : LandWork s (s.switchOut n on) := by
  unfold State.switchOut
  dsimp only
  split <;> exact .of_regs_eq rfl rfl

/-- The sixteen trip elements are shown on page 0x17. -/
theorem elementFd_page {e : Nat} (he : e < 16) : (elementFd e).adr / 0x1000 = 0x17 := by
  have page : (0x170C0 + 4 * (e / 2)) / 0x1000 = 0x17 := by omega
  unfold elementFd
  split <;> exact page

theorem setElement_landWork {e : Nat} (he : e < 16) (s : State) (closed : Bool) : LandWork s (s.setElement e closed) := by
  have shown : LandWork s (s.putB (elementFd e) closed) := .put (by rw [elementFd_page he]; decide)
  unfold State.setElement
  dsimp only
  split
  · exact shown.trans (.of_regs_eq rfl rfl)
  · exact shown

theorem openTrips_landWork (s : State) : LandWork s s.openTrips :=
  (LandWork.forN (fun _ he t => setElement_landWork he t false) s).trans (.of_regs_eq rfl rfl)

/-- Elements open and every output switch off, as both the power-up state and a dark field have them. -/
theorem outputsOff_landWork (s : State) : LandWork s (forN 32 (fun n t => t.switchOut n false) s.openTrips) :=
  (openTrips_landWork s).trans (.forN (fun n _ t => switchOut_landWork t n false) _)

theorem isoSwitches_landWork (s : State) : LandWork s s.isoSwitches := .put (by decide)

/-- A leg at its power-up level, with the state and the share that page 0x15 shows. -/
theorem powerUpLeg_landWork {n : Nat} (hn : n < 8) (s : State) (w : Word) :
    LandWork s (((s.setLeg n w).put (.AOU_STAT_STATE n) 0).put (.AOU_STAT_LEGS n) 0) := by
  have page : (0x15120 + 4 * n) / 0x1000 ∈ landPages := by
    rw [show (0x15120 + 4 * n) / 0x1000 = 0x15 by omega]
    decide
  exact ((setLeg_landWork s n w).trans (.put page)).trans (.put page)

/-- The power-up state of the field die (R26). -/
theorem powerUpField_landWork (s : State) : LandWork s s.powerUpField := by
  unfold State.powerUpField
  split
  · exact .refl s
  · exact ((outputsOff_landWork s).trans (.forN (fun _ hn t => powerUpLeg_landWork hn t _) _)).trans (isoSwitches_landWork _)

/-- The field die unpowered (R425). -/
theorem darkField_landWork (s : State) : LandWork s s.darkField :=
  ((outputsOff_landWork s).trans (.forN (fun n _ t => setLeg_landWork t n 0) _)).trans (.put (by decide))

theorem fieldDomains_landWork (s : State) : LandWork s s.fieldDomains := .put (by decide)

/-! ### The reset of every domain but the Spring (R34) -/

section
variable (s : State) (keepRsv keepLog : Bool)

@[simp] theorem resetCore_mode : (s.resetCore keepRsv keepLog).mode = s.mode := (powerUpField_landWork _).mode
@[simp] theorem resetCore_mainOn : (s.resetCore keepRsv keepLog).mainOn = s.mainOn := (powerUpField_landWork _).mainOn
@[simp] theorem resetCore_held : (s.resetCore keepRsv keepLog).held = true := (powerUpField_landWork _).held

/-- The Spring, the MRAM and the xSPI memory outlive the reset. -/
@[simp] theorem resetCore_durable : (s.resetCore keepRsv keepLog).durable = s.durable := (powerUpField_landWork _).durable

/-- A freeze before the reset adds cause 6. -/
theorem resetCore_cause : (s.resetCore keepRsv keepLog).cause =
    s.cause + (if s.flag .SPR_STAT_FROZE && !bitOf s.cause 6 then 64 else 0) := (powerUpField_landWork _).cause

end

/-! ### Resets, supplies and lands -/

theorem live_iff {s : State} : s.live = true ↔ s.mode = .run ∨ s.mode = .degraded := by simp [State.live]

/-- SAFE_N is low outside Run and Degraded (R17). -/
theorem safeN_low {s : State} (run : s.mode ≠ .run) (degraded : s.mode ≠ .degraded) : s.safeN = false := by
  simp [State.safeN, State.live, run, degraded]

/-! A reset that leaves Spring and Reservoir standing enters start-up with the core domains held (R34). -/

@[simp] theorem warmReset_mode (s : State) (bit : Nat) : (s.warmReset bit).mode = .startUp := resetCore_mode ..
@[simp] theorem warmReset_held (s : State) (bit : Nat) : (s.warmReset bit).held = true := resetCore_held ..
@[simp] theorem warmReset_durable (s : State) (bit : Nat) : (s.warmReset bit).durable = s.durable := resetCore_durable ..

/-- RESET_N sets its own bit of the causes below 3 (R34). -/
theorem warmReset_pin_cause (s : State) : (s.warmReset 2).cause % 8 = 4 := by
  rw [State.warmReset, resetCore_cause]
  dsimp only
  split <;> rfl

/-! A loss of main supply leaves every core domain without power (R34). -/

@[simp] theorem loseMain_mode (s : State) : s.loseMain.mode = .sleep := (darkField_landWork _).mode.trans (resetCore_mode ..)
@[simp] theorem loseMain_mainOn (s : State) : s.loseMain.mainOn = false := (darkField_landWork _).mainOn.trans (resetCore_mainOn ..)
@[simp] theorem loseMain_held (s : State) : s.loseMain.held = true := (darkField_landWork _).held.trans (resetCore_held ..)

/-- The final commit, the reset and the dark field keep what is durable (R34, R294). -/
@[simp] theorem loseMain_durable (s : State) : s.loseMain.durable = s.durable := by
  refine (darkField_landWork _).durable.trans ((resetCore_durable ..).trans ?_)
  split
  · exact saveSlot_durable s 2 true
  · rfl

/-- The state a Spring power-on reset leaves before the lands are set: every domain reset, and of the Spring domain no register, lock or
time kept (R34, R349). -/
def State.springReset (s : State) : State :=
  { ({ s with stopped := false, waking := false, strapsDue := true, cause := 0,
              mode := if s.mainOn then .startUp else .sleep } : State).resetCore false false with
    regs := [], latch := [], lowHeld := [], locks := [], time := {}, cause := if s.mainOn then 1 else 1 + s.cause / 2 * 2 }

/-- After a Spring power-on reset the lands take their power-up state, or stay dark without main supply. -/
theorem exec_springPowerOn_eq (s : State) : exec .springPowerOn s = .next
    ((if s.mainOn then s.springReset.fieldDomains.powerUpField else s.springReset.fieldDomains.darkField).queueOf s) := rfl

/-- A Spring power-on reset is followed by work on the lands alone. -/
theorem springPowerOn_landWork (s : State) : ∃ t, exec .springPowerOn s = .next (t.queueOf s) ∧ LandWork s.springReset t := by
  refine ⟨_, exec_springPowerOn_eq s, (fieldDomains_landWork _).trans ?_⟩
  split
  · exact powerUpField_landWork _
  · exact darkField_landWork _

/-- A Spring power-on reset sets its bit of the causes. -/
theorem springReset_cause (s : State) : s.springReset.cause % 2 = 1 := by
  unfold State.springReset
  dsimp only
  split <;> omega

@[simp] theorem springReset_held (s : State) : s.springReset.held = true := resetCore_held ..

/-- A Spring power-on reset restarts the count from 0; MRAM and xSPI stay (R349). -/
theorem springReset_durable (s : State) : s.springReset.durable = (0, s.sed.ring, s.xspi) :=
  congrArg (fun kept => (0, kept.2)) (resetCore_durable ..)

/-- The power-on reset keeps no lock, and no register outside the pages that show supplies and lands. -/
theorem LandWork.of_springReset {s t : State} (h : LandWork s.springReset t) :
    t.locks = [] ∧ ∀ a, landPages.contains (a / 0x1000) = false → t.reg a = regDefault a :=
  ⟨h.locks, (h.regs rfl).2⟩

/-! ### The state after reset -/

theorem reset_reg (a : Nat) : State.reset.reg a = regDefault a := rfl

/-- Settles O4: the fields of the state after reset. -/
theorem resetState : Obligations.ResetState := by
  unfold Obligations.ResetState
  exact ⟨rfl, rfl, safeN_low (by decide) (by decide), rfl, rfl, rfl, reset_reg, rfl, rfl, reset_regsWf, reset_memWf⟩

/-! ### The software reset (R35) -/

section
variable {s : State} (may : s.hostMay 0 = true)
include may

theorem exec_sysSwrstWrite_acts (mode : s.mode = .commission ∨ s.mode = .safe) :
    exec (.sysSwrstWrite 0xA5A5) s = .next ((s.warmReset 4).queueOf s) := by
  rw [exec_sysSwrstWrite, execSysSwrstWrite, hostAct_run _ may, if_neg (not_not_intro rfl), if_pos mode]

theorem exec_sysSwrstWrite_refused (live : s.mode = .run ∨ s.mode = .degraded) :
    exec (.sysSwrstWrite 0xA5A5) s = .next ((s.refuse 0x00 0x02 0x5C).queueOf s) := by
  have elsewhere : ¬ (s.mode = .commission ∨ s.mode = .safe) := by
    rcases live with mode | mode <;> simp [mode]
  rw [exec_sysSwrstWrite, execSysSwrstWrite, hostAct_run _ may, if_neg (not_not_intro rfl), if_neg elsewhere, if_pos (live_iff.mpr live)]

theorem exec_sysSwrstWrite_otherKey {v : Word} (key : v ≠ 0xA5A5) : exec (.sysSwrstWrite v) s = .next s := by
  rw [exec_sysSwrstWrite, execSysSwrstWrite, hostAct_run _ may, if_pos key, queueOf_self]

end

/-- Settles O25: by the key written and the mode. -/
theorem softwareReset : Obligations.SoftwareReset := by
  unfold Obligations.SoftwareReset
  exact fun s may => ⟨exec_sysSwrstWrite_acts may, exec_sysSwrstWrite_refused may, fun _ => exec_sysSwrstWrite_otherKey may⟩

/-! ### The supplies, RESET_N and WAKE_N -/

theorem exec_mainSupplyReturn_powered {s : State} (on : s.mainOn = true) : exec .mainSupplyReturn s = .next s := by
  rw [exec_mainSupplyReturn, execMainSupplyReturn, if_pos on, effect_self]

theorem exec_mainSupplyLoss_eq (s : State) : exec .mainSupplyLoss s = .next (s.loseMain.queueOf s) := by
  rw [exec_mainSupplyLoss, execMainSupplyLoss, effect_eq]

theorem exec_resetNLow_sleep {s : State} (sleep : s.mode = .sleep) : exec .resetNLow s = .next s := by
  rw [exec_resetNLow, execResetNLow, if_pos sleep, effect_self]

theorem exec_resetNLow_acts {s : State} (up : s.mode ≠ .sleep) : exec .resetNLow s = .next ((s.warmReset 2).queueOf s) := by
  rw [exec_resetNLow, execResetNLow, if_neg up, effect_eq]

theorem exec_wakeNLow_ignored {s : State} (h : s.mode ≠ .sleep ∨ s.mainOn = false) : exec .wakeNLow s = .next s := by
  have stays : ¬ (s.mode = .sleep ∧ s.mainOn = true) := by
    rcases h with up | off
    · exact fun both => up both.1
    · simp [off]
  rw [exec_wakeNLow, execWakeNLow, State.wake, if_neg stays, effect_self]

/-- Settles O24: each command by its guard; a loss of main supply and RESET_N by what the reset of the core domains keeps, the Spring
power-on by the work on the lands that follows it. -/
theorem supplyAndReset : Obligations.SupplyAndReset := by
  unfold Obligations.SupplyAndReset
  intro s kept dead
  refine ⟨fun off => ?returns, exec_mainSupplyReturn_powered, ?fails, ?spring, fun up => ?resetPin, exec_resetNLow_sleep,
    fun sleep on => ?wake, exec_wakeNLow_ignored⟩
  case returns =>
    rw [exec_mainSupplyReturn, execMainSupplyReturn, if_neg (by simp [off]), effect_eq]
  case fails =>
    have low : s.loseMain.safeN = false := safeN_low (by simp) (by simp)
    have lasting : (s.loseMain.queueOf s).durable = s.durable := by simp
    exact ⟨_, exec_mainSupplyLoss_eq s, rfl, ⟨by simp, by simp, by simp, by simp [low]⟩, durable_eq_iff.mp lasting⟩
  case spring =>
    obtain ⟨t, runs, work⟩ := springPowerOn_landWork s
    obtain ⟨locks, regs⟩ := work.of_springReset
    obtain ⟨count, ring, xspi⟩ := durable_eq_iff.mp (work.durable.trans (springReset_durable s))
    have cause : t.cause % 2 = 1 := by rw [work.cause, springReset_cause]
    exact ⟨_, runs, count, locks, cause, work.held.trans (springReset_held s), xspi, ring, regs⟩
  case resetPin =>
    have low : (s.warmReset 2).safeN = false := safeN_low (by simp) (by simp)
    have lasting : ((s.warmReset 2).queueOf s).durable = s.durable := by simp
    exact ⟨_, exec_resetNLow_acts up, rfl, by simp, by simp, warmReset_pin_cause s, by simp [low], durable_eq_iff.mp lasting⟩
  case wake =>
    rw [exec_wakeNLow, execWakeNLow, State.wake, if_pos ⟨sleep, on⟩, effect_eq]

end Sys2Proof.Machine
end

/-! PROOFS. The triplet: the states of a link, the frames of the siblings and their supervision, the rejoin (R39 to R44, R46, R48, R55,
R59 to R61, R65, R66, R437). -/

section
namespace Sys2Proof.Machine

/-! ### A command with a guard -/

section
variable {s t u : State} {i : Instr} {c : Prop} [Decidable c] (runs : exec i s = .next ((if c then t else u).queueOf s))
include runs

theorem exec_guard_holds (h : c) : exec i s = .next (t.queueOf s) := by rw [runs, if_pos h]

theorem exec_guard_fails (h : ¬ c) : exec i s = .next (u.queueOf s) := by rw [runs, if_neg h]

end

/-! ### The states of a link (R42) -/

section
variable {s t : State} {l : Fin 2} {ns : Nat} (ha : s.awake = true) (ht : s.at ns = t)
include ha ht

theorem exec_yarnanSignalDetect_eq : exec (.yarnanSignalDetect l ns) s =
    .next ((if t.pos ≠ 0 ∧ t.link l.val = 0 then t.setLink l.val 1 else t).queueOf s) := by
  subst ht
  exact exec_yarnanSignalDetect.trans (coreAct_run _ ha)

theorem exec_linkTrainingTimeout_eq : exec (.linkTrainingTimeout l ns) s =
    .next ((if t.link l.val = 1 ∧ 1000000 ≤ t.linkAge l.val then t.linkDown l.val else t).queueOf s) := by
  subst ht
  exact exec_linkTrainingTimeout.trans (coreAct_run _ ha)

theorem exec_linkSilenceTimeout_eq : exec (.linkSilenceTimeout l ns) s =
    .next ((if (t.link l.val = 2 ∨ t.link l.val = 3) ∧ Sparse.at 0 t.sib.heard l.val + 100000 ≤ t.now then t.linkDown l.val
      else t).queueOf s) := by
  subst ht
  exact exec_linkSilenceTimeout.trans (coreAct_run _ ha)

theorem exec_linkFaultTimeout_eq : exec (.linkFaultTimeout l ns) s =
    .next ((if t.link l.val = 4 ∧ 10000000 ≤ t.linkAge l.val then t.setLink l.val 1 else t).queueOf s) := by
  subst ht
  exact exec_linkFaultTimeout.trans (coreAct_run _ ha)

theorem exec_idleSequence_eq {bytes : List Byte} : exec (.idleSequence l ns bytes) s =
    .next ((if t.pos ≠ 0 ∧ t.link l.val ≠ 0 ∧ bytes.length = 16 ∧ (crc16 (bytes.take 14)).toNat = fieldAt bytes 14 2 then
      t.linkHeard l.val else t).queueOf s) := by
  subst ht
  exact exec_idleSequence.trans (coreAct_run _ ha)

end

/-- Settles O31: each command by its guard at the instant it acts. -/
theorem linkStates : Obligations.LinkStates := by
  unfold Obligations.LinkStates
  intro s l ns bytes ha t runs
  have ht : s.at ns = t := rfl
  clear_value t
  have light := exec_yarnanSignalDetect_eq (l := l) ha ht
  have training := exec_linkTrainingTimeout_eq (l := l) ha ht
  have silence := exec_linkSilenceTimeout_eq (l := l) ha ht
  have fault := exec_linkFaultTimeout_eq (l := l) ha ht
  have idle := exec_idleSequence_eq (l := l) (bytes := bytes) ha ht
  exact ⟨fun placed down => exec_guard_holds light ⟨placed, down⟩, fun h => exec_guard_fails light (by tauto),
    fun trains age => exec_guard_holds training ⟨trains, age⟩, fun h => exec_guard_fails training (by omega),
    ⟨exec_guard_holds silence, exec_guard_fails silence⟩,
    fun faulty age => exec_guard_holds fault ⟨faulty, age⟩, fun h => exec_guard_fails fault (by omega),
    exec_guard_holds idle, exec_guard_fails idle⟩

/-! ### A frame's arrival (R41 to R43) -/

/-- The frames that are discarded, by what is wrong with them (R41). -/
theorem badYarnan_iff {kind : Nat} {flags : Byte} {seq : Word} {ref : DWord} {payload : List Byte} {crc : Word} :
    badYarnan kind flags seq ref payload crc = true ↔
      crc ≠ crc32 (crcBytes kind flags.toNat payload.length seq.toNat ref.toNat payload) ∨ 2048 < payload.length ∨ kind = 0 ∨
        6 < kind := by
  simp [badYarnan, or_assoc]

section
/-! Every frame's command answers at its instant `t` so: a deaf link takes nothing, a bad frame is counted, a good one gives `u`. -/

variable {s t u : State} {i : Instr} {deaf : Prop} [Decidable deaf] {l kind : Nat} {flags : Byte} {seq : Word} {ref : DWord}
  {payload : List Byte} {crc : Word}
  (arrives : exec i s = .next ((if deaf then t else if badYarnan kind flags seq ref payload crc then t.badFrame l kind flags
    else u).queueOf s))
include arrives

/-- A link that does not receive takes nothing; on one that does a bad frame is discarded and counted. -/
theorem exec_frame_discarded {hears : Prop} (hearing : ¬ hears ↔ deaf) :
    (¬ hears → exec i s = .next (t.queueOf s)) ∧
    (hears → (crc ≠ crc32 (crcBytes kind flags.toNat payload.length seq.toNat ref.toNat payload) ∨ 2048 < payload.length ∨
      kind = 0 ∨ 6 < kind) → exec i s = .next ((t.badFrame l kind flags).queueOf s)) := by
  refine ⟨fun silent => exec_guard_holds arrives (hearing.mp silent), fun hear wrong => ?_⟩
  exact exec_guard_holds (exec_guard_fails arrives fun h => hearing.mpr h hear) (badYarnan_iff.mpr wrong)

/-- A good frame on a link that receives. -/
theorem exec_frame_good (hears : ¬ deaf) (good : badYarnan kind flags seq ref payload crc = false) :
    exec i s = .next (u.queueOf s) :=
  exec_guard_fails (exec_guard_fails arrives hears) (by simp [good])

end

/-- A frame that passes is sent on over the other link, its relay flag set (R43). -/
def State.relayOn (v : State) (l : Nat) (kind flags : Byte) (seq : Word) (ref : DWord) (payload : List Byte) (crc : Word) : State :=
  (v.putB (.SIB_LINK_STAT_RELAYING (1 - l)) true).send
    (.yarnan (1 - l) { kind := kind.toNat, flags := flags ||| 8#8, seq := seq, ref := ref, payload := payload, crc := crc })

section
variable {s t : State} {l : Fin 2} {ns : Nat} {flags : Byte} {seq : Word} {ref : DWord} {payload : List Byte} {crc : Word}
  (ha : s.awake = true) (ht : s.at ns = t)
include ha ht

/-- A frame of a kind other than Health is delivered as its meaning says. -/
theorem exec_receive_eq {i : Instr} {kind : Nat} {f : Nat → State → State}
    (meaning : exec i s = coreAct s fun s => s.receive l.val ns kind flags seq ref payload crc f) : exec i s =
    .next ((if t.pos = 0 ∨ t.link l.val = 0 ∨ t.link l.val = 4 then t
      else if badYarnan kind flags seq ref payload crc then t.badFrame l.val kind flags
      else (t.linkHeard l.val).deliver l.val flags f).queueOf s) := by
  subst ht
  exact meaning.trans (coreAct_run _ ha)

/-- A Health frame trains its link, if it is direct, before it is delivered (R42). -/
theorem exec_healthFrame_eq {delay : Half} : exec (.healthFrame l ns delay flags seq ref payload crc) s =
    .next ((if t.pos = 0 ∨ t.link l.val = 0 ∨ t.link l.val = 4 then t
      else if badYarnan 5 flags seq ref payload crc then t.badFrame l.val 5 flags
      else (if flags.getLsbD 3 then t.linkHeard l.val else (t.linkHeard l.val).trainLink l.val (flags.toNat / 64) delay.toNat).deliver
        l.val flags fun k v => v.takeHealth k payload).queueOf s) := by
  subst ht
  exact exec_healthFrame.trans (coreAct_run _ ha)

/-- A good frame of any kind over an Up link goes on to the other sibling, if it is a direct one for it (R43). -/
theorem exec_frameRelay_eq {kind : Byte} {v : State} (hv : t.linkHeard l.val = v) :
    exec (.frameRelay l ns kind flags seq ref payload crc) s =
    .next ((if t.pos = 0 ∨ t.link l.val ≠ 2 then t
      else if badYarnan kind.toNat flags seq ref payload crc then t.badFrame l.val kind.toNat flags
      else if flags.toNat / 64 = sibPos v.pos l.val ∧ bitsOf flags.toNat 5 4 = sibPos v.pos (1 - l.val) ∧ flags.getLsbD 3 = false ∧
          v.link (1 - l.val) = 2 then v.relayOn l.val kind flags seq ref payload crc
      else v).queueOf s) := by
  subst ht hv
  exact exec_frameRelay.trans (coreAct_run _ ha)

end

/-- Settles O32: the commands of all kinds filter what arrives alike. -/
theorem badFramesDiscarded : Obligations.BadFramesDiscarded := by
  unfold Obligations.BadFramesDiscarded
  intro s l ns delay kind flags seq ref payload crc ha t hears bad
  have hearing : ¬ hears ↔ t.pos = 0 ∨ t.link l.val = 0 ∨ t.link l.val = 4 := by
    simp only [hears]
    tauto
  have up : ¬ (t.pos ≠ 0 ∧ t.link l.val = 2) ↔ t.pos = 0 ∨ t.link l.val ≠ 2 := by tauto
  exact ⟨exec_frame_discarded (exec_receive_eq ha rfl exec_cycleImageFrame) hearing,
    exec_frame_discarded (exec_receive_eq ha rfl exec_voteFrame) hearing,
    exec_frame_discarded (exec_receive_eq ha rfl exec_groupHashFrame) hearing,
    exec_frame_discarded (exec_receive_eq ha rfl exec_timeFrame) hearing,
    exec_frame_discarded (exec_healthFrame_eq ha rfl) hearing,
    exec_frame_discarded (exec_receive_eq ha rfl exec_bulkFrame) hearing,
    exec_frame_discarded (exec_frameRelay_eq ha rfl rfl) up⟩

/-! ### What a good frame does (R39, R43, R44, R46, R48, R60) -/

section
variable {v : State} {l k : Nat} {flags : Byte} {f : Nat → State → State}

/-- A frame from sibling k for this member, over an Up link: direct over the sibling's own link, relayed over the other (R43). -/
theorem deliver_mine (up : v.link l = 2) (origin : sibOf v.pos (flags.toNat / 64) = some k) (dest : bitsOf flags.toNat 5 4 = v.pos)
    (way : flags.getLsbD 3 = (k != l)) : v.deliver l flags f = f k (v.sibHeard k (flags.getLsbD 3)) := by
  unfold State.deliver
  rw [origin]
  have passes : ¬ flags.getLsbD 3 = (k == l) := by simp [way, bne, -BitVec.getLsbD_eq_getElem]
  exact if_neg (by simp [up, dest, passes, -BitVec.getLsbD_eq_getElem])

/-- Any other frame delivers nothing. -/
theorem deliver_other (h : v.link l ≠ 2 ∨ sibOf v.pos (flags.toNat / 64) = none ∨ bitsOf flags.toNat 5 4 ≠ v.pos ∨
    (sibOf v.pos (flags.toNat / 64) = some k ∧ flags.getLsbD 3 = (k == l))) : v.deliver l flags f = v := by
  unfold State.deliver
  split
  next => rfl
  next j origin =>
    refine if_pos (h.imp_right ?_)
    rintro (stranger | dest | ⟨same, way⟩)
    · simp [stranger] at origin
    · exact .inl dest
    · cases origin.symm.trans same
      exact .inr way

end

section
/-! A good frame that arrives on a link `l` that receives, heard there as `v`. -/

variable {s t v : State} {l : Fin 2} {ns kind k : Nat} {flags : Byte} {seq : Word} {ref : DWord} {payload : List Byte} {crc : Word}
  {i : Instr} {f : Nat → State → State} (ha : s.awake = true) (hv : (s.at ns).linkHeard l.val = v)
include ha hv

/-- A good frame of a kind other than Health marks its link heard and is delivered. -/
theorem exec_receive_good (trained : v.link l.val ≠ 0) (whole : v.link l.val ≠ 4) (placed : v.pos ≠ 0)
    (good : badYarnan kind flags seq ref payload crc = false)
    (meaning : exec i s = coreAct s fun s => s.receive l.val ns kind flags seq ref payload crc f) :
    exec i s = .next ((v.deliver l.val flags f).queueOf s) := by
  subst hv
  exact exec_frame_good (exec_receive_eq ha rfl meaning) (not_or.mpr ⟨placed, not_or.mpr ⟨trained, whole⟩⟩) good

/-- One for this member brings its contents, its sibling marked heard. -/
theorem exec_receive_mine (up : v.link l.val = 2) (origin : sibOf v.pos (flags.toNat / 64) = some k)
    (dest : bitsOf flags.toNat 5 4 = v.pos) (way : flags.getLsbD 3 = (k != l.val)) (placed : v.pos ≠ 0)
    (good : badYarnan kind flags seq ref payload crc = false)
    (meaning : exec i s = coreAct s fun s => s.receive l.val ns kind flags seq ref payload crc f) :
    exec i s = .next ((f k (v.sibHeard k (flags.getLsbD 3))).queueOf s) := by
  rw [exec_receive_good ha hv (by omega) (by omega) placed good meaning, deliver_mine up origin dest way]

/-- One that is not for this member marks the link alone. -/
theorem exec_receive_other (trained : v.link l.val ≠ 0) (whole : v.link l.val ≠ 4) (placed : v.pos ≠ 0)
    (other : v.link l.val ≠ 2 ∨ sibOf v.pos (flags.toNat / 64) = none ∨ bitsOf flags.toNat 5 4 ≠ v.pos ∨
      (sibOf v.pos (flags.toNat / 64) = some k ∧ flags.getLsbD 3 = (k == l.val)))
    (good : badYarnan kind flags seq ref payload crc = false)
    (meaning : exec i s = coreAct s fun s => s.receive l.val ns kind flags seq ref payload crc f) :
    exec i s = .next (v.queueOf s) := by
  rw [exec_receive_good ha hv trained whole placed good meaning, deliver_other other]

/-- A good Health frame trains its link, if it is direct, and is then delivered. -/
theorem exec_healthFrame_good {u : State} {delay : Half} (trained : v.link l.val ≠ 0) (whole : v.link l.val ≠ 4) (placed : v.pos ≠ 0)
    (good : badYarnan 5 flags seq ref payload crc = false)
    (hu : (if flags.getLsbD 3 then v else v.trainLink l.val (flags.toNat / 64) delay.toNat) = u) :
    exec (.healthFrame l ns delay flags seq ref payload crc) s =
      .next ((u.deliver l.val flags fun k v => v.takeHealth k payload).queueOf s) := by
  subst hv hu
  exact exec_frame_good (exec_healthFrame_eq ha rfl) (not_or.mpr ⟨placed, not_or.mpr ⟨trained, whole⟩⟩) good

/-- A good frame over an Up link is sent on if it is a direct one for the other sibling, whose link is Up. -/
theorem exec_frameRelay_good {kind : Byte} (placed : v.pos ≠ 0) (up : v.link l.val = 2)
    (good : badYarnan kind.toNat flags seq ref payload crc = false) :
    exec (.frameRelay l ns kind flags seq ref payload crc) s =
      .next ((if flags.toNat / 64 = sibPos v.pos l.val ∧ bitsOf flags.toNat 5 4 = sibPos v.pos (1 - l.val) ∧ flags.getLsbD 3 = false ∧
        v.link (1 - l.val) = 2 then v.relayOn l.val kind flags seq ref payload crc else v).queueOf s) := by
  subst hv
  exact exec_frame_good (exec_frameRelay_eq ha rfl rfl) (not_or.mpr ⟨placed, not_not_intro up⟩) good

end

/-- The offset of sibling k by its Time frame, over the delay of the link and of a second hop (R48). -/
def State.takeOffset (w : State) (l k hop : Nat) (ref : DWord) (payload : List Byte) : State :=
  w.setPeer k fun p => { p with
    offset := some ((fieldAt payload 0 8 : Int) - ((w.now : Int) - (w.fld (.SIB_LINK_DELAY l) + hop : Nat)),
      (fieldAt payload 8 6 : Int) - (w.time.count : Int)),
    offRef := ref.toNat }

section
variable {s v t : State} {l : Fin 2} {ns k : Nat} {delay : Half} {flags : Byte} {seq : Word} {ref : DWord} {payload : List Byte}
  {crc : Word} (ha : s.awake = true) (hv : (s.at ns).linkHeard l.val = v) (ht : v.sibHeard k (flags.getLsbD 3) = t)
  (up : v.link l.val = 2) (origin : sibOf v.pos (flags.toNat / 64) = some k) (dest : bitsOf flags.toNat 5 4 = v.pos)
  (way : flags.getLsbD 3 = (k != l.val)) (placed : v.pos ≠ 0) (good : badYarnan 4 flags seq ref payload crc = false)
include ha hv ht up origin dest way placed good

/-- A direct Time frame: every 1,024th brings the link's delay as measured (R44). -/
theorem exec_timeFrame_direct (direct : flags.getLsbD 3 = false) : exec (.timeFrame l ns delay flags seq ref payload crc) s =
    .next ((if seq.toNat % 1024 = 0 then (t.put (.SIB_LINK_DELAY l.val) delay.toNat).takeOffset l.val k 0 ref payload
      else t.takeOffset l.val k 0 ref payload).queueOf s) := by
  rw [exec_receive_mine ha hv up origin dest way placed good exec_timeFrame, ht]
  simp only [direct, Bool.not_false, and_true, Bool.false_eq_true, if_false]
  split <;> rfl

/-- The second hop of a relayed Time frame is not measured, and its delay is free. -/
theorem exec_timeFrame_relayed (relayed : flags.getLsbD 3 = true) : exec (.timeFrame l ns delay flags seq ref payload crc) s =
    .next ((t.usedFree.takeOffset l.val k (t.freeVal.toNat % 65536) ref payload).queueOf s) := by
  rw [exec_receive_mine ha hv up origin dest way placed good exec_timeFrame, ht]
  simp only [relayed, Bool.not_true, Bool.false_eq_true, and_false, if_false, if_true]
  rfl

end

/-- Settles O33: a good frame by its delivery, to this member or to none, and on to the other sibling. -/
theorem siblingFrames : Obligations.SiblingFrames := by
  unfold Obligations.SiblingFrames
  intro s l ns delay kind flags seq ref payload crc k ha runs v relayed mine t good
  have hv : (s.at ns).linkHeard l.val = v := rfl
  refine ⟨fun up ⟨origin, dest, way⟩ placed => ?mine, fun trained whole placed other => ?other,
    fun trained whole placed good5 => ?health, fun placed up goodKind => ?relay⟩
  case mine =>
    refine ⟨fun g => (exec_receive_mine ha hv up origin dest way placed g exec_cycleImageFrame :),
      fun g => (exec_receive_mine ha hv up origin dest way placed g exec_voteFrame :),
      fun g => (exec_receive_mine ha hv up origin dest way placed g exec_groupHashFrame :), fun g => ?time,
      fun g => (exec_receive_mine ha hv up origin dest way placed g exec_bulkFrame :)⟩
    case time =>
      have measured := exec_timeFrame_direct (delay := delay) ha hv rfl up origin dest way placed g
      exact ⟨fun direct => exec_guard_fails (measured direct), fun direct => exec_guard_holds (measured direct),
        exec_timeFrame_relayed ha hv rfl up origin dest way placed g⟩
  case other =>
    exact ⟨fun g => exec_receive_other ha hv trained whole placed other g exec_cycleImageFrame,
      fun g => exec_receive_other ha hv trained whole placed other g exec_voteFrame,
      fun g => exec_receive_other ha hv trained whole placed other g exec_groupHashFrame,
      fun g => exec_receive_other ha hv trained whole placed other g exec_timeFrame,
      fun g => exec_receive_other ha hv trained whole placed other g exec_bulkFrame⟩
  case health =>
    intro u
    have heard := exec_healthFrame_good ha hv trained whole placed good5 (rfl : _ = u)
    refine ⟨fun up origin dest way => ?_, fun other => ?_⟩
    · exact heard.trans (by rw [deliver_mine up origin dest way])
    · exact heard.trans (by rw [deliver_other other])
  case relay =>
    have passing := exec_frameRelay_good ha hv placed up goodKind
    exact ⟨exec_guard_holds passing, exec_guard_fails passing⟩

/-! ### Supervision (R48, R55, R65, R66, R309) -/

section
variable {s t : State} {k : Fin 2} {ns : Nat} (ha : s.awake = true) (ht : s.at ns = t)
include ha ht

theorem exec_healthFrameSend_eq : exec (.healthFrameSend ns) s =
    .next (((t.setAdc fun a => { a with sent := t.ownAins }).sendHealth (t.role t.pos == 4)).queueOf s) := by
  subst ht
  exact exec_healthFrameSend.trans (coreAct_run _ ha)

/-- The exchange in progress ends with the last voting sibling's offset, or SIB_CYC_TMO after it began. -/
theorem exec_timeExchangeComplete_some {r : Nat} (inProgress : t.sib.timeRef = some r) : exec (.timeExchangeComplete ns) s =
    .next ((if (t.heldOffsets r).length = t.votingSibs.length ∨ t.sib.timeSent + t.fld .SIB_CYC_TMO * 1000 ≤ t.now then
      t.timeExchange r else t).queueOf s) := by
  subst ht
  rw [exec_timeExchangeComplete, execTimeExchangeComplete, coreAct_run _ ha]
  simp only [inProgress]

theorem exec_timeExchangeComplete_none (closed : t.sib.timeRef = none) : exec (.timeExchangeComplete ns) s = .next (t.queueOf s) := by
  subst ht
  rw [exec_timeExchangeComplete, execTimeExchangeComplete, coreAct_run _ ha]
  simp only [closed]

theorem exec_siblingLost_eq : exec (.siblingLost k ns) s =
    .next ((if t.pos ≠ 0 ∧ (t.peer k.val).lost = false ∧ (t.peer k.val).heardAt + t.fld .SIB_LOST_T_LOST * 1000 ≤ t.now then
      t.loseSibling k.val else t).queueOf s) := by
  subst ht
  exact exec_siblingLost.trans (coreAct_run _ ha)

end

/-! The 20 bits of an isolation frame, as numbers and as the fields of its word. -/

theorem isoFrame_mask (f : BitVec 20) : bitsOf f.toNat 10 3 = (f.extractLsb' 3 8).toNat := rfl

theorem isoFrame_origin (f : BitVec 20) : bitsOf f.toNat 2 1 = (f.extractLsb' 1 2).toNat := rfl

/-- The complement as a number against the complement as a word. -/
theorem isoFrame_complement_iff (f : BitVec 20) :
    bitsOf f.toNat 18 11 = 255 - bitsOf f.toNat 10 3 ↔ f.extractLsb' 11 8 = ~~~ f.extractLsb' 3 8 := by
  rw [BitVec.toNat_eq, BitVec.toNat_not]
  exact Iff.rfl

/-- An isolation frame for sibling k's line is valid: start bit, origin, complement, stop bit (R66). -/
def State.isoValid (s : State) (k : Nat) (f : BitVec 20) : Prop :=
  f.getLsbD 0 = false ∧ (f.extractLsb' 1 2).toNat = sibPos s.pos k ∧ f.extractLsb' 11 8 = ~~~ f.extractLsb' 3 8 ∧ f.getLsbD 19 = true

/-- What the command checks of the frame's number is its validity. -/
theorem isoValid_iff {s : State} {k : Nat} {f : BitVec 20} :
    (f.toNat % 2 = 0 ∧ bitsOf f.toNat 2 1 = sibPos s.pos k ∧ bitsOf f.toNat 18 11 = 255 - bitsOf f.toNat 10 3 ∧
      bitOf f.toNat 19 = true) ↔ s.isoValid k f := by
  rw [isoFrame_complement_iff, isoFrame_origin]
  have start : f.toNat % 2 = 0 ↔ f.getLsbD 0 = false := by simp [BitVec.getLsbD]
  exact and_congr_left' start

theorem not_isoValid_iff {s : State} {k : Nat} {f : BitVec 20} : ¬ s.isoValid k f ↔ f.getLsbD 0 = true ∨
    (f.extractLsb' 1 2).toNat ≠ sibPos s.pos k ∨ f.extractLsb' 11 8 ≠ ~~~ f.extractLsb' 3 8 ∨ f.getLsbD 19 = false := by
  simp only [State.isoValid, not_and_or, Bool.not_eq_false, Bool.not_eq_true, ne_eq]

section
variable {s : State} {k : Fin 2} (ha : s.awake = true)
include ha

/-- At position S no line counts. -/
theorem exec_isolationFrame_single {f : BitVec 20} (single : s.pos = 0) : exec (.isolationFrame k f) s = .next s :=
  (exec_isolationFrame.trans (coreAct_run _ ha)).trans (by rw [if_pos single, queueOf_self])

/-- A valid frame sets its line's mask. -/
theorem exec_isolationFrame_valid {f : BitVec 20} (placed : s.pos ≠ 0) (valid : s.isoValid k.val f) :
    exec (.isolationFrame k f) s = .next (((((s.setLine k.val (f.extractLsb' 3 8).toNat false).setSib fun x =>
      { x with isoMiss := Sparse.put 0 x.isoMiss k.val 0 }).isoUpdate.learnOwn)).queueOf s) :=
  (exec_isolationFrame.trans (coreAct_run _ ha)).trans (by rw [if_neg placed, if_pos (isoValid_iff.mpr valid), isoFrame_mask])

/-- A bad one fails its line, on which every switch's vote is open. -/
theorem exec_isolationFrame_bad {f : BitVec 20} (placed : s.pos ≠ 0) (bad : ¬ s.isoValid k.val f) :
    exec (.isolationFrame k f) s = .next ((s.setLine k.val 0xFF true).isoUpdate.queueOf s) :=
  (exec_isolationFrame.trans (coreAct_run _ ha)).trans (by rw [if_neg placed, if_neg (mt isoValid_iff.mp bad)])

theorem exec_isolationLineTimeout_eq : exec (.isolationLineTimeout k) s =
    .next ((if s.pos ≠ 0 ∧ 2 ≤ Sparse.at 0 s.sib.isoMiss k.val then (s.setLine k.val 0xFF true).isoUpdate else s).queueOf s) :=
  exec_isolationLineTimeout.trans (coreAct_run _ ha)

theorem exec_legDeviation_eq {n : Fin 8} : exec (.legDeviation k n) s =
    .next ((if s.pos = 0 then s else s.legDeviates k.val n.val).queueOf s) :=
  exec_legDeviation.trans (coreAct_run _ ha)

end

/-- Settles O34: each command by its guard, an isolation frame by the fields of its word. -/
theorem siblingSupervision : Obligations.SiblingSupervision := by
  unfold Obligations.SiblingSupervision
  intro s ns k n f ha runs t
  have lost := exec_siblingLost_eq (k := k) ha (rfl : s.at ns = t)
  have silent := exec_isolationLineTimeout_eq (k := k) ha
  have leg := exec_legDeviation_eq (k := k) (n := n) ha
  refine ⟨exec_healthFrameSend_eq ha rfl, fun r inProgress => ?exchange, exec_timeExchangeComplete_none ha rfl,
    ⟨exec_guard_holds lost, exec_guard_fails lost⟩, fun single => ?single, fun placed => ?triplet⟩
  case exchange =>
    have ends := exec_timeExchangeComplete_some ha (rfl : s.at ns = t) inProgress
    exact ⟨exec_guard_holds ends, exec_guard_fails ends⟩
  case single =>
    exact ⟨exec_isolationFrame_single ha single, exec_guard_fails silent (by tauto), exec_guard_holds leg single⟩
  case triplet =>
    have deviates := exec_guard_fails leg placed
    exact ⟨fun bad => exec_isolationFrame_bad ha placed (not_isoValid_iff.mpr bad), fun start origin complement stop =>
        exec_isolationFrame_valid ha placed ⟨start, origin, complement, stop⟩,
      fun missed => exec_guard_holds silent ⟨placed, missed⟩, fun heard => exec_guard_fails silent (by omega),
      exec_guard_holds deviates, exec_guard_fails deviates⟩

/-! ### The rejoin (R59 to R61, R437) -/

section
variable {s : State} (ha : s.awake = true)
include ha

/-- Outside the copy, and at position S, nothing is complete. -/
theorem exec_bulkCopyComplete_idle (h : s.fld .SIB_REJOIN_STAT_PHASE ≠ 3 ∨ s.pos = 0) : exec .bulkCopyComplete s = .next s :=
  exec_guard_holds (exec_bulkCopyComplete.trans (coreAct_run _ ha)) h

section
variable (copying : s.fld .SIB_REJOIN_STAT_PHASE = 3) (placed : s.pos ≠ 0)
include copying placed

/-- On a member that does not vote the shadow period begins, if it may rejoin. -/
theorem exec_bulkCopyComplete_joiner (joins : s.role s.pos ≠ 3) :
    exec .bulkCopyComplete s = .next ((if s.mayRejoin then s.beginShadow else s).queueOf s) :=
  (exec_bulkCopyComplete.trans (coreAct_run _ ha)).trans (by rw [if_neg (by simp [copying, placed]), if_neg joins])

/-- A voting member has sent the copy, and the joiner is in shadow. -/
theorem exec_bulkCopyComplete_voting {k : Nat} (votes : s.role s.pos = 3) (joiner : sibOf s.pos (s.fld .SIB_REJOIN_ADMIT_POS) = some k) :
    exec .bulkCopyComplete s = .next (((((s.sendBulk k).setRole (s.fld .SIB_REJOIN_ADMIT_POS) 2).put .SIB_REJOIN_STAT_PHASE 4).put
      .SIB_REJOIN_STAT_SHADOW_DONE 0 |>.setSib fun x =>
        { x with windows := Sparse.put 0 x.windows (s.fld .SIB_REJOIN_ADMIT_POS) 0 }).queueOf s) := by
  rw [exec_bulkCopyComplete, execBulkCopyComplete, coreAct_run _ ha, if_neg (by simp [copying, placed]), if_pos votes]
  simp only [joiner]

theorem exec_bulkCopyComplete_noJoiner (votes : s.role s.pos = 3) (joiner : sibOf s.pos (s.fld .SIB_REJOIN_ADMIT_POS) = none) :
    exec .bulkCopyComplete s = .next s := by
  rw [exec_bulkCopyComplete, execBulkCopyComplete, coreAct_run _ ha, if_neg (by simp [copying, placed]), if_pos votes]
  simp only [joiner, queueOf_self]

end

theorem exec_bulkCopyTimeout_eq {t : State} {ns : Nat} (ht : s.at ns = t) : exec (.bulkCopyTimeout ns) s =
    .next ((if t.fld .SIB_REJOIN_STAT_PHASE = 3 ∧ t.sib.bulkAt + 200000000 ≤ t.now then t.rejoinFail 2 else t).queueOf s) := by
  subst ht
  exact exec_bulkCopyTimeout.trans (coreAct_run _ ha)

theorem exec_rejoinImageReceived_eq {header body : List Byte} : exec (.rejoinImageReceived header body) s =
    .next ((if s.pos ≠ 0 ∧ s.mayRejoin = true ∧ s.fld .SIB_REJOIN_STAT_PHASE ≠ 3 ∧ s.fld .SIB_REJOIN_STAT_PHASE ≠ 4 then
      s.rejoinImage header body else s).queueOf s) :=
  exec_rejoinImageReceived.trans (coreAct_run _ ha)

theorem exec_shadowComplete_eq {q : Nat} (hq : s.fld .SIB_REJOIN_ADMIT_POS = q) : exec .shadowComplete s =
    .next ((if s.role s.pos = 3 ∧ s.fld .SIB_REJOIN_STAT_PHASE = 4 ∧ s.role q = 2 ∧ s.sib.wgrp.isNone = true ∧
      (s.group s.wgrpNo).weir = false ∧ s.fld .SIB_REJOIN_SHADOW_CYC ≤ s.fld .SIB_REJOIN_STAT_SHADOW_DONE then
      s.weirStage (0x20 + q) else s).queueOf s) := by
  subst hq
  exact exec_shadowComplete.trans (coreAct_run _ ha)

end

/-- 60 s have passed since the last admission of a position by AUTO_REJOIN, if there was one (R59). -/
def State.intervalOver (t : State) (p : Nat) : Bool :=
  match Sparse.at none t.sib.admitAt p with
  | none => true
  | some a => decide (a + 60000000000 ≤ t.now)

theorem intervalOver_iff {t : State} {p : Nat} :
    t.intervalOver p = true ↔ ∀ a, Sparse.at none t.sib.admitAt p = some a → a + 60000000000 ≤ t.now := by
  unfold State.intervalOver
  split
  next never => simp [never]
  next a last => simp [last]

theorem exec_autoRejoinAdmission_eq {s t : State} {p : Fin 4} {ns : Nat} (ha : s.awake = true) (ht : s.at ns = t) :
    exec (.autoRejoinAdmission p ns) s =
    .next ((if t.pos ≠ 0 ∧ t.role t.pos = 3 ∧ t.flag .SIB_CTRL_AUTO_REJOIN = true ∧ t.admissible p.val = true ∧
        (t.fld .SIB_REJOIN_STAT_PHASE = 0 ∨ 5 ≤ t.fld .SIB_REJOIN_STAT_PHASE) ∧ t.intervalOver p.val = true ∧
        t.sib.wgrp.isNone = true ∧ (t.group t.wgrpNo).weir = false then
      (t.setSib fun x => { x with admitAt := Sparse.put none x.admitAt p.val (some t.now) }).weirStage (0x10 + p.val)
      else t).queueOf s) := by
  subst ht
  exact exec_autoRejoinAdmission.trans (coreAct_run _ ha)

/-- Settles O35: each command by its guard, the end of the copy by the member's role. -/
theorem rejoin : Obligations.Rejoin := by
  unfold Obligations.Rejoin
  intro s ns p header body ha runs t ph q
  have ht : s.at ns = t := rfl
  clear_value t
  have expires := exec_bulkCopyTimeout_eq ha ht
  have image := exec_rejoinImageReceived_eq (header := header) (body := body) ha
  have shadow := exec_shadowComplete_eq ha (rfl : _ = q)
  have admission := exec_autoRejoinAdmission_eq (p := p) ha ht
  simp only [intervalOver_iff, Option.isNone_iff_eq_none] at shadow admission
  refine ⟨fun copying placed => ?copied, exec_bulkCopyComplete_idle ha,
    fun copying late => exec_guard_holds expires ⟨copying, late⟩, fun h => exec_guard_fails expires (by omega),
    fun placed may notCopying notShadow => exec_guard_holds image ⟨placed, may, notCopying, notShadow⟩,
    fun h => exec_guard_fails image ?noImage, ⟨exec_guard_holds shadow, exec_guard_fails shadow⟩,
    ⟨exec_guard_holds admission, exec_guard_fails admission⟩⟩
  case copied =>
    have joiner := exec_bulkCopyComplete_joiner ha copying placed
    exact ⟨fun joins => exec_guard_holds (joiner joins), fun joins may => exec_guard_fails (joiner joins) (by simp [may]),
      fun votes => ⟨fun _ => exec_bulkCopyComplete_voting ha copying placed votes,
        exec_bulkCopyComplete_noJoiner ha copying placed votes⟩⟩
  case noImage =>
    rintro ⟨placed, may, notCopying, notShadow⟩
    rcases h with single | mayNot | copying | shadows
    · exact placed single
    · simp [may] at mayNot
    · exact notCopying copying
    · exact notShadow shadows

end Sys2Proof.Machine
end

/-! PROOFS. The phases of a scan cycle, by what each start, wait and overrun finds (R54, R209, R210, R212, R441), and the vote of a word
(R50, R53, R58, R440). -/

section
namespace Sys2Proof.Machine

/-! ### The next cycle (R54, R209, R210, R441) -/

theorem nextCycle_stopped {t : State} (run : t.flag .SCN_STAT_RUN = false) : t.nextCycle = t := if_pos (by simp [run])

/-- The first voting sibling whose complete image a joiner takes its numbering from. -/
def State.numberingSib (t : State) : Option Nat :=
  t.votingSibs.find? fun k => (t.peer k).complete && (t.peer k).cycle != zeroRef

section
variable {t : State} (run : t.flag .SCN_STAT_RUN = true)
include run

/-- A joiner waits for a sibling's numbering. -/
theorem nextCycle_shadow_none (shadow : t.shadowWaits = true) (unnumbered : t.numberingSib = none) : t.nextCycle = t := by
  rw [State.nextCycle, if_neg (by simp [run]), if_pos shadow]
  rw [State.numberingSib] at unnumbered
  simp only [unnumbered]

/-- A joiner starts with the cycle that follows its sibling's. -/
theorem nextCycle_shadow_some {m : Nat} (shadow : t.shadowWaits = true) (numbered : t.numberingSib = some m) :
    t.nextCycle = (t.shadowView (t.peer m).cycle).startWith (t.peer m).cycle ((t.peer m).cycle + 1) true := by
  rw [State.nextCycle, if_neg (by simp [run]), if_pos shadow]
  rw [State.numberingSib] at numbered
  simp only [numbered]

variable (noShadow : t.shadowWaits = false)
include noShadow

/-- Cycle 0 starts with the siblings' latches. -/
theorem nextCycle_zero (zero : t.scn.zero = true ∧ t.fld .SCN_STAT_PHASE = 0) :
    t.nextCycle = if t.zeroLatch.siblingsReady zeroRef then t.zeroLatch.startWith zeroRef 0 true else t.zeroLatch := by
  rw [State.nextCycle, if_neg (by simp [run]), if_neg (by simp [noShadow]), if_pos zero]

variable (notZero : ¬ (t.scn.zero = true ∧ t.fld .SCN_STAT_PHASE = 0))
include notZero

theorem nextCycle_inProgress (phase : t.fld .SCN_STAT_PHASE ≠ 6) : t.nextCycle = t := by
  rw [State.nextCycle, if_neg (by simp [run]), if_neg (by simp [noShadow]), if_neg notZero, if_pos phase]

variable (phase : t.fld .SCN_STAT_PHASE = 6)
include phase

/-- After phase 6 comes the cycle with the number that follows. -/
theorem nextCycle_follows (aligned : t.scn.waitAlign = false) : t.nextCycle = t.startWith t.scn.cycle (t.scn.cycle + 1) true := by
  rw [State.nextCycle, if_neg (by simp [run]), if_neg (by simp [noShadow]), if_neg notZero, if_neg (not_not_intro phase),
    if_neg (by simp [aligned])]

/-- After an overrun a sibling's later cycle is followed. -/
theorem nextCycle_later {m : Nat} (waits : t.scn.waitAlign = true) (later : t.laterCycle t.scn.overrun = some m) :
    t.nextCycle = t.startWith m (m + 1) false := by
  rw [State.nextCycle, if_neg (by simp [run]), if_neg (by simp [noShadow]), if_neg notZero, if_neg (not_not_intro phase), if_pos waits]
  simp only [later]

/-- With no later cycle at hand a member alone starts from its own latch, any other waits. -/
theorem nextCycle_noLater (waits : t.scn.waitAlign = true) (noLater : t.laterCycle t.scn.overrun = none) :
    t.nextCycle = if t.alone then t.takeLatch.startOwn (t.scn.overrun + 1) else t := by
  rw [State.nextCycle, if_neg (by simp [run]), if_neg (by simp [noShadow]), if_neg notZero, if_neg (not_not_intro phase), if_pos waits]
  simp only [noLater]

end

/-! ### The wait for images (R54, R210, R440, R441) -/

/-- SIB_CYC_TMO has passed since the wait began. -/
def State.imagesOverdue (t : State) : Prop := t.scn.imageAt + t.fld .SIB_CYC_TMO * 1000 ≤ t.now

theorem cycleTimeout_early {t : State} (early : ¬ t.imagesOverdue) : t.cycleTimeout = t := if_pos (Nat.lt_of_not_le early)

section
variable {t : State} (due : t.imagesOverdue)
include due

/-- A cycle in phase 5 votes what it holds. -/
theorem cycleTimeout_votes (phase : t.fld .SCN_STAT_PHASE = 5) : t.cycleTimeout = t.finishCycle := by
  rw [State.cycleTimeout, if_neg (Nat.not_lt_of_le due), if_pos phase]

variable (phase : t.fld .SCN_STAT_PHASE ≠ 5)
include phase

theorem cycleTimeout_stopped (run : t.flag .SCN_STAT_RUN = false) : t.cycleTimeout = t := by
  rw [State.cycleTimeout, if_neg (Nat.not_lt_of_le due), if_neg phase, if_pos (by simp [run])]

variable (run : t.flag .SCN_STAT_RUN = true)
include run

/-- Cycle 0 starts with the latches it holds. -/
theorem cycleTimeout_zero (zero : t.scn.zero = true ∧ t.fld .SCN_STAT_PHASE = 0) (noShadow : t.shadowWaits = false) :
    t.cycleTimeout = t.zeroLatch.startWith zeroRef 0 true := by
  rw [State.cycleTimeout, if_neg (Nat.not_lt_of_le due), if_neg phase, if_neg (by simp [run]), if_pos (by simp [zero, noShadow])]

variable (notZero : t.scn.zero = false ∨ t.fld .SCN_STAT_PHASE ≠ 0 ∨ t.shadowWaits = true)
include notZero

/-- After an overrun the member starts from its own latch; elsewhere nothing waits. -/
theorem cycleTimeout_align : t.cycleTimeout =
    if t.scn.waitAlign = true ∧ t.fld .SCN_STAT_PHASE = 6 then t.takeLatch.startOwn (t.scn.overrun + 1) else t := by
  have started : ¬ (t.scn.zero = true ∧ t.fld .SCN_STAT_PHASE = 0 ∧ (!t.shadowWaits) = true) := by
    rintro ⟨zero, first, noShadow⟩
    rcases notZero with unset | later | shadow
    · simp [unset] at zero
    · exact later first
    · simp [shadow] at noShadow
  rw [State.cycleTimeout, if_neg (Nat.not_lt_of_le due), if_neg phase, if_neg (by simp [run]), if_neg started]

end

/-! ### The commands of a cycle -/

section
variable {s t : State} {ns : Nat} (ha : s.awake = true) (ht : s.at ns = t)
include ha ht

theorem exec_scanCycleStart_eq {u : State} (next : t.nextCycle = u) : exec (.scanCycleStart ns) s = .next (u.queueOf s) := by
  subst ht next
  exact exec_scanCycleStart.trans (coreAct_run _ ha)

theorem exec_cycleImageTimeout_eq {u : State} (next : t.cycleTimeout = u) : exec (.cycleImageTimeout ns) s = .next (u.queueOf s) := by
  subst ht next
  exact exec_cycleImageTimeout.trans (coreAct_run _ ha)

theorem exec_phase4_eq : exec (.phase4 ns) s = .next ((if t.fld .SCN_STAT_PHASE = 3 then t.phase4 else t).queueOf s) := by
  subst ht
  exact exec_phase4.trans (coreAct_run _ ha)

/-- The vote in phase 5 waits for the siblings' images and hashes, or for the engine to have stopped. -/
theorem exec_vote_eq : exec (.vote ns) s =
    .next ((if t.fld .SCN_STAT_PHASE = 5 ∧
        ((t.siblingsReady t.scn.cycle = true ∧ t.hashesReady = true) ∨ t.flag .SCN_STAT_RUN = false) then
      t.finishCycle else t).queueOf s) := by
  subst ht
  rw [exec_vote, execVote, coreAct_run _ ha]
  simp only [Bool.and_eq_true]

theorem exec_scanCycleOverrun_eq : exec (.scanCycleOverrun ns) s =
    .next ((if 1 ≤ t.fld .SCN_STAT_PHASE ∧ t.fld .SCN_STAT_PHASE ≤ 5 ∧ t.scn.startAt + t.fld .SCN_CYC_MAX * 1000 < t.now then
      t.endCycle 1 (min 0xFFFFFF ((t.now - t.scn.startAt) / 1000)) else t).queueOf s) := by
  subst ht
  exact exec_scanCycleOverrun.trans (coreAct_run _ ha)

end

/-- The latch for cycle 0 is taken where a started engine waits for that cycle. -/
theorem exec_cycleZeroLatch_eq {s : State} (ha : s.awake = true) : exec .cycleZeroLatch s =
    .next ((if s.flag .SCN_STAT_RUN = true ∧ s.scn.zero = true ∧ s.fld .SCN_STAT_PHASE = 0 ∧ s.shadowWaits = false then s.zeroLatch
      else s).queueOf s) := by
  rw [exec_cycleZeroLatch, execCycleZeroLatch, coreAct_run _ ha]
  simp only [Bool.not_eq_true']

theorem zeroLatch_taken {s : State} (taken : s.scn.zeroTaken = true) : s.zeroLatch = s := if_pos taken

theorem zeroLatch_first {s u : State} (fresh : s.scn.zeroTaken = false)
    (hu : (s.takeLatch.setScn fun x => { x with zeroTaken := true, imageAt := s.now }) = u) :
    s.zeroLatch = u.sendPayloads 1 zeroRef (packRuns u.latchRuns) := by
  subst hu
  exact if_neg (by simp [fresh])

/-- Settles O41: each start, wait and end by its case. -/
theorem scanCycle : Obligations.ScanCycle := by
  unfold Obligations.ScanCycle
  intro s ns ha t ph run runs zero
  have ht : s.at ns = t := rfl
  have vote := exec_vote_eq ha ht
  have overrun := exec_scanCycleOverrun_eq ha ht
  have latch := exec_cycleZeroLatch_eq ha
  refine ⟨fun stopped => exec_scanCycleStart_eq ha ht (nextCycle_stopped stopped), fun started shadow => ?shadow,
    fun started noShadow first => ?first, fun started noShadow later => ?later, exec_guard_holds (exec_phase4_eq ha ht),
    exec_guard_fails (exec_phase4_eq ha ht), ?vote, ?timeout, ⟨exec_guard_holds overrun, exec_guard_fails overrun⟩, ?latch⟩
  case shadow =>
    exact ⟨fun unnumbered => exec_scanCycleStart_eq ha ht (nextCycle_shadow_none started shadow unnumbered),
      fun _ numbered => exec_scanCycleStart_eq ha ht (nextCycle_shadow_some started shadow numbered)⟩
  case first =>
    have begins := exec_scanCycleStart_eq ha ht (nextCycle_zero started noShadow first)
    exact ⟨exec_guard_holds begins, fun wait => exec_guard_fails begins (by simp [wait])⟩
  case later =>
    refine ⟨fun phase => exec_scanCycleStart_eq ha ht (nextCycle_inProgress started noShadow later phase),
      fun phase aligned => exec_scanCycleStart_eq ha ht (nextCycle_follows started noShadow later phase aligned),
      fun phase waits => ⟨fun _ held => exec_scanCycleStart_eq ha ht (nextCycle_later started noShadow later phase waits held), ?_⟩⟩
    have own := fun noLater => exec_scanCycleStart_eq ha ht (nextCycle_noLater started noShadow later phase waits noLater)
    exact ⟨fun noLater => exec_guard_holds (own noLater), fun noLater others => exec_guard_fails (own noLater) (by simp [others])⟩
  case vote =>
    intro held
    refine ⟨fun phase ready => exec_guard_holds vote ⟨phase, ready⟩, fun phase => exec_guard_fails vote fun h => phase h.1,
      fun missing started => exec_guard_fails vote ?_⟩
    rintro ⟨-, ready | stopped⟩
    · exact missing ready
    · exact absurd (started.symm.trans stopped) (by simp)
  case timeout =>
    intro due
    refine ⟨fun early => exec_cycleImageTimeout_eq ha ht (cycleTimeout_early early),
      fun late phase => exec_cycleImageTimeout_eq ha ht (cycleTimeout_votes late phase),
      fun late phase stopped => exec_cycleImageTimeout_eq ha ht (cycleTimeout_stopped late phase stopped),
      fun late started first noShadow => ?_, fun late started waits phase => ?_, fun late started phase notZero h => ?_⟩
    · exact exec_cycleImageTimeout_eq ha ht (cycleTimeout_zero late (first.2.trans_ne (by decide)) started first noShadow)
    · have started := cycleTimeout_align late (phase.trans_ne (by decide)) started (.inr (.inl (phase.trans_ne (by decide))))
      exact exec_guard_holds (exec_cycleImageTimeout_eq ha ht started) ⟨waits, phase⟩
    · have align := exec_cycleImageTimeout_eq ha ht (cycleTimeout_align late phase started notZero)
      exact exec_guard_fails align fun ⟨waits, six⟩ => h.elim (fun aligned => by simp [waits] at aligned) fun other => other six
  case latch =>
    intro due
    refine ⟨fun first fresh => ?_, fun h => ?_⟩
    · exact (exec_guard_holds latch first).trans (by rw [zeroLatch_first fresh rfl])
    · by_cases first : due
      · have taken := h.resolve_left (not_not_intro first)
        rw [exec_guard_holds latch first, zeroLatch_taken taken, queueOf_self]
      · exact exec_guard_fails latch first

/-! ### The vote of a word (R50, R53, R58, R440) -/

section
variable {s : State} {w p q r : Nat} {a b c : Word}

theorem voteWord_first_second (h : a = b) : s.voteWord [(p, a), (q, b), (r, c)] w = ⟨a, if a = c then 0 else r, false⟩ := if_pos h

theorem voteWord_first_third (differ : a ≠ b) (h : a = c) : s.voteWord [(p, a), (q, b), (r, c)] w = ⟨a, q, false⟩ :=
  (if_neg differ).trans (if_pos h)

theorem voteWord_second_third (differ : a ≠ b) (h : b = c) : s.voteWord [(p, a), (q, b), (r, c)] w = ⟨b, p, false⟩ :=
  (if_neg differ).trans ((if_neg (h ▸ differ)).trans (if_pos h))

/-- Three words of which no two agree are undecided. -/
theorem voteWord_apart (ab : a ≠ b) (bc : b ≠ c) (ac : a ≠ c) :
    s.voteWord [(p, a), (q, b), (r, c)] w = ⟨s.splitValue w, 0, true⟩ :=
  (if_neg ab).trans ((if_neg ac).trans (if_neg bc))

/-- A word that two of three images hold is the voted one. -/
theorem voteWord_majority {x : Word} (h : x = a ∧ x = b ∨ x = a ∧ x = c ∨ x = b ∧ x = c) :
    (s.voteWord [(p, a), (q, b), (r, c)] w).value = x ∧ (s.voteWord [(p, a), (q, b), (r, c)] w).split = false := by
  by_cases ab : a = b
  · rw [voteWord_first_second ab]
    exact ⟨by rcases h with ⟨xa, -⟩ | ⟨xa, -⟩ | ⟨xb, -⟩ <;> simp [*], rfl⟩
  · rcases h with ⟨rfl, xb⟩ | ⟨rfl, xc⟩ | ⟨rfl, xc⟩
    · exact absurd xb ab
    · simp [voteWord_first_third ab xc]
    · simp [voteWord_second_third ab xc]

end

/-- Settles O42: by which of the words agree. -/
theorem wordVotes : Obligations.WordVotes := by
  unfold Obligations.WordVotes
  intro s w p q r a b c
  refine ⟨fun ab => voteWord_majority (.inl ⟨rfl, ab⟩), fun ac => voteWord_majority (.inr (.inl ⟨rfl, ac⟩)),
    fun bc => voteWord_majority (.inr (.inr ⟨rfl, bc⟩)), fun ab bc => ?third, fun ac ab => ?second, fun bc ab => ?first,
    fun ab bc => ?none, voteWord_apart, fun ab => if_neg ab, if_pos rfl, rfl, fun free => ?free, fun v safe => ?safe⟩
  case third => rw [voteWord_first_second ab, if_neg (ab ▸ bc)]
  case second => rw [voteWord_first_third ab ac]
  case first => rw [voteWord_second_third ab bc]
  case none => rw [voteWord_first_second ab, if_pos (ab.trans bc)]
  case free => rw [State.splitValue, free, Option.getD_none]
  case safe => rw [State.splitValue, safe, Option.getD_some]

end Sys2Proof.Machine
end

/-! PROOFS. Commit groups: what a command of the host does to a group by the group's state, how a staged write is taken, what an Applying
group and an outcome do (R71 to R76, R79, R82 to R85). -/

section
namespace Sys2Proof.Machine

/-! ### Opening and arming (R75, R76) -/

section
variable {s : State} {g p : Nat}

theorem openGroup_free (free : (s.group g).state = 0) (may : s.mayOpen = true) : s.openGroup g p = (s.openNow g false, true) :=
  if_neg (by simp [free, may])

theorem openGroup_refused (h : (s.group g).state ≠ 0 ∨ s.mayOpen = false) : s.openGroup g p = (s.refuse p 0x1C g, false) :=
  if_pos (by simpa using h)

/-- A group opened is Open and empty; every other group stays. -/
theorem openNow_groups (weir : Bool) (wf : Sparse.wf (fun _ => ({} : Group)) s.txn = true) :
    ((s.openNow g weir).group g).state = 1 ∧ ((s.openNow g weir).group g).entries = [] ∧
      ∀ h, h ≠ g → (s.openNow g weir).group h = s.group h := by
  rw [State.openNow, setGroup_same g _ wf]
  exact ⟨rfl, rfl, fun h other => setGroup_other _ other wf⟩

theorem armGroup_refused {c : Nat} (h : s.armRefusal g = some c) : s.armGroup g p = (s.refuse p c g, false) := by
  rw [State.armGroup, h]

theorem armGroup_armed (h : s.armRefusal g = none) : s.armGroup g p = ((s.armNow g).immediate g, true) := by
  rw [State.armGroup, h]

/-! ### Aborting (R83) -/

theorem abortCmd_open (isOpen : (s.group g).state = 1) : s.abortCmd g = s.abortGroup g 2 := if_pos isOpen

/-- An Armed or Agreed group aborts; where hashes are exchanged the siblings are told, and a vote held gives ABORT_VOTE. -/
theorem abortCmd_armed (armed : (s.group g).state = 2 ∨ (s.group g).state = 3) : s.abortCmd g =
    if s.noHashes then s.abortGroup g 2
    else (s.sendBoth 3 (groupRef g 1 (s.boundTime g)) true (s.hashPayload (s.group g).hash)).abortGroup g
      (if Sparse.at false (s.group g).sibVote 0 || Sparse.at false (s.group g).sibVote 1 then 7 else 2) :=
  (if_neg (by omega)).trans (if_pos armed)

theorem abortCmd_stays (h : (s.group g).state = 0 ∨ 4 ≤ (s.group g).state) : s.abortCmd g = s :=
  (if_neg (by omega)).trans (if_neg (by omega))

/-! ### The configuration of a group (R84) -/

theorem writeGrpCfg_ignored {v : Word} (h : (s.group g).state ≠ 1) : s.writeGrpCfg g v = s := if_pos h

/-- The configuration of an Open group is written, but a group that is neither Armed nor Agreed is not superseded. -/
theorem writeGrpCfg_open {v : Word} {h : Nat} (hh : bitsOf v.toNat 19 16 = h) (isOpen : (s.group g).state = 1) : s.writeGrpCfg g v =
    if v.getLsbD 20 = true ∧ ¬ ((s.group h).state = 2 ∨ (s.group h).state = 3) then s.refuse 0x08 0x19 h
    else s.store (· == .rw) (0x8080 + 4 * g) v := by
  subst hh
  rw [State.writeGrpCfg, if_neg (not_not_intro isOpen)]
  simp only [bitOf, BitVec.getLsbD, Bool.not_eq_true', decide_eq_false_iff_not]

/-! ### Staged writes (R71 to R73, R436) -/

variable {t : Target} {v : Word}

theorem hostStage_selected (unlocked : s.locked p = false) (selected : s.flag (.TXN_SEL_EN p) = true) :
    s.hostStage p t v = (s.stage (s.fld (.TXN_SEL_GROUP p)) t v true p).1 := by
  simp [State.hostStage, unlocked, selected]

theorem hostStage_noGroup (unlocked : s.locked p = false) (unselected : s.flag (.TXN_SEL_EN p) = false) :
    s.hostStage p t v = s.refuse p 0x10 t.adr := by
  simp [State.hostStage, unlocked, unselected]

/-- A lock on the page refuses the write, and with it the selected group. -/
theorem hostStage_locked (locked : s.locked p = true) : s.hostStage p t v =
    if s.flag (.TXN_SEL_EN p) then (s.refuse p 0x0F (if t.basin then 0x804C else t.adr)).setGroup (s.fld (.TXN_SEL_GROUP p)) fun x =>
      { x with refused := true }
    else s.refuse p 0x0F (if t.basin then 0x804C else t.adr) := if_pos locked

end

/-! ### The commands of the host -/

/-- A host that may write a page finds it unlocked. -/
theorem hostMay_unlocked {s : State} {p : Nat} (may : s.hostMay p = true) : s.locked p = false := by
  simp only [State.hostMay, Bool.and_eq_true, Bool.not_eq_true'] at may
  exact may.2

section
variable {s : State} {g : Fin 16} (may : s.hostMay 8 = true)
include may

theorem exec_txnOpen_eq : exec (.txnOpen g) s = .next ((s.openGroup g.val 0x08).1.queueOf s) :=
  exec_txnOpen.trans (hostAct_run _ may)

theorem exec_txnArm_eq : exec (.txnArm g) s = .next ((s.armGroup g.val 0x08).1.queueOf s) :=
  exec_txnArm.trans (hostAct_run _ may)

theorem exec_txnAbort_eq : exec (.txnAbort g) s = .next ((s.abortCmd g.val).queueOf s) :=
  exec_txnAbort.trans (hostAct_run _ may)

theorem exec_txnGrpCfgWrite_eq {v : Word} : exec (.txnGrpCfgWrite g v) s = .next ((s.writeGrpCfg g.val v).queueOf s) :=
  exec_txnGrpCfgWrite.trans (hostAct_run _ may)

theorem exec_txnOpen_free (free : (s.group g.val).state = 0) (opens : s.mayOpen = true) :
    exec (.txnOpen g) s = .next ((s.openNow g.val false).queueOf s) := by
  rw [exec_txnOpen_eq may, openGroup_free free opens]

/-- The group alone changes: it is Open and empty, and registers, Basin and every other group stay. -/
theorem exec_txnOpen_frame (free : (s.group g.val).state = 0) (opens : s.mayOpen = true)
    (wf : Sparse.wf (fun _ => ({} : Group)) s.txn = true) :
    ∃ t, exec (.txnOpen g) s = .next t ∧ (t.group g.val).state = 1 ∧ (t.group g.val).entries = [] ∧ t.regs = s.regs ∧
      t.basin = s.basin ∧ ∀ h, h ≠ g.val → t.group h = s.group h := by
  obtain ⟨isOpen, empty, others⟩ := openNow_groups (g := g.val) false wf
  exact ⟨_, exec_txnOpen_free may free opens, isOpen, empty, rfl, rfl, others⟩

end

theorem exec_txnStageDataWrite_eq {s : State} {v : Word} (ha : s.awake = true) : exec (.txnStageDataWrite v) s =
    .next ((s.hostStage 0x08 ⟨true, s.fld .TXN_STAGE_ADDR_WADDR⟩ v).queueOf s) :=
  exec_txnStageDataWrite.trans (coreAct_run _ ha)

/-- A write to a register with staged fields, on a page whose domain is on, is staged. -/
theorem exec_rwsWrite_eq {s : State} {adr : BitVec 18} {a : Nat} {v : Word} (ha : s.awake = true) (hadr : adr.toNat = a) :
    exec (.rwsWrite adr v) s = .next ((if a % 4 = 0 ∧ hasAcc .rws a = true ∧ s.domainOff (pageDomain (a / 0x1000)) = false then
      s.hostStage (a / 0x1000) ⟨false, a⟩ v else s).queueOf s) := by
  subst hadr
  rw [exec_rwsWrite, execRwsWrite, coreAct_run _ ha]
  simp only [Bool.not_eq_true']

/-! ### Boundaries and applying (R79, R85) -/

theorem exec_groupBoundary_eq {s t : State} {g : Fin 16} (ha : s.awake = true)
    (ht : (if s.groupDue g.val (s.time.edge - 1) then s.at (s.group g.val).bound else s).stoppedSlots = t) :
    exec (.groupBoundary g) s = .next ((if t.groupDue g.val t.now = true then t.dueGroups else t).queueOf s) := by
  subst ht
  exact exec_groupBoundary.trans (coreAct_run _ ha)

/-- An Applying group opens its locked sequences, and goes on where no other requester holds a bank it needs. -/
theorem applyBasin_eq {s t : State} {g : Nat} (ht : s.takeBanks (s.group g).entries = t) :
    s.applyBasin g = if t.applyWaits (s.group g).entries = true then t else t.finishApply g := by
  subst ht
  rfl

section
variable {s : State} {g : Fin 16} (ha : s.awake = true)
include ha

/-- The edge that waited goes on once no group is Applying. -/
theorem exec_groupApply_applying {u : State} (applying : (s.group g.val).state = 4) (hu : s.applyBasin g.val = u) :
    exec (.groupApply g) s = .next ((if u.applying = true then u else u.endEdge).queueOf s) := by
  rw [exec_groupApply, execGroupApply, coreAct_run _ ha, ← hu]
  dsimp only
  rw [if_pos applying]

theorem exec_groupApply_other (other : (s.group g.val).state ≠ 4) (waits : s.applying = true) : exec (.groupApply g) s = .next s := by
  rw [exec_groupApply, execGroupApply, coreAct_run _ ha]
  dsimp only
  rw [if_neg other, if_pos waits, queueOf_self]

end

/-! ### Outcomes (R82) -/

section
variable {s : State} {g : Nat} {own : BitVec 128} {final : Bool}

theorem compareOutcomes_none (h : (s.group g).outcome = none) : s.compareOutcomes g final = s := by
  rw [State.compareOutcomes]
  dsimp only
  rw [h]

/-- Outcomes are compared once, when every voting sibling's is held or at the end of the repetition. -/
theorem compareOutcomes_some (h : (s.group g).outcome = some own) : s.compareOutcomes g final =
    if (s.group g).compared = false ∧ (final = true ∨ (s.heldOutcomes g false).length = s.votingSibs.length) then
      (s.judgeOutcomes g own final).setGroup g fun y => { y.retire with compared := true }
    else s := by
  rw [State.compareOutcomes]
  dsimp only
  rw [h]
  dsimp only
  rw [← ite_not]
  refine if_congr ?_ rfl rfl
  cases final <;> simp

end

section
variable {s : State} {g : Fin 16} (ha : s.awake = true)
include ha

theorem exec_outcomeCompare_eq : exec (.outcomeCompare g) s = .next ((s.compareOutcomes g.val false).queueOf s) :=
  exec_outcomeCompare.trans (coreAct_run _ ha)

theorem exec_outcomeRepeatEnd_eq : exec (.outcomeRepeatEnd g) s =
    .next ((if (s.group g.val).reps = 0 then (s.compareOutcomes g.val true).setGroup g.val fun x => { x with outcome := none }
      else s).queueOf s) :=
  exec_outcomeRepeatEnd.trans (coreAct_run _ ha)

end

/-- Settles O36: a command of the host by the group's state, a staged write by the page's lock and selection, an Applying group by the
locks on its banks, a comparison by the outcomes held. -/
theorem commitGroups : Obligations.CommitGroups := by
  unfold Obligations.CommitGroups
  intro s g v adr runs
  refine ⟨fun may => ⟨fun free opens => ⟨exec_txnOpen_free may free opens, exec_txnOpen_frame may free opens⟩, fun h => ?openRefused,
      fun c refusal => ?armRefused, fun accepted => ?armed, ?abort, fun selected => ?staged, fun unselected => ?noGroup, ?config⟩,
    fun ha => ⟨?register, ?boundary, fun applying => ?apply, exec_groupApply_other ha, fun idle => ?noOutcome, fun own ended => ?compare,
      exec_guard_holds (exec_outcomeRepeatEnd_eq ha), exec_guard_fails (exec_outcomeRepeatEnd_eq ha)⟩⟩
  case openRefused => exact (exec_txnOpen_eq may).trans (by rw [openGroup_refused h])
  case armRefused => exact (exec_txnArm_eq may).trans (by rw [armGroup_refused refusal])
  case armed => exact (exec_txnArm_eq may).trans (by rw [armGroup_armed accepted])
  case abort =>
    have abort := exec_txnAbort_eq (g := g) may
    intro x armed voted
    have vote (h : armed) := abort.trans (by rw [abortCmd_armed h])
    refine ⟨fun isOpen => ?_, fun h noHashes => exec_guard_holds (vote h) noHashes,
      fun h hashes => exec_guard_fails (vote h) (Bool.eq_false_iff.mp hashes), fun stays => ?_⟩
    · exact abort.trans (by rw [abortCmd_open isOpen])
    · rw [abort, abortCmd_stays stays, queueOf_self]
  case staged =>
    exact (exec_txnStageDataWrite_eq (hostMay_awake may)).trans (by rw [hostStage_selected (hostMay_unlocked may) selected])
  case noGroup =>
    exact (exec_txnStageDataWrite_eq (hostMay_awake may)).trans (by rw [hostStage_noGroup (hostMay_unlocked may) unselected])
  case config =>
    intro h chained
    have config (isOpen : (s.group g.val).state = 1) :=
      (exec_txnGrpCfgWrite_eq may).trans (by rw [writeGrpCfg_open (h := h) (v := v) rfl isOpen])
    refine ⟨fun closed => ?_, fun isOpen sup free => exec_guard_holds (config isOpen) ⟨sup, free⟩,
      fun isOpen unsup => exec_guard_fails (config isOpen) fun ⟨sup, free⟩ => ?_⟩
    · rw [exec_txnGrpCfgWrite_eq may, writeGrpCfg_ignored closed, queueOf_self]
    · exact unsup.elim (Bool.eq_false_iff.mp · sup) free
  case register =>
    intro a p takes
    have write := exec_rwsWrite_eq (v := v) ha (rfl : adr.toNat = a)
    refine ⟨fun h unlocked selected => ?_, fun h unlocked unselected => ?_, fun h locked selected => ?_,
      fun h locked unselected => ?_, exec_guard_fails write⟩
    · exact (exec_guard_holds write h).trans (by rw [hostStage_selected unlocked selected])
    · exact (exec_guard_holds write h).trans (by rw [hostStage_noGroup unlocked unselected])
    · exact (exec_guard_holds write h).trans (by rw [hostStage_locked locked, if_pos selected]; rfl)
    · exact (exec_guard_holds write h).trans (by rw [hostStage_locked locked, if_neg (Bool.eq_false_iff.mp unselected)]; rfl)
  case boundary =>
    intro t
    have boundary := exec_groupBoundary_eq (t := t) ha rfl
    exact ⟨exec_guard_holds boundary, fun early => exec_guard_fails boundary (Bool.eq_false_iff.mp early)⟩
  case apply =>
    intro t
    have apply := applyBasin_eq (t := t) rfl
    have waited (waits : t.applyWaits (s.group g.val).entries = true) :=
      exec_groupApply_applying ha applying (apply.trans (if_pos waits))
    have finished (goes : t.applyWaits (s.group g.val).entries = false) :=
      exec_groupApply_applying ha applying (apply.trans (if_neg (Bool.eq_false_iff.mp goes)))
    exact ⟨fun waits => exec_guard_holds (waited waits), fun goes => exec_guard_holds (finished goes),
      fun goes last => exec_guard_fails (finished goes) (Bool.eq_false_iff.mp last)⟩
  case noOutcome => rw [exec_outcomeCompare_eq ha, compareOutcomes_none idle, queueOf_self]
  case compare =>
    intro all
    have compare := (exec_outcomeCompare_eq ha).trans (by rw [compareOutcomes_some ended])
    refine ⟨fun fresh held => exec_guard_holds compare ⟨fresh, .inr held⟩, fun h => exec_guard_fails compare ?_⟩
    rintro ⟨fresh, held⟩
    exact h.elim (Bool.eq_false_iff.mp fresh) fun missing => missing (held.resolve_left Bool.false_ne_true)

end Sys2Proof.Machine
end

/-! PROOFS. Start-up by the power-good filter and by an image from the host, the join wait, FREEZE_N and the reset that follows the device
watchdog (R18, R27 to R30, R33, R34, R90, R416). -/

section
namespace Sys2Proof.Machine

/-- A command whose guard fails leaves the state. -/
theorem exec_guard_ignored {s t : State} {i : Instr} {c : Prop} [Decidable c] (runs : exec i s = .next ((if c then t else s).queueOf s))
    (h : ¬ c) : exec i s = .next s :=
  exec_guard_fails runs h

/-! ### Start-up (R25, R27, R30, R33) -/

theorem exec_powerGoodFilterExpiry_eq {s : State} {selfTestOk xtalOk plls : Bool} {pos boot : Fin 4} {aoAlm : Bool} :
    exec (.powerGoodFilterExpiry selfTestOk xtalOk plls pos boot aoAlm) s =
      .next ((if s.held ∧ s.mainOn ∧ s.mode = .startUp then s.release selfTestOk xtalOk plls pos boot aoAlm else s).queueOf s) := by
  rw [exec_powerGoodFilterExpiry, execPowerGoodFilterExpiry, effect_eq]

/-- The image in banks 8 to 15 tried: the join begins with it, or the state shows why it is refused (R33). -/
def State.tryHostImage (s : State) : State :=
  let load := s.loadImage (fun o n => s.bytes (0x02000000 + o) n) 3
  if load.2 then load.1.beginJoin else load.1

section
variable {s : State} (may : s.hostMay 0 = true)
include may

/-- Start-up takes an image from the host while none is applied and the straps name the host as a source. -/
theorem exec_sysBootCtrlGo_eq : exec .sysBootCtrlGo s =
    .next ((if s.mode = .startUp ∧ !s.applied ∧ (s.boot = 1 ∨ s.boot = 2) then s.tryHostImage else s).queueOf s) := by
  rw [exec_sysBootCtrlGo, execSysBootCtrlGo, hostAct_run _ may, State.tryHostImage]
  rcases s.loadImage (fun o n => s.bytes (0x02000000 + o) n) 3 with ⟨t, applied | refused⟩ <;> rfl

/-- During start-up a software reset is ignored without a code (assumption 82). -/
theorem exec_sysSwrstWrite_startUp (starts : s.mode = .startUp) : exec (.sysSwrstWrite 0xA5A5) s = .next s := by
  have dead : ¬ s.live = true := by simp [live_iff, starts]
  rw [exec_sysSwrstWrite, execSysSwrstWrite, hostAct_run _ may, if_neg (not_not_intro rfl), if_neg (by simp [starts]), if_neg dead,
    queueOf_self]

end

/-! ### The join wait (R18, R29, R47) -/

/-- The join wait is still to end: this member joins with an image applied, no set votes yet, and the Weir has no group to stage or
staged. -/
def State.joinWaits (s : State) : Prop :=
  s.joining = true ∧ s.applied = true ∧ s.setExists = false ∧ s.sib.wgrp = none ∧ (s.group s.wgrpNo).weir = false

section
variable {s : State} (ha : s.awake = true)
include ha

/-- At its end the join goes on with the siblings that agree, waits where a pair stands against this member, else ends in Commission. -/
theorem exec_joinWaitExpiry_waits (waits : s.joinWaits) : exec .joinWaitExpiry s =
    .next ((if s.agreeingSibs ≠ [] then s.joinDone else if s.pairAgainst then s else s.enterCommission 7).queueOf s) := by
  obtain ⟨joining, applied, unset, idle, notStaged⟩ := waits
  rw [exec_joinWaitExpiry, execJoinWaitExpiry, coreAct_run _ ha]
  simp [joining, applied, unset, idle, notStaged]

theorem exec_joinWaitExpiry_ignored (ended : ¬ s.joinWaits) : exec .joinWaitExpiry s = .next s := by
  rw [exec_joinWaitExpiry, execJoinWaitExpiry, coreAct_run _ ha, if_pos, queueOf_self]
  simp only [State.joinWaits, not_and_or] at ended
  simpa [Option.isSome_iff_ne_none] using ended

end

/-! ### The freeze and the watchdog's reset (R34, R90, R416) -/

/-- The device frozen, the time of the freeze kept. -/
def State.frozenAt (t : State) (ns : Nat) : State :=
  (({ t with mode := .frozen } : State).put64 0x31044 0x31048 ns).putB .SPR_STAT_FROZE true

theorem exec_freezeNLow_eq {s : State} : exec .freezeNLow s =
    .next ((if s.mode = .sleep ∨ s.mode = .frozen then s
      else (if s.awake then s.loseMode.sendHealth true else s).frozenAt s.now).queueOf s) := by
  rw [exec_freezeNLow, execFreezeNLow, effect_eq]
  rfl

theorem exec_weirWatchdogReset_eq {s : State} :
    exec .weirWatchdogReset s = .next ((if s.awake ∧ s.wdtPending then s.warmReset 3 else s).queueOf s) := by
  rw [exec_weirWatchdogReset, execWeirWatchdogReset, effect_eq]

/-- Settles O26: each command by its guard, the end of the join wait by the siblings that agree. -/
theorem startUpAndFreeze : Obligations.StartUpAndFreeze := by
  unfold Obligations.StartUpAndFreeze
  intro s load waits
  refine ⟨fun st xt pl p b al => ?filter, fun may => ?host, fun ha => ?join, ?freeze, fun ha pending => ?reset, fun h => ?noReset⟩
  case filter =>
    refine ⟨fun held on starts => exec_guard_holds exec_powerGoodFilterExpiry_eq ⟨held, on, starts⟩,
      fun h => exec_guard_ignored exec_powerGoodFilterExpiry_eq (by simpa [not_and_or, -not_and] using h)⟩
  case host =>
    have go := exec_sysBootCtrlGo_eq may
    exact ⟨fun starts fresh source => exec_guard_holds go ⟨starts, by simp [fresh], source⟩,
      fun h => exec_guard_ignored go (by simpa [not_and_or, -not_and] using h), exec_sysSwrstWrite_startUp may⟩
  case join =>
    have ends := exec_joinWaitExpiry_waits ha
    exact ⟨fun wait agree => exec_guard_holds (ends wait) agree,
      fun wait none against => (exec_guard_fails (ends wait) (not_not_intro none)).trans (by rw [if_pos against, queueOf_self]),
      fun wait none free => (exec_guard_fails (ends wait) (not_not_intro none)).trans (by rw [if_neg (Bool.eq_false_iff.mp free)]),
      exec_joinWaitExpiry_ignored ha⟩
  case freeze =>
    intro frozen
    refine ⟨fun up running => ?_, fun h => ?_⟩
    · have freezes := exec_guard_fails (exec_freezeNLow_eq (s := s)) (not_or.mpr ⟨up, running⟩)
      exact ⟨fun ha => freezes.trans (by rw [if_pos ha]; rfl),
        fun held => freezes.trans (by rw [if_neg (Bool.eq_false_iff.mp held)]; rfl)⟩
    · rw [exec_guard_holds exec_freezeNLow_eq h, queueOf_self]
  case reset => exact exec_guard_holds exec_weirWatchdogReset_eq ⟨ha, pending⟩
  case noReset => exact exec_guard_ignored exec_weirWatchdogReset_eq (by simpa [not_and_or, -not_and] using h)

end Sys2Proof.Machine
end

/-! PROOFS. The Weir's watchdogs, its clock monitor and the self-tests (R89, R90, R101, R163). -/

section
namespace Sys2Proof.Machine

/-! ### The clock monitor (R89) -/

/-- WIR_CLK_MON after a window: its count, whether it warns, and whether it fails. -/
def State.clockWindow (s : State) (n : Nat) (warn fail : Bool) : State :=
  ((s.put .WIR_CLK_MON_COUNT n).putB .WIR_CLK_MON_WARN warn).putB .WIR_CLK_MON_FAIL fail

section
variable {s : State} (ha : s.awake = true) {n : Nat}
include ha

/-- A window within the limits ends warning and failure. -/
theorem exec_clockMonitorWindow_within (low : 24750 ≤ n) (high : n ≤ 25250) : exec (.clockMonitorWindow n) s =
    .next (((s.clockWindow n false false).putB .WIR_ST_STAT_CLK_FAIL false).queueOf s) := by
  rw [exec_clockMonitorWindow, execClockMonitorWindow, coreAct_run _ ha]
  simp [State.clockWindow, show ¬ n < 24750 by omega, show ¬ 25250 < n by omega, show min 65535 n = n by omega]

variable (outside : n < 24750 ∨ 25250 < n)
include outside

/-- The first window outside them warns. -/
theorem exec_clockMonitorWindow_warns (first : s.flag .WIR_CLK_MON_WARN = false) :
    exec (.clockMonitorWindow n) s = .next ((s.clockWindow (min 65535 n) true false).queueOf s) := by
  have bad : (decide (n < 24750) || decide (25250 < n)) = true := by simpa using outside
  rw [exec_clockMonitorWindow, execClockMonitorWindow, coreAct_run _ ha]
  simp [State.clockWindow, bad, first]

/-- The next one fails, with an E3 unless the failure stands already (assumption 68). -/
theorem exec_clockMonitorWindow_fails {t : State} (warned : s.flag .WIR_CLK_MON_WARN = true)
    (ht : (s.clockWindow (min 65535 n) true true).putB .WIR_ST_STAT_CLK_FAIL true = t) : exec (.clockMonitorWindow n) s =
      .next ((if s.flag .WIR_CLK_MON_FAIL = false then t.raise 3 0x05 0 2 (min 65535 n) else t).queueOf s) := by
  have bad : (decide (n < 24750) || decide (25250 < n)) = true := by simpa using outside
  subst ht
  rw [exec_clockMonitorWindow, execClockMonitorWindow, coreAct_run _ ha]
  simp [State.clockWindow, bad, warned]

end

/-! ### The test of a solver lane (R101, R163) -/

/-- A failed lane test shown, with the E2 of the lane. -/
def State.laneFails (t : State) (n : Nat) : State :=
  (((t.putB .WIR_ST_STAT_LANE_FAIL true).putB .SLC_LANE_FAIL_VALID true).put .SLC_LANE_FAIL_LANE n).raise 2 0x0B n 1 n

/-- A lane out of the schedules. -/
def State.withoutLane (s : State) (n : Nat) : State :=
  (s.put (.SLV_LANE_OUT (n / 32)) (s.fld (.SLV_LANE_OUT (n / 32)) + 2 ^ (n % 32))).put .SLV_LANES_IN_SERVICE
    (s.fld .SLV_LANES_IN_SERVICE - 1)

/-! ### The check of a converter core's reference (R101, R413) -/

/-- A core's deviation d of its reference recorded, with the test's bit over all cores and the margin of the most worn. -/
def State.referenceChecked (s : State) (n : Nat) (d : Int) : State :=
  let s1 := ((s.put (.ADC_REF_PPM n) (twos 16 d)).putB (.ADC_REF_FAIL n) (decide (1000 < d.natAbs))).sample 0x13 3 n (twos 32 d)
  let s2 := s1.putB .WIR_ST_STAT_REF_FAIL ((List.range 8).any fun k => s1.flag (.ADC_REF_FAIL k))
  let w := mostWorn ((List.range 8).map fun k => (k, (signed 16 (s2.fld (.ADC_REF_PPM k))).natAbs))
  s2.setMargin 9 (marginOf 1000 w.2) w.1

/-! ### The commands -/

section
variable {s : State} (ha : s.awake = true)
include ha

/-- The device watchdog is armed in Run and Degraded (R90). -/
theorem exec_deviceWatchdogExpiry_eq : exec .deviceWatchdogExpiry s =
    .next ((if s.live then s.raise 3 0x05 0 1 (s.scn.served % 0x1000000) else s).queueOf s) :=
  exec_deviceWatchdogExpiry.trans (coreAct_run _ ha)

theorem exec_fieldLinkWatchdogExpiry_eq {t : State} (ht : s.raise 3 0x05 0 3 4 = t) : exec .fieldLinkWatchdogExpiry s =
    .next ((({ t with field := { t.field with outPend := [], outImage := none } } : State).openTrips.powerUpField).queueOf s) := by
  subst ht
  exact exec_fieldLinkWatchdogExpiry.trans (coreAct_run _ ha)

theorem exec_weirPeriodicTest_failed {k : Nat} : exec (.weirPeriodicTest (some k)) s =
    .next (((s.putB .WIR_ST_STAT_PER_FAIL true).raise 3 0x05 0 4 k).queueOf s) :=
  exec_weirPeriodicTest.trans (coreAct_run _ ha)

theorem exec_weirPeriodicTest_passed : exec (.weirPeriodicTest none) s = .next ((s.putB .WIR_ST_STAT_PER_FAIL false).queueOf s) :=
  exec_weirPeriodicTest.trans (coreAct_run _ ha)

theorem exec_configurationRehash_changed {k : Fin 32} : exec (.configurationRehash (some k)) s =
    .next (((s.putB .WIR_ST_STAT_REHASH_FAIL true).raise 3 0x05 0 5 k.val).queueOf s) :=
  exec_configurationRehash.trans (coreAct_run _ ha)

theorem exec_configurationRehash_same : exec (.configurationRehash none) s =
    .next ((s.putB .WIR_ST_STAT_REHASH_FAIL false).queueOf s) :=
  exec_configurationRehash.trans (coreAct_run _ ha)

/-- A lane that fails leaves the schedules, unless it is out of them. -/
theorem exec_solverLaneTest_fails {n : Fin 256} : exec (.solverLaneTest n false) s =
    .next (((if bitOf (s.fld (.SLV_LANE_OUT (n.val / 32))) (n.val % 32) then s else s.withoutLane n.val).laneFails n.val).queueOf s) := by
  rw [exec_solverLaneTest, execSolverLaneTest, coreAct_run _ ha]
  simp only [Bool.false_eq_true, if_false]
  rfl

/-- A pass ends the failure shown if it is that lane's (assumption 78). -/
theorem exec_solverLaneTest_passes {n : Fin 256} : exec (.solverLaneTest n true) s =
    .next ((if s.flag .SLC_LANE_FAIL_VALID = true ∧ s.fld .SLC_LANE_FAIL_LANE = n.val then s.putB .WIR_ST_STAT_LANE_FAIL false
      else s).queueOf s) := by
  rw [exec_solverLaneTest, execSolverLaneTest, coreAct_run _ ha]
  simp only [if_true, Bool.and_eq_true, beq_iff_eq]

/-- A deviation above 1,000 ppm raises the E1 of its core. -/
theorem exec_converterReferenceCheck_eq {c : Fin 8} {ppm d : Int} {t : State} (hd : clampInt (-32768) 32767 ppm = d)
    (ht : s.referenceChecked c.val d = t) : exec (.converterReferenceCheck c ppm) s =
      .next ((if 1000 < d.natAbs then t.raise 1 0x13 c.val 3 (twos 24 d) else t).queueOf s) := by
  subst hd ht
  rw [exec_converterReferenceCheck, execConverterReferenceCheck, coreAct_run _ ha]
  simp only [decide_eq_true_eq]
  rfl

end

/-- Settles O29: each watchdog and self-test by what it finds. -/
theorem watchdogsAndSelfTests : Obligations.WatchdogsAndSelfTests := by
  unfold Obligations.WatchdogsAndSelfTests
  intro s ha runs
  have device := exec_deviceWatchdogExpiry_eq ha
  refine ⟨exec_guard_holds device, fun dead => exec_guard_ignored device (Bool.eq_false_iff.mp dead),
    exec_fieldLinkWatchdogExpiry_eq ha rfl, fun n => exec_clockMonitorWindow_within ha,
    fun n outside => ⟨exec_clockMonitorWindow_warns ha outside, ?clock⟩,
    fun k => exec_weirPeriodicTest_failed ha, exec_weirPeriodicTest_passed ha, fun k => exec_configurationRehash_changed ha,
    exec_configurationRehash_same ha, fun n => ?lane, fun c ppm => ?reference⟩
  case clock =>
    intro t
    have fails (warned) := exec_clockMonitorWindow_fails (t := t) ha outside warned rfl
    exact ⟨fun warned fresh => exec_guard_holds (fails warned) fresh,
      fun warned stands => exec_guard_fails (fails warned) (by simp [stands])⟩
  case lane =>
    intro out fails
    have test := exec_solverLaneTest_fails (n := n) ha
    have pass := exec_solverLaneTest_passes (n := n) ha
    exact ⟨fun isOut => test.trans (by rw [if_pos isOut]; rfl),
      fun inService => test.trans (by rw [if_neg (Bool.eq_false_iff.mp inService)]; rfl),
      fun valid same => exec_guard_holds pass ⟨valid, same⟩,
      fun h => exec_guard_ignored pass (by simpa [not_and_or, -not_and] using h)⟩
  case reference =>
    intro d s1 s2 w t
    have check := exec_converterReferenceCheck_eq (c := c) (d := d) (t := t) ha rfl rfl
    exact ⟨fun within => exec_guard_fails check (Nat.not_lt.mpr within), exec_guard_holds check⟩

end Sys2Proof.Machine
end

/-! PROOFS. The error manager: events raised and injected, the handler's completion, the log, the temperatures and the PLLs (R94, R95,
R104, R407, R409). -/

section
namespace Sys2Proof.Machine

/-! ### The completion of a handler (R95) -/

section
variable {s : State} (ha : s.awake = true)
include ha

/-- The handler of an event that is not the error task's completes. -/
theorem exec_handlerComplete_running {c : Nat} {e : Event} (running : s.runningClass = some c) (slot : s.slot c = some e) :
    exec .handlerComplete s = .next ((if s.assigned e = true then s else s.completeClass c).queueOf s) := by
  rw [exec_handlerComplete, execHandlerComplete, coreAct_run _ ha, running]
  simp [slot, Option.isSome_filter]

theorem exec_handlerComplete_idle (idle : s.runningClass = none) : exec .handlerComplete s = .next s := by
  rw [exec_handlerComplete, execHandlerComplete, coreAct_run _ ha, idle, queueOf_self]

end

/-! ### Fields and pairs of registers -/

/-- A field written reads the value, cut to its width. -/
theorem fld_put_same {s : State} {f : Fd} {v : Nat} (wf : s.regsWf = true) (hf : f.lo ≤ f.hi) (h32 : f.hi < 32) :
    (s.put f v).fld f = v % 2 ^ (f.hi - f.lo + 1) := by
  rw [State.fld, State.put, setReg_same wf, of_into_same hf h32]

/-- A field written leaves another of its register that shares no bit with it. -/
theorem fld_put_apart {s : State} {f g : Fd} {v : Nat} (wf : s.regsWf = true) (same : g.adr = f.adr) (hf : f.lo ≤ f.hi)
    (hg : g.lo ≤ g.hi) (h32 : g.hi < 32) (apart : g.hi < f.lo ∨ f.hi < g.lo) : (s.put f v).fld g = s.fld g := by
  rw [State.fld, State.put, same, setReg_same wf, of_into_other hf hg h32 apart, State.fld, same]

/-- A 64-bit value written leaves the fields of other registers. -/
theorem fld_put64_other {s : State} {lo hi v : Nat} {f : Fd} (wf : s.regsWf = true) (low : f.adr ≠ lo) (high : f.adr ≠ hi) :
    (s.put64 lo hi v).fld f = s.fld f := by
  rw [State.fld, State.put64, setReg_other high (setReg_wf wf), setReg_other low wf, State.fld]

/-- A 64-bit value written in two registers reads back. -/
theorem get64_put64_same {s : State} {lo hi v : Nat} (wf : s.regsWf = true) (apart : lo ≠ hi) :
    (s.put64 lo hi v).get64 lo hi = v % 2 ^ 64 := by
  rw [State.get64, State.put64, setReg_other apart (setReg_wf wf), setReg_same wf, setReg_same (setReg_wf wf), BitVec.toNat_ofNat,
    BitVec.toNat_ofNat]
  omega

/-! ### The error log and the injection of events (R104) -/

/-- The entries of the log replaced. -/
def State.withLog (s : State) (log : List (Event × Nat)) : State := { s with err := { s.err with log := log } }

/-! What the log, the queue put back and an entry shown leave of a state: for rw and not for simp, whose steps by definition the kernel
would check by comparing the states whole. -/

theorem withLog_err (s : State) (log : List (Event × Nat)) : (s.withLog log).err = { s.err with log := log } := rfl
theorem withLog_basin (s : State) (log : List (Event × Nat)) : (s.withLog log).basin = s.basin := rfl
theorem queueOf_err (t s : State) : (t.queueOf s).err = t.err := rfl
theorem queueOf_basin (t s : State) : (t.queueOf s).basin = t.basin := rfl
theorem queueOf_fld (t s : State) (f : Fd) : (t.queueOf s).fld f = t.fld f := rfl
theorem queueOf_get64 (t s : State) (lo hi : Nat) : (t.queueOf s).get64 lo hi = t.get64 lo hi := rfl

/-- An entry of the log shown in ERR_LOG_SRC, ERR_LOG_INFO and ERR_LOG_TIME. -/
def State.showLogEntry (s : State) (e : Event) (t : Nat) : State :=
  (((((s.putB .ERR_LOG_SRC_ESC e.esc).put .ERR_LOG_SRC_CLASS e.cls).put .ERR_LOG_SRC_SRC e.src).put .ERR_LOG_INFO_CAUSE
    e.cause).put .ERR_LOG_INFO_DETAIL e.detail).put64 0x7084 0x7088 t

theorem showLogEntry_err (s : State) (e : Event) (t : Nat) : (s.showLogEntry e t).err = s.err := by
  simp [State.showLogEntry]

theorem showLogEntry_basin (s : State) (e : Event) (t : Nat) : (s.showLogEntry e t).basin = s.basin := by
  simp [State.showLogEntry]

section
variable {s : State} {e : Event} {t : Nat} (wf : s.regsWf = true)
include wf

theorem showLogEntry_cause : (s.showLogEntry e t).fld .ERR_LOG_INFO_CAUSE = e.cause % 256 := by
  have source := put_wf (f := .ERR_LOG_SRC_SRC) (v := e.src) (put_wf (f := .ERR_LOG_SRC_CLASS) (v := e.cls)
    (putB_wf (f := .ERR_LOG_SRC_ESC) (b := e.esc) wf))
  have detail := fld_put_apart (f := .ERR_LOG_INFO_DETAIL) (g := .ERR_LOG_INFO_CAUSE) (v := e.detail)
    (put_wf (f := .ERR_LOG_INFO_CAUSE) (v := e.cause) source) rfl (by decide) (by decide) (by decide) (by decide)
  have cause := fld_put_same (f := .ERR_LOG_INFO_CAUSE) (v := e.cause) source (by decide) (by decide)
  rw [State.showLogEntry, fld_put64_other (put_wf (put_wf source)) (by decide) (by decide), detail, cause]
  rfl

theorem showLogEntry_time : (s.showLogEntry e t).get64 0x7084 0x7088 = t % 2 ^ 64 :=
  get64_put64_same (put_wf (put_wf (put_wf (put_wf (putB_wf wf))))) (by decide)

end

section
variable {s : State} (may : s.hostMay 7 = true)
include may

/-- A pop takes the oldest entry out and shows it. -/
theorem exec_errLogPop_cons {e : Event} {t : Nat} {r : List (Event × Nat)} (log : s.err.log = (e, t) :: r) :
    exec .errLogPop s = .next (((s.withLog r).showLogEntry e t).queueOf s) := by
  rw [exec_errLogPop, execErrLogPop, hostAct_run _ may, log]
  rfl

/-- The entry popped is read in the registers, and the Basin stays. -/
theorem exec_errLogPop_shows {e : Event} {t : Nat} {r : List (Event × Nat)} (wf : s.regsWf = true) (log : s.err.log = (e, t) :: r) :
    ∃ u, exec .errLogPop s = .next u ∧ u.err.log = r ∧ u.fld .ERR_LOG_INFO_CAUSE = e.cause % 256 ∧
      u.get64 0x7084 0x7088 = t % 2 ^ 64 ∧ u.basin = s.basin := by
  have wfLog : (s.withLog r).regsWf = true := wf
  refine ⟨_, exec_errLogPop_cons may log, ?_, ?_, ?_, ?_⟩
  · rw [queueOf_err, showLogEntry_err, withLog_err]
  · rw [queueOf_fld, showLogEntry_cause wfLog]
  · rw [queueOf_get64, showLogEntry_time wfLog]
  · rw [queueOf_basin, showLogEntry_basin, withLog_basin]

theorem exec_errLogPop_empty (log : s.err.log = []) : exec .errLogPop s = .next s := by
  rw [exec_errLogPop, execErrLogPop, hostAct_run _ may, log, queueOf_self]

/-- An event is injected in Commission, of a class up to 3, with a free DETAIL (assumption 74). -/
theorem exec_errInjectWrite_eq {v : Word} : exec (.errInjectWrite v) s =
    .next ((if s.mode ≠ .commission ∨ 3 < bitsOf v.toNat 30 28 then s.refuse 0x07 0x32 0x7094
      else s.usedFree.raise (bitsOf v.toNat 30 28) (bitsOf v.toNat 23 16) (bitsOf v.toNat 15 0) 0xFF s.freeVal.toNat).queueOf s) :=
  exec_errInjectWrite.trans (hostAct_run _ may)

end

/-! ### Events, temperatures and PLLs (R94, R407, R409) -/

/-- The lock bit of a PLL. -/
def pllLock : Fin 3 → Fd
  | 0 => .CLK_STAT_LOCK_S
  | 1 => .CLK_STAT_LOCK_Y
  | 2 => .CLK_STAT_LOCK_N

section
variable {s : State} (ha : s.awake = true)
include ha

theorem exec_eventRaise_eq {c : Fin 5} {p : Fin 50} {i : Half} {k : Byte} {d : BitVec 24} : exec (.eventRaise c p i k d) s =
    .next ((s.raise c.val p.val i.toNat k.toNat d.toNat).queueOf s) :=
  exec_eventRaise.trans (coreAct_run _ ha)

theorem exec_junctionTemperature_eq {field : Bool} {deg : Int} : exec (.junctionTemperature field deg) s =
    .next ((s.temperature field deg).queueOf s) :=
  exec_junctionTemperature.trans (coreAct_run _ ha)

/-- A PLL out of lock raises its E3, but PLL_S stands still while domain 5 is idle. -/
theorem exec_pllUnlock_eq {n : Fin 3} : exec (.pllUnlock n) s =
    .next ((if n.val = 0 ∧ s.net.idle.contains 5 then s
      else ((s.putB (pllLock n) false).bump .CLK_UNLOCK_CNT).raise 3 0x02 0 1 n.val).queueOf s) := by
  refine (exec_pllUnlock.trans (coreAct_run _ ha)).trans ?_
  fin_cases n <;> rfl

end

/-- Settles O30: the handler by the event in its slot, the log by its oldest entry, the others by their guards. -/
theorem errorManager : Obligations.ErrorManager := by
  unfold Obligations.ErrorManager
  intro s ha runs
  have pll (n : Fin 3) := exec_pllUnlock_eq (n := n) ha
  refine ⟨fun c p i k d => exec_eventRaise_eq ha, fun c e running slot => ?handler, exec_handlerComplete_idle ha, fun v may => ?inject,
    fun e t r may wf log => ?popped, fun e t r may log => exec_errLogPop_cons may log, fun may => exec_errLogPop_empty may,
    fun f deg => exec_junctionTemperature_eq ha, fun idle => exec_guard_holds (pll 0) ⟨rfl, idle⟩,
    fun busy => exec_guard_fails (pll 0) fun h => Bool.eq_false_iff.mp busy h.2,
    exec_guard_fails (pll 1) (by simp), exec_guard_fails (pll 2) (by simp)⟩
  case handler =>
    have complete := exec_handlerComplete_running ha running slot
    exact ⟨fun free => exec_guard_fails complete (Bool.eq_false_iff.mp free), exec_guard_holds complete⟩
  case inject =>
    have inject := exec_errInjectWrite_eq (v := v) may
    exact ⟨exec_guard_holds inject, fun commission low => exec_guard_fails inject (by simp [commission, low])⟩
  case popped => exact exec_errLogPop_shows may wf log

end Sys2Proof.Machine
end

/-! PROOFS. The Basin: words and runs of bytes written and read (R107), and whom a bank grants a beat (R112). -/

section
namespace Sys2Proof.Machine

/-! ### Words (R107) -/

/-- The four bytes of a word, low byte first, give it back. -/
theorem leNat_wordBytes (w : Word) : leNat [w.setWidth 8, BitVec.ofNat 8 (w.toNat / 256), BitVec.ofNat 8 (w.toNat / 65536),
    BitVec.ofNat 8 (w.toNat / 16777216)] = w.toNat := by
  simp only [leNat, BitVec.toNat_ofNat, BitVec.toNat_setWidth]
  have := w.isLt
  omega

section
variable {s : State} {a : Nat} {w : Word} (wf : s.memWf = true)
include wf

theorem setByte_byte {v : Byte} {b : Nat} : (s.setByte a v).byte b = if b = a then v else s.byte b := by
  split
  next same => rw [same, setByte_same wf]
  next other => rw [setByte_other other wf]

/-- What a byte reads after a word is written. -/
theorem setWord_byte {b : Nat} : (s.setWord a w).byte b =
    if b = 4 * a + 3 then BitVec.ofNat 8 (w.toNat / 16777216) else if b = 4 * a + 2 then BitVec.ofNat 8 (w.toNat / 65536)
    else if b = 4 * a + 1 then BitVec.ofNat 8 (w.toNat / 256) else if b = 4 * a then BitVec.ofNat 8 w.toNat else s.byte b := by
  have wf1 := setByte_wf (a := 4 * a) (v := BitVec.ofNat 8 w.toNat) wf
  have wf2 := setByte_wf (a := 4 * a + 1) (v := BitVec.ofNat 8 (w.toNat / 256)) wf1
  have wf3 := setByte_wf (a := 4 * a + 2) (v := BitVec.ofNat 8 (w.toNat / 65536)) wf2
  rw [State.setWord, setByte_byte wf3, setByte_byte wf2, setByte_byte wf1, setByte_byte wf]

theorem setWord_byte_low : (s.setWord a w).byte (4 * a) = w.setWidth 8 := by
  simp [setWord_byte wf]

theorem setWord_byte_other {b : Nat} (outside : b < 4 * a ∨ 4 * a + 4 ≤ b) : (s.setWord a w).byte b = s.byte b := by
  rw [setWord_byte wf, if_neg (by omega), if_neg (by omega), if_neg (by omega), if_neg (by omega)]

theorem setWord_word : (s.setWord a w).word a = w := by
  simp [State.word, setWord_byte wf, leNat_wordBytes]

end

/-! ### Runs of bytes (R107) -/

theorem setBytes_cons (s : State) (a : Nat) (b : Byte) (bs : List Byte) :
    s.setBytes a (b :: bs) = (s.setByte a b).setBytes (a + 1) bs := rfl

theorem bytes_succ (s : State) (a n : Nat) : s.bytes a (n + 1) = s.byte a :: s.bytes (a + 1) n := by
  simp [State.bytes, List.range_succ_eq_map, Nat.add_assoc, Nat.add_comm 1]

/-- A run of bytes written leaves every byte outside it. -/
theorem setBytes_byte_other {b : Nat} (bs : List Byte) : ∀ {s : State} {a : Nat}, s.memWf = true →
    (b < a ∨ a + bs.length ≤ b) → (s.setBytes a bs).byte b = s.byte b := by
  induction bs with
  | nil => exact fun _ _ => rfl
  | cons v r ih =>
    intro s a wf outside
    rw [List.length_cons] at outside
    rw [setBytes_cons, ih (setByte_wf wf) (by omega), setByte_other (by omega) wf]

/-- A run of bytes written reads back. -/
theorem setBytes_bytes (bs : List Byte) : ∀ {s : State} {a : Nat}, s.memWf = true → (s.setBytes a bs).bytes a bs.length = bs := by
  induction bs with
  | nil => exact fun _ => rfl
  | cons v r ih =>
    intro s a wf
    rw [setBytes_cons, List.length_cons, bytes_succ, setBytes_byte_other r (setByte_wf wf) (by omega), setByte_same wf, ih (setByte_wf wf)]

/-- Settles O6: a word by its four bytes, a run of bytes by induction on it. -/
theorem basinReadsBack : Obligations.BasinReadsBack := by
  unfold Obligations.BasinReadsBack
  intro s wf
  exact ⟨fun a w => ⟨setWord_word wf, fun b => setWord_byte_other wf, setWord_byte_low wf, setWord_wf wf⟩,
    fun a bs => ⟨setBytes_bytes bs wf, fun b => setBytes_byte_other bs wf, setBytes_wf wf⟩⟩

/-! ### Whom a bank grants (R112) -/

/-- How many places after requester `last` a requester comes in the cyclic order 0 to 11. -/
def placesAfter (last q : Nat) : Nat := (q + 12 - last % 12) % 12

theorem add_placesAfter {last q : Nat} (hq : q < 12) : (last + placesAfter last q) % 12 = q := by
  unfold placesAfter
  omega

theorem placesAfter_add {last i : Nat} (hi : i < 12) : placesAfter last ((last + i) % 12) = i := by
  unfold placesAfter
  omega

/-- The first requester after `last` in cyclic order that satisfies p: no other that does comes before it. -/
theorem find_cyclic_some {last r : Nat} {p : Nat → Bool} (h : ((List.range 12).map fun i => (last + i) % 12).find? p = some r) :
    p r = true ∧ ∀ q, q < 12 → p q = true → placesAfter last r ≤ placesAfter last q := by
  rw [List.find?_map, Option.map_eq_some_iff] at h
  obtain ⟨i, found, rfl⟩ := h
  obtain ⟨holds, small, before⟩ := List.find?_range_eq_some.mp found
  rw [List.mem_range] at small
  refine ⟨holds, fun q hq hp => ?_⟩
  rw [placesAfter_add small]
  by_contra earlier
  simpa [add_placesAfter hq, hp] using before _ (Nat.lt_of_not_le earlier)

/-- The cyclic order holds every requester. -/
theorem find_cyclic_isSome {last q : Nat} {p : Nat → Bool} (hq : q < 12) (hp : p q = true) :
    (((List.range 12).map fun i => (last + i) % 12).find? p).isSome = true := by
  have listed : q ∈ (List.range 12).map fun i => (last + i) % 12 :=
    List.mem_map.mpr ⟨placesAfter last q, List.mem_range.mpr (Nat.mod_lt _ (by decide)), add_placesAfter hq⟩
  exact List.find?_isSome.mpr ⟨q, listed, hp⟩

/-- The requester after which the cyclic order of a rank on a bank begins. -/
def State.lastGranted (s : State) (b rank : Nat) : Nat := Sparse.at 0 s.bsn.pointers (8 * b + rank)

/-- Does a requester compete for a bank at a rank? -/
def State.competesAt (s : State) (b rank r : Nat) : Bool := (s.competing b).contains r && s.rankOf r == rank

/-- A grant goes by the lowest rank that competes, and at that rank by the cyclic order. -/
theorem granted_eq (s : State) (b : Nat) : s.granted b = ((s.competing b).map s.rankOf).min?.bind fun rank =>
    ((List.range 12).map fun i => (s.lastGranted b rank + i) % 12).find? (s.competesAt b rank) := by
  rw [State.granted]
  cases (s.competing b).map s.rankOf <;> rfl

theorem lt_of_mem_competing {s : State} {b r : Nat} (h : r ∈ s.competing b) : r < 12 :=
  List.mem_range.mp (List.mem_filter.mp h).1

theorem competesAt_iff {s : State} {b r rank : Nat} : s.competesAt b rank r = true ↔ r ∈ s.competing b ∧ s.rankOf r = rank := by
  simp [State.competesAt]

theorem granted_eq_none_iff {s : State} {b : Nat} : s.granted b = none ↔ s.competing b = [] := by
  rw [granted_eq]
  constructor
  · intro none
    by_contra someone
    have ranked : (s.competing b).map s.rankOf ≠ [] := mt List.map_eq_nil_iff.mp someone
    obtain ⟨rank, lowest⟩ := Option.ne_none_iff_exists'.mp (mt List.min?_eq_none_iff.mp ranked)
    obtain ⟨r, mem, hr⟩ := List.mem_map.mp (List.min?_mem lowest)
    have found := find_cyclic_isSome (last := s.lastGranted b rank) (lt_of_mem_competing mem) (competesAt_iff.mpr ⟨mem, hr⟩)
    rw [lowest, Option.bind_some] at none
    rw [none] at found
    exact absurd found (by decide)
  · intro nobody
    rw [nobody]
    rfl

/-- The requester granted competes, at the lowest rank, and comes first among those of its rank. -/
theorem granted_some {s : State} {b r : Nat} (h : s.granted b = some r) :
    r ∈ s.competing b ∧ (∀ q, q ∈ s.competing b → s.rankOf r ≤ s.rankOf q) ∧
      ∀ q, q ∈ s.competing b → s.rankOf q = s.rankOf r →
        placesAfter (s.lastGranted b (s.rankOf r)) r ≤ placesAfter (s.lastGranted b (s.rankOf r)) q := by
  rw [granted_eq, Option.bind_eq_some_iff] at h
  obtain ⟨rank, lowest, first⟩ := h
  obtain ⟨competes, nearest⟩ := find_cyclic_some first
  obtain ⟨mem, rfl⟩ := competesAt_iff.mp competes
  have least := (List.min?_eq_some_iff.mp lowest).2
  exact ⟨mem, fun q hq => least _ (List.mem_map_of_mem hq),
    fun q hq same => nearest q (lt_of_mem_competing hq) (competesAt_iff.mpr ⟨hq, same⟩)⟩

/-! ### A rank write leaves the arbiter (R112, R117) -/

theorem irq_bsn (s : State) (p k : Nat) : (s.irq p k).bsn = s.bsn := by
  unfold State.irq
  dsimp only
  split
  · rfl
  · split
    · split <;> rfl
    · rfl

theorem refuse_bsn (s : State) (p code detail : Nat) : (s.refuse p code detail).bsn = s.bsn := irq_bsn ..

theorem store_bsn (s : State) (p : Acc → Bool) (adr : Nat) (w : Word) : (s.store p adr w).bsn = s.bsn := by
  unfold State.store
  split <;> rfl

/-- A host's write leaves the arbiter if what it does to the registers does. -/
theorem hostWrite_bsn {s : State} {f : State → State} (p off : Nat) (stays : (f s).bsn = s.bsn) : (s.hostWrite p off f).bsn = s.bsn := by
  unfold State.hostWrite
  split
  · rfl
  · split
    · exact refuse_bsn ..
    · exact stays

theorem exec_bsnRankWrite_bsn (s : State) (i : Fin 2) (v : Word) : ∃ t, exec (.bsnRankWrite i v) s = .next t ∧ t.bsn = s.bsn := by
  rw [exec_bsnRankWrite, execBsnRankWrite, hostAct]
  cases ha : s.awake with
  | false => exact ⟨s, coreAct_held _ ha, rfl⟩
  | true => exact ⟨_, coreAct_run _ ha, hostWrite_bsn _ _ (store_bsn ..)⟩

/-- Settles O37: the lowest rank as the library's minimum of a list, the cyclic order as a search from the last one granted. -/
theorem arbiterGrants : Obligations.ArbiterGrants := by
  unfold Obligations.ArbiterGrants
  exact fun s b => ⟨granted_eq_none_iff, fun r => granted_some, exec_bsnRankWrite_bsn s⟩

end Sys2Proof.Machine
end

/-! PROOFS. What the Basin's banks do with requests, locks and the scrub (R110, R112 to R117). -/

section
namespace Sys2Proof.Machine

/-! ### A grant (R112, R115) -/

/-- The requester granted: its request goes, the pointer of its rank alone moves to it. -/
def State.requestTaken (s : State) (b q : Nat) : State :=
  s.setBsn fun x => { x with
    waiting := x.waiting.filter fun w => w != (b, q), lockAsks := x.lockAsks.filter fun w => w != (b, q),
    pointers := Sparse.put 0 x.pointers (8 * b + s.rankOf q) (q + 1) }

section
variable {s : State} {b q : Nat}

/-- A grant asked for as a lock gives the lock. -/
theorem grant_asked (asks : s.bsn.lockAsks.contains (b, q) = true) : s.grant b q = (s.requestTaken b q).setLock b (some ⟨q, 0⟩) :=
  if_pos asks

section
variable (noAsk : s.bsn.lockAsks.contains (b, q) = false)
include noAsk

theorem grant_unlocked (free : s.lockOf b = none) : s.grant b q = s.requestTaken b q := by
  rw [State.grant, if_neg (Bool.eq_false_iff.mp noAsk), free]
  rfl

/-- A beat under a lock counts, and a 65th ends it. -/
theorem grant_locked {l : Lock} (locked : s.lockOf b = some l) : s.grant b q =
    if 64 ≤ l.beats then ((s.requestTaken b q).setLock b none).refuse 0x09 0x41 b
    else (s.requestTaken b q).setLock b (some { l with beats := l.beats + 1 }) := by
  rw [State.grant, if_neg (Bool.eq_false_iff.mp noAsk), locked]
  rfl

end

end

/-! ### Requests and decisions (R110, R112 to R114) -/

section
variable {s : State} {b : Fin 16} {e : Option (Bool × BitVec 20)} (ha : s.awake = true)
include ha

theorem exec_basinRequest_asks {r : Fin 12} : exec (.basinRequest b (some r) e) s =
    .next ((if s.masked r.val = true then s
      else (s.wakeBank b.val r.val).setBsn fun x => { x with waiting := addOnce x.waiting (b.val, r.val) }).queueOf s) :=
  exec_basinRequest.trans (coreAct_run _ ha)

/-- A cycle that is the scrub's waits for it. -/
theorem exec_basinRequest_scrubFirst (turn : s.scrubFirst b.val = true) : exec (.basinRequest b none e) s = .next s :=
  (exec_basinRequest.trans (coreAct_run _ ha)).trans (by dsimp only; rw [if_pos turn, queueOf_self])

section
variable (turn : s.scrubFirst b.val = false)
include turn

theorem exec_basinRequest_nobody (nobody : s.granted b.val = none) : exec (.basinRequest b none e) s =
    .next ((s.scrubWaits b.val (s.lockOf b.val).isSome).queueOf s) :=
  (exec_basinRequest.trans (coreAct_run _ ha)).trans (by simp only [turn, nobody]; rfl)

variable {q : Nat} (granted : s.granted b.val = some q)
include granted

/-- A grant asked for as a lock carries no data. -/
theorem exec_basinRequest_lock (asks : s.bsn.lockAsks.contains (b.val, q) = true) : exec (.basinRequest b none e) s =
    .next ((((s.requestTaken b.val q).setLock b.val (some ⟨q, 0⟩)).scrubWaits b.val true).queueOf s) := by
  rw [exec_basinRequest, execBasinRequest, coreAct_run _ ha]
  simp only [turn, granted, asks, grant_asked asks, Bool.false_eq_true, if_false, if_true]

/-- A beat granted may read a word with an error. -/
theorem exec_basinRequest_beat {t : State} (noAsk : s.bsn.lockAsks.contains (b.val, q) = false) (ht : s.grant b.val q = t) :
    exec (.basinRequest b none e) s =
      .next (((t.scrubWaits b.val true).readFinds q (e.map fun e => (e.1, b.val * 0x100000 + e.2.toNat))).queueOf s) := by
  rw [exec_basinRequest, execBasinRequest, coreAct_run _ ha]
  simp only [turn, granted, noAsk, ht, Bool.false_eq_true, if_false]

end

end

/-! ### Locks (R90, R115, R116) -/

/-- The banks that a requester has locked all lie below a bank or at it. -/
def State.locksBelow (s : State) (b r : Nat) : Prop := ∀ c : Nat, b < c → c < 16 → ∀ l, s.lockOf c = some l → l.owner ≠ r

/-- Does a requester hold a lock above a bank, as the command looks for it? -/
def State.holdsAbove (s : State) (b r : Nat) : Bool :=
  (List.range 16).any fun c => decide (b < c) && match s.lockOf c with
    | some l => l.owner == r
    | none => false

theorem holdsAbove_eq_false_iff {s : State} {b r : Nat} : s.holdsAbove b r = false ↔ s.locksBelow b r := by
  simp only [State.holdsAbove, State.locksBelow, List.any_eq_false, List.mem_range, Bool.and_eq_true, decide_eq_true_eq, not_and]
  refine ⟨fun none c above small l held => ?_, fun others c small above => ?_⟩
  · have notOwner := none c small above
    simpa [held] using notOwner
  · cases held : s.lockOf c with
    | none => simp
    | some l => simpa using others c above small l held

/-- A lock asked for: given in this cycle if the bank is free and the decision falls to it, else in a later one; nothing where it is
held already. -/
def State.lockOrAsk (s : State) (b r : Nat) : State :=
  match s.lockOf b with
  | some ⟨o, _⟩ => if o = r then s else s.askLock b r
  | none =>
    let t := s.askLock b r
    if !t.scrubFirst b && t.granted b == some r then (t.grant b r).scrubWaits b true else t

section
variable {s : State} {b : Fin 16} {r : Fin 12} (ha : s.awake = true)
include ha

/-- A masked requester asks for nothing, and a lock below one already held is refused. -/
theorem exec_basinLockAcquire_eq : exec (.basinLockAcquire r b) s =
    .next ((if s.masked r.val = true then s
      else if s.holdsAbove b.val r.val = true then s.refuse 0x09 0x40 b.val else s.lockOrAsk b.val r.val).queueOf s) :=
  exec_basinLockAcquire.trans (coreAct_run _ ha)

section
variable (unmasked : s.masked r.val = false)
include unmasked

theorem exec_basinLockAcquire_above (above : ¬ s.locksBelow b.val r.val) :
    exec (.basinLockAcquire r b) s = .next ((s.refuse 0x09 0x40 b.val).queueOf s) := by
  have holds : s.holdsAbove b.val r.val = true := by rwa [← Bool.not_eq_false, holdsAbove_eq_false_iff]
  rw [exec_guard_fails (exec_basinLockAcquire_eq ha) (Bool.eq_false_iff.mp unmasked), if_pos holds]

variable (below : s.locksBelow b.val r.val)
include below

theorem exec_basinLockAcquire_below : exec (.basinLockAcquire r b) s = .next ((s.lockOrAsk b.val r.val).queueOf s) := by
  have holdsNone := Bool.eq_false_iff.mp (holdsAbove_eq_false_iff.mpr below)
  rw [exec_guard_fails (exec_basinLockAcquire_eq ha) (Bool.eq_false_iff.mp unmasked), if_neg holdsNone]

/-- The lock of a free bank is given in this cycle if the decision falls to it. -/
theorem exec_basinLockAcquire_free {t : State} (free : s.lockOf b.val = none) (ht : s.askLock b.val r.val = t) :
    exec (.basinLockAcquire r b) s = .next ((if t.scrubFirst b.val = false ∧ t.granted b.val = some r.val then
      (t.grant b.val r.val).scrubWaits b.val true else t).queueOf s) := by
  rw [exec_basinLockAcquire_below ha unmasked below, State.lockOrAsk, free, ht]
  simp only [Bool.and_eq_true, Bool.not_eq_true', beq_iff_eq]

/-- The lock of a locked bank waits, unless it is the owner that asks. -/
theorem exec_basinLockAcquire_locked {l : Lock} (locked : s.lockOf b.val = some l) :
    exec (.basinLockAcquire r b) s = .next ((if l.owner = r.val then s else s.askLock b.val r.val).queueOf s) := by
  rw [exec_basinLockAcquire_below ha unmasked below, State.lockOrAsk, locked]

end

theorem exec_basinLockRelease_free {ask : Bool} (free : s.lockOf b.val = none) : exec (.basinLockRelease r b ask) s = .next s := by
  rw [exec_basinLockRelease, execBasinLockRelease, coreAct_run _ ha, free, queueOf_self]

section
variable {ask : Bool} {l : Lock} (locked : s.lockOf b.val = some l)
include locked

theorem exec_basinLockRelease_other (other : l.owner ≠ r.val) : exec (.basinLockRelease r b ask) s = .next s := by
  rw [exec_basinLockRelease, execBasinLockRelease, coreAct_run _ ha, locked]
  dsimp only
  rw [if_pos other, queueOf_self]

/-- The owner releases its lock, and is refused a 65th beat. -/
theorem exec_basinLockRelease_owner (owner : l.owner = r.val) : exec (.basinLockRelease r b ask) s =
    .next ((if ask = true ∧ 64 ≤ l.beats then (s.setLock b.val none).refuse 0x09 0x41 b.val else s.setLock b.val none).queueOf s) := by
  rw [exec_basinLockRelease, execBasinLockRelease, coreAct_run _ ha, locked]
  dsimp only
  rw [if_neg (not_not_intro owner)]
  rfl

end

theorem exec_lockWatchdogExpiry_locked {l : Lock} (locked : s.lockOf b.val = some l) : exec (.lockWatchdogExpiry b) s =
    .next (((((s.setLock b.val none).put .WIR_LOCK_FAULT_BANK b.val).put .WIR_LOCK_FAULT_OWNER l.owner).raise 2 (reqSource l.owner).1
      (reqSource l.owner).2 0xE0 (b.val * 0x10000 + l.owner)).queueOf s) := by
  rw [exec_lockWatchdogExpiry, execLockWatchdogExpiry, coreAct_run _ ha, locked]
  rfl

theorem exec_lockWatchdogExpiry_free (free : s.lockOf b.val = none) : exec (.lockWatchdogExpiry b) s = .next s := by
  rw [exec_lockWatchdogExpiry, execLockWatchdogExpiry, coreAct_run _ ha, free, queueOf_self]

end

theorem exec_requesterMask_eq {s : State} {r : Fin 12} : exec (.requesterMask r) s =
    .next ((if s.masked r.val = true then s.setBsn fun x => { x with
        waiting := x.waiting.filter fun w => w.2 != r.val, lockAsks := x.lockAsks.filter fun w => w.2 != r.val }
      else s).queueOf s) := exec_requesterMask

/-- A rank write of the host is stored (R117). -/
theorem exec_bsnRankWrite_run {s : State} {i : Fin 2} {v : Word} (may : s.hostMay 9 = true) : exec (.bsnRankWrite i v) s =
    .next ((s.store (· == .rw) (0x9040 + 4 * i.val) v).queueOf s) :=
  exec_bsnRankWrite.trans (hostAct_run _ may)

/-! ### The scrub (R110) -/

/-- The scrub has read its next beat of a bank. -/
def State.beatScrubbed (s : State) (b : Nat) : State :=
  (s.scrubWaits b false).setBsn fun x => { x with scrub := Sparse.put 0 x.scrub b (Sparse.at 0 s.bsn.scrub b + 1),
                                                  scrubStart := if x.scrub = [] then s.now else x.scrubStart }

/-- The scrub notes an uncorrectable word. -/
def State.scrubBadFound (t : State) : State := (t.putB .WIR_ST_STAT_SCRUB_UE true).setBsn fun x => { x with scrubBad := true }

section
variable {s : State} {b : Fin 16} (ha : s.awake = true)
include ha

theorem exec_basinScrub_not {found : Option (Bool × Fin 8)}
    (h : s.scrubMay b.val = false ∨ bankBeats ≤ Sparse.at 0 s.bsn.scrub b.val) : exec (.basinScrub b found) s = .next s :=
  (exec_basinScrub.trans (coreAct_run _ ha)).trans (by dsimp only; rw [if_pos (by simpa using h), queueOf_self])

variable (may : s.scrubMay b.val = true) (more : Sparse.at 0 s.bsn.scrub b.val < bankBeats)
include may more

theorem exec_basinScrub_clean : exec (.basinScrub b none) s = .next ((s.beatScrubbed b.val).scrubPass.queueOf s) := by
  refine (exec_basinScrub.trans (coreAct_run _ ha)).trans ?_
  dsimp only
  rw [if_neg (by simp [may, more])]
  rfl

theorem exec_basinScrub_found {ue : Bool} {k : Fin 8} : exec (.basinScrub b (some (ue, k))) s =
    .next ((((if ue then (s.beatScrubbed b.val).scrubBadFound else s.beatScrubbed b.val).eccFind 0x09 b.val ue
      (b.val * 0x100000 + 8 * Sparse.at 0 s.bsn.scrub b.val + k.val)).scrubPass).queueOf s) := by
  refine (exec_basinScrub.trans (coreAct_run _ ha)).trans ?_
  dsimp only
  rw [if_neg (by simp [may, more])]
  rfl

end

/-- Settles O38: a decision by the grant and what was asked for, a lock by who holds it, the scrub by what the beat finds. -/
theorem bankRequestsAndLocks : Obligations.BankRequestsAndLocks := by
  unfold Obligations.BankRequestsAndLocks
  intro s b r ha runs same below free
  have mask := exec_requesterMask_eq (s := s) (r := r)
  refine ⟨fun unmasked e => exec_guard_fails (exec_basinRequest_asks ha) (Bool.eq_false_iff.mp unmasked),
    fun masked e => exec_guard_holds (exec_basinRequest_asks ha) masked, fun e => exec_basinRequest_scrubFirst ha,
    fun e => exec_basinRequest_nobody ha, fun q e turn granted => ?decision,
    fun masked => exec_guard_holds (exec_basinLockAcquire_eq ha) masked, fun unmasked => exec_basinLockAcquire_above ha unmasked,
    fun unmasked lower => ?acquire, fun ask => ⟨exec_basinLockRelease_free ha, fun l locked => ?release⟩,
    fun l locked => exec_lockWatchdogExpiry_locked ha locked, exec_lockWatchdogExpiry_free ha,
    exec_guard_holds mask, fun unmasked => exec_guard_ignored mask (Bool.eq_false_iff.mp unmasked),
    fun i v => exec_bsnRankWrite_run, ?scrub⟩
  case decision =>
    intro t done
    refine ⟨exec_basinRequest_lock ha turn granted, fun noAsk => ?_⟩
    have beat {u} := exec_basinRequest_beat (t := u) (e := e) ha turn granted noAsk
    refine ⟨fun unlocked => beat (grant_unlocked noAsk unlocked), fun l locked few => beat ?_, fun l locked full => beat ?_⟩
    · rw [grant_locked noAsk locked, if_neg (Nat.not_le_of_lt few)]
      rfl
    · rw [grant_locked noAsk locked, if_pos full]
      rfl
  case acquire =>
    intro t now
    have asks (free) := exec_basinLockAcquire_free (t := t) ha unmasked lower free rfl
    have waits {l} (locked) := exec_basinLockAcquire_locked (l := l) ha unmasked lower locked
    exact ⟨fun unlocked => exec_guard_holds (asks unlocked), fun unlocked => exec_guard_fails (asks unlocked),
      fun l locked => exec_guard_fails (waits locked), fun l locked => exec_guard_holds (waits locked)⟩
  case release =>
    have release (owner) := exec_basinLockRelease_owner (r := r) (ask := ask) ha locked owner
    exact ⟨exec_basinLockRelease_other ha locked,
      fun owner more => exec_guard_fails (release owner) (by simpa [not_and_or, -not_and] using more),
      fun owner asks full => exec_guard_holds (release owner) ⟨asks, full⟩⟩
  case scrub =>
    intro beat t addr
    exact ⟨fun found => exec_basinScrub_not ha, fun may more => ⟨exec_basinScrub_clean ha may more,
      fun k => exec_basinScrub_found ha may more, fun k => exec_basinScrub_found ha may more⟩⟩

end Sys2Proof.Machine
end

/-! PROOFS. The monitors: a page's snapshot and clear, those of all pages, the armed snapshot (R9, R119, R121). -/

section
namespace Sys2Proof.Machine

/-! ### One page (R9, R119) -/

section
variable {s : State} {p : Nat} (f : State → State) (ha : s.awake = true)
include ha

/-- A command on a header register of a page whose domain is on. -/
theorem headAct_run (on : s.domainOff (pageDomain p) = false) : headAct p s f = .next ((f s).queueOf s) :=
  (coreAct_run _ ha).trans (by rw [if_neg (Bool.eq_false_iff.mp on)])

theorem headAct_off (off : s.domainOff (pageDomain p) = true) : headAct p s f = .next s :=
  (coreAct_run _ ha).trans (by rw [if_pos off, queueOf_self])

end

section
variable {s : State} {p : Fin 50} (ha : s.awake = true)
include ha

section
variable (on : s.domainOff (pageDomain p.val) = false)
include on

theorem exec_monSnap_on : exec (.monSnap p) s = .next (s.monSnapOf p.val) :=
  exec_monSnap.trans ((headAct_run _ ha on).trans (congrArg _ (queueOf_same rfl)))

theorem exec_monClr_on : exec (.monClr p) s = .next (s.monClear p.val) :=
  exec_monClr.trans ((headAct_run _ ha on).trans (congrArg _ (queueOf_same rfl)))

theorem exec_monSelWrite_on {v : Word} : exec (.monSelWrite p v) s =
    .next (((s.store (· == .rw) (0x1000 * p.val + 0x24) v).monClear p.val).queueOf s) :=
  exec_monSelWrite.trans (headAct_run _ ha on)

end

section
variable (off : s.domainOff (pageDomain p.val) = true)
include off

theorem exec_monSnap_off : exec (.monSnap p) s = .next s := exec_monSnap.trans (headAct_off _ ha off)
theorem exec_monClr_off : exec (.monClr p) s = .next s := exec_monClr.trans (headAct_off _ ha off)
theorem exec_monSelWrite_off {v : Word} : exec (.monSelWrite p v) s = .next s := exec_monSelWrite.trans (headAct_off _ ha off)

end

end

/-! ### All pages (R121) -/

theorem snapAll_pending (s : State) : s.snapAll.pending = s.pending := rfl

section
variable {s : State} (may : s.hostMay 0x30 = true)
include may

theorem exec_monAllSnap_eq : exec .monAllSnap s = .next s.snapAll :=
  exec_monAllSnap.trans ((hostAct_run _ may).trans (congrArg _ (queueOf_same (snapAll_pending s))))

theorem exec_monAllClr_eq : exec .monAllClr s = .next { s with monLive := [] } :=
  exec_monAllClr.trans ((hostAct_run _ may).trans (congrArg _ (queueOf_same rfl)))

/-- A time already past snapshots at once. -/
theorem exec_monAllArm_eq :
    exec .monAllArm s = .next ((if s.snapAt ≤ s.now then s.snapAll else { s with monArmed := true }).queueOf s) :=
  exec_monAllArm.trans (hostAct_run _ may)

end

/-! ### The armed snapshot (R121) -/

/-- What the time does not enter into stays where a command moves to its instant. -/
theorem at_keeps {α : Type} {s : State} {ns : Nat} (f : State → α) (moved : f (s.moved ns) = f s) : f (s.at ns) = f s := by
  rcases at_cases s ns with h | h
  · rw [h, moved]
  · rw [h]

/-- Every page's snapshot of a state, taken as the one armed. -/
def State.armedSnap (t : State) : State := ({ t with monArmed := false } : State).snapAll

theorem armedSnap_eq (t : State) :
    t.armedSnap = ({ t with monArmed := false, monSnap := t.monLive } : State).put64 0x30050 0x30054 t.now := rfl
theorem armedSnap_pending (t : State) : t.armedSnap.pending = t.pending := rfl

section
variable {s t : State} (ha : s.awake = true) (ht : s.at s.snapAt = t)
include ha ht

theorem exec_monArmedSnapshot_eq : exec .monArmedSnapshot s =
    .next ((if s.monArmed = true ∧ s.snapAt ≤ t.now then t.armedSnap else s).queueOf s) := by
  have armed : t.monArmed = s.monArmed := ht ▸ at_keeps State.monArmed rfl
  have time : t.snapAt = s.snapAt := ht ▸ at_keeps State.snapAt rfl
  refine (exec_monArmedSnapshot.trans (coreAct_run _ ha)).trans ?_
  dsimp only
  rw [ht, armed, time]
  rfl

/-- At its time the snapshot takes every page's live data, with the PTP time kept. -/
theorem exec_monArmedSnapshot_due (armed : s.monArmed = true) (due : s.snapAt ≤ t.now) : exec .monArmedSnapshot s =
    .next (({ t with monArmed := false, monSnap := s.monLive } : State).put64 0x30050 0x30054 t.now) := by
  have live : t.monLive = s.monLive := ht ▸ at_keeps State.monLive rfl
  have queue : t.pending = s.pending := ht ▸ at_keeps State.pending rfl
  rw [exec_guard_holds (exec_monArmedSnapshot_eq ha ht) ⟨armed, due⟩,
    queueOf_same ((armedSnap_pending t).trans queue), armedSnap_eq, live]

theorem exec_monArmedSnapshot_notDue (h : s.monArmed = false ∨ t.now < s.snapAt) : exec .monArmedSnapshot s = .next s :=
  exec_guard_ignored (exec_monArmedSnapshot_eq ha ht) (by simpa [not_and_or, -not_and] using h)

end

/-- Settles O39: one page's commands by its domain, those of all pages by the snapshot of all. -/
theorem monitors : Obligations.Monitors := by
  unfold Obligations.Monitors
  intro s p v ha
  refine ⟨fun on => ⟨exec_monSnap_on ha on, exec_monClr_on ha on, exec_monSelWrite_on ha on⟩,
    fun off => ⟨exec_monSnap_off ha off, exec_monClr_off ha off, exec_monSelWrite_off ha off⟩, fun may => ?all,
    exec_monArmedSnapshot_due ha rfl, exec_monArmedSnapshot_notDue ha rfl⟩
  case all =>
    have arm := exec_monAllArm_eq may
    refine ⟨exec_monAllSnap_eq may, exec_monAllClr_eq may, fun ahead => ?_, fun past => ?_⟩
    · exact (exec_guard_fails arm (Nat.not_le_of_lt ahead)).trans (congrArg _ (queueOf_same rfl))
    · exact (exec_guard_holds arm past).trans (congrArg _ (queueOf_same (snapAll_pending s)))

end Sys2Proof.Machine
end

/-! PROOFS. The steps of a schedule: each acts where the running context stands at a step of its kind, and gives way at its end (R137,
R158, R159, R161, R162, R164 to R166, R168 to R172). -/

section
namespace Sys2Proof.Machine

/-! ### The end of a step (R13, R139, R164) -/

/-- A run that is to abort ends with its step (R164). -/
theorem stepEnd_aborts {t : State} {n : Nat} (running : t.ctxState n = 3) (abort : (t.ctx n).abortDue = true) :
    t.stepEnd n = t.failRun n 6 := if_pos ⟨running, abort⟩

/-- Any other run goes on, or gives way to a ready context of higher priority. -/
theorem stepEnd_preempts {t : State} {n : Nat} (h : t.ctxState n ≠ 3 ∨ (t.ctx n).abortDue = false) : t.stepEnd n = t.preempt :=
  if_neg fun ⟨running, abort⟩ => h.elim (· running) (Bool.eq_false_iff.mp · abort)

/-! ### A step at its place -/

/-- A command with a place to act at acts there and leaves the state elsewhere. -/
theorem exec_at_place {s t : State} {i : Instr} {place : Bool}
    (guarded : exec i s = .next ((if place = true then t else s).queueOf s)) :
    (place = true → exec i s = .next (t.queueOf s)) ∧ (place = false → exec i s = .next s) :=
  ⟨exec_guard_holds guarded, fun elsewhere => exec_guard_ignored guarded (Bool.eq_false_iff.mp elsewhere)⟩

section
variable {s t : State} {n k : Nat} {i : Instr} {f : State → State} (ha : s.awake = true)
include ha

/-- A step whose work leaves `t` acts where its context stands at a step of its kind, and nowhere else. -/
theorem exec_stepAct_place (runs : exec i s = stepAct n k s f) (work : f (s.runClock n) = t) :
    (s.atStep n k = true → exec i s = .next ((t.stepEnd n).queueOf s)) ∧ (s.atStep n k = false → exec i s = .next s) := by
  subst work
  exact exec_at_place (runs.trans (coreAct_run _ ha))

/-- A test whose work leaves `t` acts where its context stands at a test of its code, and nowhere else. -/
theorem exec_testAct_place (runs : exec i s = testAct n k s f) (work : f (s.runClock n) = t) :
    (s.atTest n k = true → exec i s = .next ((t.stepEnd n).queueOf s)) ∧ (s.atTest n k = false → exec i s = .next s) := by
  subst work
  exact exec_at_place (runs.trans (coreAct_run _ ha))

end

/-- Settles O44: every step and test by its place, the scatter by whether its run is to abort. -/
theorem solverSteps : Obligations.SolverSteps := by
  unfold Obligations.SolverSteps
  intro s n ha
  refine ⟨exec_stepAct_place ha exec_gatherStep rfl, exec_stepAct_place ha exec_kernelStep rfl,
    exec_stepAct_place ha exec_productStep rfl, exec_stepAct_place ha exec_factorStep rfl, exec_stepAct_place ha exec_solveStep rfl,
    exec_stepAct_place ha exec_reduceStep rfl, fun goesOn => ?scatters, fun abort => ?scattersNothing,
    exec_testAct_place ha exec_residTest rfl, exec_testAct_place ha exec_loopTest rfl, exec_testAct_place ha exec_meritTest rfl,
    exec_testAct_place ha exec_baddataTest rfl, exec_testAct_place ha exec_infeasTest rfl,
    fun t => ⟨stepEnd_aborts, stepEnd_preempts⟩⟩
  case scatters => exact exec_stepAct_place ha exec_scatterStep (if_neg (Bool.eq_false_iff.mp goesOn))
  case scattersNothing => exact exec_stepAct_place ha exec_scatterStep (if_pos abort)

end Sys2Proof.Machine
end

/-! PROOFS. What the LOOP, MERIT and INFEAS tests find and what follows, and when a decision is held at a barrier (R169, R170, R171,
R174). -/

section
namespace Sys2Proof.Machine

/-! ### The decisions (R169, R171, R174) -/

section
variable {s : State} {n : Nat} {d : Nat}

/-- With nobody to wait for, a decision is taken at once. -/
theorem decision_takes (h : s.voting = false ∨ s.alone = true ∨ s.barrierSibs n = []) : s.decision n d = s.takeDecision n d :=
  if_pos (by simpa using h)

/-- A voting member with siblings at its barriers stages its decision. -/
theorem decision_stages (votes : s.voting = true) (company : s.alone = false) (sibs : s.barrierSibs n ≠ []) :
    s.decision n d = s.stageMark n d :=
  if_neg (by simp [votes, company, sibs])

end

/-! ### LOOP (R169, R173) -/

/-- An iteration ended: the counts, the longest one, its time given to the monitor, the RESIDs to come counted afresh. -/
def State.iterEnded (s : State) (n : Nat) : State :=
  let c := s.ctx n
  ((s.put (.SLC_ITER_TOTAL n) (s.totalIter n + 1)).setCtx n fun x =>
    { x with iter := x.iter + 1, longest := max x.longest (c.clock - c.iterAt), iterAt := x.clock, residOk := true }).sample 0x0B 1 n
    (c.clock - c.iterAt)

section
variable {s : State} {n : Nat}

/-- Convergence is looked at before the cap, the cap before the deadline. -/
theorem loopTest_eq : s.loopTest n = (s.iterEnded n).decision n (if (s.ctx n).residOk then 1
    else if (s.ctx n).iter + 1 = s.fld (.SLC_ITER_CAP n) then 2 else if s.fld (.SLC_DEADLINE_US n) ≤ (s.ctx n).clock then 3 else 0) := rfl

theorem loopTest_converged (passed : (s.ctx n).residOk = true) : s.loopTest n = (s.iterEnded n).decision n 1 := by
  rw [loopTest_eq, if_pos passed]

section
variable (failed : (s.ctx n).residOk = false)
include failed

theorem loopTest_cap (cap : (s.ctx n).iter + 1 = s.fld (.SLC_ITER_CAP n)) : s.loopTest n = (s.iterEnded n).decision n 2 := by
  rw [loopTest_eq, if_neg (Bool.eq_false_iff.mp failed), if_pos cap]

variable (below : (s.ctx n).iter + 1 ≠ s.fld (.SLC_ITER_CAP n))
include below

theorem loopTest_deadline (late : s.fld (.SLC_DEADLINE_US n) ≤ (s.ctx n).clock) : s.loopTest n = (s.iterEnded n).decision n 3 := by
  rw [loopTest_eq, if_neg (Bool.eq_false_iff.mp failed), if_neg below, if_pos late]

theorem loopTest_branches (early : (s.ctx n).clock < s.fld (.SLC_DEADLINE_US n)) : s.loopTest n = (s.iterEnded n).decision n 0 := by
  rw [loopTest_eq, if_neg (Bool.eq_false_iff.mp failed), if_neg below, if_neg (Nat.not_le_of_lt early)]

end

end

/-! ### MERIT (R170) -/

/-- The merit read and no more: the best iterate stays. -/
def State.meritRead (s : State) (n : Nat) (m : Word) : State := (s.setCtx n fun x => { x with merit := m }).nextStep n

/-- The current iterate kept as the best one, with its merit, its residual slots and its number. -/
def State.bestKept (s : State) (n : Nat) (m : Word) : State :=
  ((s.setCtx n fun x =>
    { x with merit := m, best := some (s.resultVals n), bestMerit := m, bestResid := x.resid, bestIter := s.totalIter n + 1 }).put
    (.SLC_ITER_BEST n) (s.totalIter n + 1)).nextStep n

/-- `m` is the merit that a MERIT step reads: the first element of A in engineering units, 0 where A is no object. -/
structure State.ReadsMerit (s : State) (n : Nat) (m : Word) : Prop where
  value : ∀ a, s.opnd n (s.stepNow n).opa = some a → m = engVal (a.val 0) 0x3F800000 (a.cls 0)
  absent : s.opnd n (s.stepNow n).opa = none → m = 0

section
variable {s : State} {n : Nat} {m : Word} (reads : s.ReadsMerit n m)
include reads

theorem meritTest_eq : s.meritTest n =
    if (s.ctx n).best = none ∨ flt m (s.ctx n).bestMerit = true then s.bestKept n m else s.meritRead n m := by
  obtain ⟨value, absent⟩ := reads
  cases operand : s.opnd n (s.stepNow n).opa with
  | none => simp [State.meritTest, State.bestKept, State.meritRead, operand, absent operand]
  | some a => simp [State.meritTest, State.bestKept, State.meritRead, operand, value a operand]

theorem meritTest_keeps (better : (s.ctx n).best = none ∨ flt m (s.ctx n).bestMerit = true) : s.meritTest n = s.bestKept n m :=
  (meritTest_eq reads).trans (if_pos better)

theorem meritTest_passes (kept : (s.ctx n).best ≠ none) (worse : flt m (s.ctx n).bestMerit = false) :
    s.meritTest n = s.meritRead n m :=
  (meritTest_eq reads).trans (if_neg (not_or.mpr ⟨kept, Bool.eq_false_iff.mp worse⟩))

end

/-! ### INFEAS (R171) -/

/-- The residual of an INFEAS step is at or above its tolerance. -/
def State.infeasFails (s : State) (n : Nat) : Bool :=
  fle (w32 (s.fld (.SLC_TOL (8 * n + (s.stepNow n).param % 8)))) (s.rhoStep n)

/-- The failures in a row of the step, set to `k`. -/
def State.infeasCount (s : State) (n k : Nat) : State :=
  s.setCtx n fun x => { x with infeas := Sparse.put 0 x.infeas (s.ctx n).step k }

section
variable {s : State} {n : Nat}

theorem infeasTest_fails (bad : s.infeasFails n = true) :
    let k := Sparse.at 0 (s.ctx n).infeas (s.ctx n).step + 1
    s.infeasTest n = if max 1 (s.fld .SLC_INFEAS_N) ≤ k then (s.infeasCount n k).decision n 4 else (s.infeasCount n k).nextStep n := by
  unfold State.infeasFails at bad
  simp only [State.infeasTest, bad, if_true]
  rfl

/-- A step that passes starts its count again. -/
theorem infeasTest_passes (good : s.infeasFails n = false) : s.infeasTest n = (s.infeasCount n 0).nextStep n := by
  unfold State.infeasFails at good
  have room : ¬ max 1 (s.fld .SLC_INFEAS_N) ≤ 0 := by omega
  simp only [State.infeasTest, good, Bool.false_eq_true, if_false, room]
  rfl

end

/-- Settles O45: LOOP by the order of its tests, a decision by who waits for it, MERIT by the merit read, INFEAS by its count. -/
theorem solverTests : Obligations.SolverTests := by
  unfold Obligations.SolverTests
  intro s n c total after
  refine ⟨loopTest_converged, loopTest_cap, loopTest_deadline, loopTest_branches, fun t d => ⟨decision_takes, decision_stages⟩,
    ⟨rfl, rfl, rfl, rfl, rfl⟩, fun m value absent => ?merit, ?infeas⟩
  case merit =>
    have reads : s.ReadsMerit n.val m := ⟨value, absent⟩
    exact ⟨meritTest_keeps reads, meritTest_passes reads⟩
  case infeas =>
    intro bad count k
    exact ⟨fun fails full => (infeasTest_fails fails).trans (if_pos full),
      fun fails few => (infeasTest_fails fails).trans (if_neg (Nat.not_le_of_lt few)), infeasTest_passes⟩

end Sys2Proof.Machine
end

/-! PROOFS. How a barrier ends, by agreement, at the time of the siblings' cycle and at the end of the wait (R174, R175, R176); when a test
generator, a capture unit and a saturation window end (R201, R203, R205). -/

section
namespace Sys2Proof.Machine

/-! ### Marks not agreed in time (R175) -/

/-- A barrier counted as split: its group aborted, and the run's flag set. -/
def State.splitCounted (s : State) (n : Nat) : State :=
  ((s.abortGroup (s.fld (.SLC_GRP_SYNC n)) 2).bump (.SLC_SYNC_STAT_SPLIT n)).setCtx n fun x => { x with flags := x.flags ||| 16 }

theorem splitBarrier_noBarrier {s : State} {n : Nat} (free : (s.ctx n).barrier = none) : s.splitBarrier n = s := by
  rw [State.splitBarrier, free]

section
variable {s : State} {n : Nat} {b : Barrier} (barrier : (s.ctx n).barrier = some b)
include barrier

/-- Agreed marks stand, and so does a decision that finishes. -/
theorem splitBarrier_stays (h : s.marksAgree n = true ∨ (b.decision ≠ 0 ∧ b.decision ≠ 5)) : s.splitBarrier n = s := by
  rw [State.splitBarrier, barrier]
  exact if_pos (by simpa using h)

section
variable (unagreed : s.marksAgree n = false)
include unagreed

/-- A decision that goes on is staged again as one that finishes. -/
theorem splitBarrier_replaces (goesOn : b.decision = 0 ∨ b.decision = 5) :
    s.splitBarrier n = (s.splitCounted n).stageMark n (if b.decision = 0 then 3 else 6) := by
  rw [State.splitBarrier, barrier]
  exact if_neg (by simp [unagreed, goesOn])

theorem splitBarrier_continue (continues : b.decision = 0) : s.splitBarrier n = (s.splitCounted n).stageMark n 3 :=
  (splitBarrier_replaces barrier unagreed (.inl continues)).trans (by rw [if_pos continues])

theorem splitBarrier_resolve (resolves : b.decision = 5) : s.splitBarrier n = (s.splitCounted n).stageMark n 6 :=
  (splitBarrier_replaces barrier unagreed (.inr resolves)).trans (by rw [if_neg (by omega)])

end

end

/-! ### The end of the wait (R176) -/

theorem syncExpiry_noBarrier {s : State} {n : Nat} (free : (s.ctx n).barrier = none) : s.syncExpiry n = s := by
  rw [State.syncExpiry, free]

section
variable {s : State} {n : Nat} {b : Barrier} (barrier : (s.ctx n).barrier = some b)
include barrier

theorem syncExpiry_agreed (agreed : s.marksAgree n = true) : s.syncExpiry n = s.leaveBarrier n := by
  rw [State.syncExpiry, barrier]
  exact if_pos agreed

section
variable (unagreed : s.marksAgree n = false)
include unagreed

/-- Of two members neither can tell which is at fault: the run ends. -/
theorem syncExpiry_pair (pair : s.votingSibs.length = 1) :
    s.syncExpiry n = (s.failRun n 6).raise 2 0x0A n 0x0C b.decision := by
  rw [State.syncExpiry, barrier]
  exact (if_neg (Bool.eq_false_iff.mp unagreed)).trans (if_pos pair)

/-- A member that no sibling agrees with finds all of them missing, and is itself the one at fault. -/
theorem syncExpiry_nobodyAgrees (more : s.votingSibs.length ≠ 1)
    (against : ∀ k ∈ s.barrierSibs n, ∀ h, Sparse.at none (s.group (s.fld (.SLC_GRP_SYNC n))).sibHash k = some h →
      h.1 ≠ (s.group (s.fld (.SLC_GRP_SYNC n))).hash) :
    s.syncExpiry n = s.raise 3 0x0A n 0x0B (s.totalIter n) := by
  rw [State.syncExpiry, barrier]
  refine (if_neg (Bool.eq_false_iff.mp unagreed)).trans ((if_neg more).trans (if_pos ?allMissing))
  refine congrArg List.length (List.filter_eq_self.mpr fun k sibling => ?_)
  cases mark : Sparse.at none (s.group (s.fld (.SLC_GRP_SYNC n))).sibHash k with
  | none => rfl
  | some h => simpa using against k sibling h mark

end

end

/-! ### The commands at a barrier -/

section
variable {s : State} {n : Fin 4} (ha : s.awake = true)
include ha

theorem exec_barrierAgreed_eq : exec (.barrierAgreed n) s = .next ((if ((s.ctx n.val).barrier.isSome && s.marksAgree n.val) = true then
    ((s.runClock n.val).leaveBarrier n.val).stepEnd n.val else s).queueOf s) :=
  exec_barrierAgreed.trans (coreAct_run _ ha)

/-- Agreed marks release a barrier. -/
theorem exec_barrierAgreed_leaves {b : Barrier} (barrier : (s.ctx n.val).barrier = some b) (agreed : s.marksAgree n.val = true) :
    exec (.barrierAgreed n) s = .next ((((s.runClock n.val).leaveBarrier n.val).stepEnd n.val).queueOf s) :=
  exec_guard_holds (exec_barrierAgreed_eq ha) (by simp [barrier, agreed])

theorem exec_barrierAgreed_ignored (h : (s.ctx n.val).barrier = none ∨ s.marksAgree n.val = false) :
    exec (.barrierAgreed n) s = .next s := by
  refine exec_guard_ignored (exec_barrierAgreed_eq ha) ?_
  rcases h with free | unagreed
  · simp [free]
  · simp [unagreed]

/-- The time of the siblings' cycle acts as it does on the barrier. -/
theorem exec_barrierTimeout_of {t : State} (split : (s.runClock n.val).splitBarrier n.val = t) :
    exec (.barrierTimeout n) s = .next (t.queueOf s) := by
  subst split
  exact exec_barrierTimeout.trans (coreAct_run _ ha)

/-- The end of the wait acts as it does on the barrier, and ends the step. -/
theorem exec_syncWaitExpiry_of {t : State} (expired : (s.runClock n.val).syncExpiry n.val = t) :
    exec (.syncWaitExpiry n) s = .next ((t.stepEnd n.val).queueOf s) := by
  subst expired
  exact exec_syncWaitExpiry.trans (coreAct_run _ ha)

end

/-! ### Generators, captures, saturation windows (R201, R203, R205) -/

/-- The samples of a test generator have been given, or one without a length has been told to stop. -/
def State.genEnds (s : State) (g : Nat) : Prop :=
  (0 < s.genWord g 4 ∧ s.genWord g 4 ≤ (s.gen g).k) ∨ (s.genWord g 4 = 0 ∧ s.flag (.LOP_TEST_RUN g) = false)

theorem endGen_on {s : State} {g : Nat} (on : (s.gen g).on = true) : s.endGen g =
    ((s.setGen g { s.gen g with on := false }).putB (.LOP_TEST_STAT_DONE g) true).putB (.LOP_TEST_RUN g) false := if_pos on

theorem endGen_off {s : State} {g : Nat} (off : (s.gen g).on = false) : s.endGen g = s := if_neg (Bool.eq_false_iff.mp off)

section
variable {s : State} (ha : s.awake = true)
include ha

theorem exec_testGeneratorEnd_ends {g : Fin 8} (ends : s.genEnds g.val) :
    exec (.testGeneratorEnd g) s = .next ((s.endGen g.val).queueOf s) :=
  exec_guard_holds (exec_testGeneratorEnd.trans (coreAct_run _ ha)) (by simpa [State.genEnds] using ends)

/-- A generator that goes on, and one that does not run, stays as it is. -/
theorem exec_testGeneratorEnd_ignored {g : Fin 8} (h : ¬ s.genEnds g.val ∨ (s.gen g.val).on = false) :
    exec (.testGeneratorEnd g) s = .next s := by
  by_cases ends : s.genEnds g.val
  · have off := h.resolve_left (not_not_intro ends)
    rw [exec_testGeneratorEnd_ends ha ends, endGen_off off, queueOf_self]
  · exact exec_guard_ignored (exec_testGeneratorEnd.trans (coreAct_run _ ha)) (by simpa [State.genEnds] using ends)

theorem exec_captureDone_eq {u : Fin 4} : exec (.captureDone u) s =
    .next ((if (s.capture u.val).state = 3 ∧ s.capTotal u.val - s.capPre u.val ≤ (s.capture u.val).post then
      (s.endCapture u.val 4).discardEvents else s).queueOf s) :=
  exec_captureDone.trans (coreAct_run _ ha)

theorem exec_saturationWindowEnd_eq {l : Fin 512} {size : Nat} (hs : max 15 (bitsOf (s.slotCfg l.val 0x2C).toNat 31 16) + 1 = size) :
    exec (.saturationWindowEnd l) s =
      .next ((if size ≤ (s.slotOf l.val).satN then s.satWindowEnd l.val (s.slotOf l.val).satCnt size else s).queueOf s) := by
  subst hs
  exact exec_saturationWindowEnd.trans (coreAct_run _ ha)

end

/-- Settles O46: a barrier by its marks and its decision, the generator, the capture and the window each by the guard of its end. -/
theorem barriersAndEnds : Obligations.BarriersAndEnds := by
  unfold Obligations.BarriersAndEnds
  intro s n g l ha runs c
  refine ⟨fun b barrier => ⟨exec_barrierAgreed_leaves ha barrier, fun unagreed => exec_barrierAgreed_ignored ha (.inr unagreed)⟩,
    fun free => exec_barrierAgreed_ignored ha (.inl free),
    fun free => ⟨exec_barrierTimeout_of ha (splitBarrier_noBarrier free), exec_syncWaitExpiry_of ha (syncExpiry_noBarrier free)⟩,
    fun b barrier => ?barrier, ?generator, ?capture, ?window⟩
  case barrier =>
    refine ⟨⟨fun unagreed continues => exec_barrierTimeout_of ha (splitBarrier_continue barrier unagreed continues),
      fun unagreed resolves => exec_barrierTimeout_of ha (splitBarrier_resolve barrier unagreed resolves),
      fun finishes => exec_barrierTimeout_of ha (splitBarrier_stays barrier finishes)⟩,
      fun agreed => exec_syncWaitExpiry_of ha (syncExpiry_agreed barrier agreed),
      fun unagreed pair => exec_syncWaitExpiry_of ha (syncExpiry_pair barrier unagreed pair),
      fun unagreed more against => exec_syncWaitExpiry_of ha (syncExpiry_nobodyAgrees barrier unagreed more against),
      exec_syncWaitExpiry_of ha rfl⟩
  case generator =>
    exact ⟨fun ends on => (exec_testGeneratorEnd_ends ha ends).trans (by rw [endGen_on on]), exec_testGeneratorEnd_ignored ha⟩
  case capture => exact ⟨exec_guard_holds (exec_captureDone_eq ha), exec_guard_ignored (exec_captureDone_eq ha)⟩
  case window =>
    have window := exec_saturationWindowEnd_eq (l := l) ha rfl
    exact ⟨exec_guard_holds window, fun short => exec_guard_ignored window (Nat.not_le_of_lt short)⟩

end Sys2Proof.Machine
end

/-! PROOFS. The words of scan code: the fields of a word, which words and instructions are well-formed, and that the encoder and the decoder
are inverse to each other (R217, R219, R222). -/

section
namespace Sys2Proof.Machine

/-! ### The fields of a word (R217) -/

theorem opcode_eq (w : Word) : bitsOf w.toNat 31 26 = (w >>> 26).toNat := by
  simp only [bitsOf, BitVec.toNat_ushiftRight, Nat.shiftRight_eq_div_pow]
  omega

theorem opcode_lt (w : Word) : (w >>> 26).toNat < 64 := by
  simp only [BitVec.toNat_ushiftRight, Nat.shiftRight_eq_div_pow]
  omega

theorem d3_append_mod (d k : BitVec 3) : (d ++ k).toNat % 8 = k.toNat := by
  rw [BitVec.toNat_append, ← Nat.shiftLeft_add_eq_or_of_lt k.isLt, Nat.shiftLeft_eq]
  omega

theorem d3_append_div (d k : BitVec 3) : (d ++ k).toNat / 8 = d.toNat := by
  rw [BitVec.toNat_append, ← Nat.shiftLeft_add_eq_or_of_lt k.isLt, Nat.shiftLeft_eq]
  omega

section
variable {op : Nat} {d a : BitVec 6} {b : BitVec 14} (known : op < 64)
include known

theorem scanWord_toNat : (scanWord op d a b).toNat = op * 2 ^ 26 + d.toNat * 2 ^ 20 + a.toNat * 2 ^ 14 + b.toNat := by
  have := Nat.mod_eq_of_lt known
  simp only [scanWord, BitVec.toNat_append, BitVec.toNat_ofNat]
  rw [← Nat.shiftLeft_add_eq_or_of_lt b.isLt, ← Nat.shiftLeft_add_eq_or_of_lt a.isLt, ← Nat.shiftLeft_add_eq_or_of_lt d.isLt]
  simp only [Nat.shiftLeft_eq]
  omega

/-- The bits of a field within a word built of its fields. -/
theorem bitsOf_scanWord (hi lo : Nat) : bitsOf (scanWord op d a b).toNat hi lo =
    (op * 2 ^ 26 + d.toNat * 2 ^ 20 + a.toNat * 2 ^ 14 + b.toNat) / 2 ^ lo % 2 ^ (hi - lo + 1) := by
  rw [bitsOf, scanWord_toNat known, Nat.shiftRight_eq_div_pow]

theorem scanWord_opcode : (scanWord op d a b >>> 26).toNat = op := by
  rw [← opcode_eq, bitsOf_scanWord known]
  omega

theorem scanWord_d : (scanWord op d a b >>> 20).setWidth 6 = d := by
  apply BitVec.eq_of_toNat_eq
  simp only [BitVec.toNat_setWidth, BitVec.toNat_ushiftRight, scanWord_toNat known, Nat.shiftRight_eq_div_pow]
  omega

theorem scanWord_a : (scanWord op d a b >>> 14).setWidth 6 = a := by
  apply BitVec.eq_of_toNat_eq
  simp only [BitVec.toNat_setWidth, BitVec.toNat_ushiftRight, scanWord_toNat known, Nat.shiftRight_eq_div_pow]
  omega

theorem scanWord_b : (scanWord op d a b).setWidth 14 = b := by
  apply BitVec.eq_of_toNat_eq
  simp only [BitVec.toNat_setWidth, scanWord_toNat known]
  omega

theorem scanWord_d3 {d k : BitVec 3} : (scanWord op (d ++ k) a b >>> 23).setWidth 3 = d := by
  have := d3_append_div d k
  apply BitVec.eq_of_toNat_eq
  simp only [BitVec.toNat_setWidth, BitVec.toNat_ushiftRight, scanWord_toNat known, Nat.shiftRight_eq_div_pow]
  omega

/-- The payload of a PFX. -/
theorem scanWord_payload {p : BitVec 10} : (scanWord op d a (p.setWidth 14)).setWidth 10 = p := by
  apply BitVec.eq_of_toNat_eq
  simp only [BitVec.toNat_setWidth, scanWord_toNat known]
  omega

end

/-- Every word is built of its fields. -/
theorem scanWord_fields (w : Word) :
    scanWord (w >>> 26).toNat ((w >>> 20).setWidth 6) ((w >>> 14).setWidth 6) (w.setWidth 14) = w := by
  apply BitVec.eq_of_toNat_eq
  rw [scanWord_toNat (opcode_lt w)]
  simp only [BitVec.toNat_setWidth, BitVec.toNat_ushiftRight, Nat.shiftRight_eq_div_pow]
  omega

theorem scanWord_of_opcode {w : Word} {op : Nat} (h : (w >>> 26).toNat = op) :
    scanWord op ((w >>> 20).setWidth 6) ((w >>> 14).setWidth 6) (w.setWidth 14) = w := by
  rw [← h, scanWord_fields]

/-- The two halves of field D, by what the lower one holds. -/
theorem d3_append {w : Word} {k : BitVec 3} (low : ((w >>> 20).setWidth 6).toNat % 8 = k.toNat) :
    (w >>> 23).setWidth 3 ++ k = (w >>> 20).setWidth 6 := by
  have upper := d3_append_div ((w >>> 23).setWidth 3) k
  have lower := d3_append_mod ((w >>> 23).setWidth 3) k
  apply BitVec.eq_of_toNat_eq
  simp only [BitVec.toNat_setWidth, BitVec.toNat_ushiftRight, Nat.shiftRight_eq_div_pow] at *
  omega

/-- A PFX word holds 0 above its payload. -/
theorem scanWord_payload_eq {w : Word} (opcode : (w >>> 26).toNat = 0x3F) (rest : ((w >>> 20).setWidth 6 : BitVec 6).toNat * 2 ^ 20 +
    ((w >>> 14).setWidth 6 : BitVec 6).toNat * 2 ^ 14 + (w.setWidth 14 : BitVec 14).toNat < 1024) :
    scanWord 0x3F 0 0 ((w.setWidth 10).setWidth 14) = w := by
  apply BitVec.eq_of_toNat_eq
  rw [scanWord_toNat (by decide)]
  simp only [BitVec.toNat_setWidth, BitVec.toNat_ushiftRight, Nat.shiftRight_eq_div_pow, BitVec.ofNat_eq_ofNat, BitVec.toNat_ofNat] at *
  omega

/-! ### Well-formed words and instructions (R217, R222) -/

theorem badB_eq_not_operandOk (b : BitVec 14) : badB b = !operandOk b := by
  simp only [badB, operandOk, Bool.not_or, ← decide_not, Nat.not_lt]

/-- Does an opcode's instruction have an operand B′ (R219)? -/
def hasOperand (op : Nat) : Bool := (0x11 ≤ op && op ≤ 0x1E) || op == 0x20 || op == 0x21 || op == 0x33 || op == 0x34

/-- Which fields a word may not hold, by its opcode (R219, R222). -/
def badFields (op : Nat) (d a : BitVec 6) (b : BitVec 14) : Bool :=
  (0x35 ≤ op && op ≤ 0x3E) || (op == 0x3F && decide (1024 ≤ d.toNat * 2 ^ 20 + a.toNat * 2 ^ 14 + b.toNat)) ||
    (hasOperand op && !operandOk b) || (op == 0x10 && 16 ≤ a.toNat) ||
    (op == 0x2E && (4 ≤ d.toNat % 8 || (d.toNat % 8 == 1 && d.toNat / 8 == 5 && a.toNat == 63))) ||
    (op == 0x2A && 6 ≤ a.toNat % 8) || (op == 0x2C && a.toNat % 4 == 3) || ((op == 0x2D || op == 0x27) && d.toNat % 4 == 3)

theorem badWord_scanWord {op : Nat} {d a : BitVec 6} {b : BitVec 14} (known : op < 64) :
    badWord (scanWord op d a b) = badFields op d a b := by
  have opcode : bitsOf (scanWord op d a b).toNat 31 26 = op := by rw [opcode_eq, scanWord_opcode known]
  have fieldD : bitsOf (scanWord op d a b).toNat 25 20 = d.toNat := by rw [bitsOf_scanWord known]; omega
  have fieldA : bitsOf (scanWord op d a b).toNat 19 14 = a.toNat := by rw [bitsOf_scanWord known]; omega
  have reserved : (bitsOf (scanWord op d a b).toNat 25 10 != 0) =
      decide (1024 ≤ d.toNat * 2 ^ 20 + a.toNat * 2 ^ 14 + b.toNat) := by
    rw [bitsOf_scanWord known, bne, Bool.eq_iff_iff]
    simp only [Bool.not_eq_true', beq_eq_false_iff_ne, decide_eq_true_eq]
    omega
  simp only [badWord, opcode, fieldD, fieldA, reserved, scanWord_b known, badB_eq_not_operandOk]
  rfl

theorem badFields_reserved {op : Nat} {d a : BitVec 6} {b : BitVec 14} (good : badFields op d a b = false) :
    ¬ (0x35 ≤ op ∧ op ≤ 0x3E) := by
  rintro ⟨low, high⟩
  simp [badFields, low, high] at good

theorem badFields_group {d a : BitVec 6} {b : BitVec 14} (good : badFields 0x2E d a b = false) : d.toNat % 8 < 4 := by
  simp [badFields, hasOperand] at good
  exact good.1

theorem badFields_pfx {d a : BitVec 6} {b : BitVec 14} (good : badFields 0x3F d a b = false) :
    d.toNat * 2 ^ 20 + a.toNat * 2 ^ 14 + b.toNat < 1024 := by
  simpa [badFields, hasOperand] using good

theorem badWord_eq (w : Word) :
    badWord w = badFields (w >>> 26).toNat ((w >>> 20).setWidth 6) ((w >>> 14).setWidth 6) (w.setWidth 14) := by
  rw [← badWord_scanWord (opcode_lt w), scanWord_fields]

/-- An instruction is well-formed where its word is. -/
theorem wf_eq_not_badWord {i : Instr} {w : Word} (e : scanEncode i = some w) : i.wf = !badWord w := by
  cases i with
  | nop | ldb | andb | orb | xorb | stb | srb | tstw | putb | notb | edge | ldw | stw | ldl | stl | ldi | fcvt | jmp | lpb | lpe | call
  | ret | ctr | tcrd | rds | stg | rstg | erd | eret =>
    obtain rfl := Option.some.inj e
    rw [badWord_scanWord (by decide)]
    rfl
  | sel _ _ b | and _ _ b | or _ _ b | xor _ _ b | shl _ _ b | shr _ _ b | sar _ _ b | add _ _ b | sub _ _ b | mul _ _ b | div _ _ b
  | cmp _ _ b | fadd _ _ b | fsub _ _ b | fmul _ _ b | fdiv _ _ b | flim _ _ b | fcmp _ _ b =>
    obtain rfl := Option.some.inj e
    simp [badWord_scanWord, badFields, hasOperand, Instr.wf]
  | ldhi | rdl =>
    obtain rfl := Option.some.inj e
    rw [badWord_scanWord (by decide), Bool.eq_iff_iff]
    simp [badFields, hasOperand, Instr.wf]
  | tmr | rdq | raise =>
    obtain rfl := Option.some.inj e
    rw [badWord_scanWord (by decide), Bool.eq_iff_iff]
    simp [badFields, hasOperand, Instr.wf]
    omega
  | grpSelect d | grpArm d | grpAbort d =>
    obtain rfl := Option.some.inj e
    rw [badWord_scanWord (by decide)]
    simp [badFields, hasOperand, Instr.wf, d3_append_mod]
  | grpOpen d a =>
    obtain rfl := Option.some.inj e
    rw [badWord_scanWord (by decide)]
    rw [Bool.eq_iff_iff]
    simp [badFields, hasOperand, Instr.wf, d3_append_mod, d3_append_div, ← BitVec.toNat_inj]
  | pfx p =>
    obtain rfl := Option.some.inj e
    rw [badWord_scanWord (by decide)]
    have := p.isLt
    simp [badFields, hasOperand, Instr.wf]
    omega
  | _ => exact nomatch e

/-! ### The decoder after the encoder, and the encoder after the decoder -/

theorem scanDecode_scanEncode {i : Instr} {w : Word} (e : scanEncode i = some w) (good : badWord w = false) : scanDecode w = some i := by
  cases i with
  | nop | ldb | andb | orb | xorb | stb | srb | tstw | putb | notb | edge | ldw | stw | ldl | stl | ldi | fcvt | jmp | lpb | lpe | call
  | ret | ctr | tcrd | rds | stg | rstg | erd | eret
  | sel | and | or | xor | shl | shr | sar | add | sub | mul | div | cmp | fadd | fsub | fmul | fdiv | flim | fcmp | ldhi | tmr | rdl | rdq
  | raise =>
    obtain rfl := Option.some.inj e
    simp only [scanDecode, good, Bool.false_eq_true, if_false, Nat.reduceLT, scanWord_opcode, scanWord_d, scanWord_a, scanWord_b]
  | grpSelect d | grpArm d | grpAbort d | grpOpen d =>
    obtain rfl := Option.some.inj e
    simp only [scanDecode, good, Bool.false_eq_true, if_false, Nat.reduceLT, scanWord_opcode, scanWord_d, scanWord_a, scanWord_b,
      d3_append_mod, scanWord_d3]
    rfl
  | pfx p =>
    obtain rfl := Option.some.inj e
    simp only [scanDecode, good, Bool.false_eq_true, if_false, Nat.reduceLT, scanWord_opcode, scanWord_payload]
  | _ => exact nomatch e

/-- A word that is not malformed spells an instruction, whose word it is. -/
theorem exists_scanDecode {w : Word} (good : badWord w = false) : ∃ i, scanDecode w = some i ∧ scanEncode i = some w := by
  have fields := badWord_eq w ▸ good
  simp only [scanDecode, good, Bool.false_eq_true, if_false]
  split
  case h_47 opcode => -- 0x2E, the group instructions by D[2:0]
    split
    case h_5 =>
      have noKind := badFields_group (opcode ▸ fields)
      simp only [imp_false] at *
      omega
    all_goals exact ⟨_, rfl, congrArg some ((congrArg (scanWord _ · _ _) (d3_append ‹_›)).trans (scanWord_of_opcode opcode))⟩
  case h_54 opcode => -- 0x3F, PFX
    exact ⟨_, rfl, congrArg some (scanWord_payload_eq opcode (badFields_pfx (opcode ▸ fields)))⟩
  case h_55 => -- no opcode of the table
    have reserved := badFields_reserved fields
    have := opcode_lt w
    simp only [imp_false] at *
    omega
  all_goals exact ⟨_, rfl, congrArg some (scanWord_of_opcode ‹_›)⟩

/-- Settles O7: the decoder takes the fields apart that the encoder put together. -/
theorem scanDecodeOfEncode : Obligations.ScanDecodeOfEncode := by
  unfold Obligations.ScanDecodeOfEncode
  intro i w wf e
  exact scanDecode_scanEncode e (by simpa [wf] using wf_eq_not_badWord e)

theorem scanDecode_bad {w : Word} (bad : badWord w = true) : scanDecode w = none := by rw [scanDecode, if_pos bad]

/-- Settles O8: a word that decodes is not malformed, and its instruction encodes to it. -/
theorem scanEncodeOfDecode : Obligations.ScanEncodeOfDecode := by
  unfold Obligations.ScanEncodeOfDecode
  intro w i h
  cases bad : badWord w with
  | true => exact absurd h (by simp [scanDecode_bad bad])
  | false =>
    obtain ⟨j, decoded, e⟩ := exists_scanDecode bad
    obtain rfl : i = j := Option.some.inj (h.symm.trans decoded)
    exact ⟨e, by simp [wf_eq_not_badWord e, bad]⟩

/-- Settles O10: by running the decoder on each word. -/
theorem scanWordsOfTheTable : Obligations.ScanWordsOfTheTable := by
  unfold Obligations.ScanWordsOfTheTable
  decide

end Sys2Proof.Machine
end

/-! PROOFS. What a scan code instruction does where the engine does not stand at it, where it is malformed, and after a lockstep mismatch
(R208, R217, R222). -/

section
namespace Sys2Proof.Machine

/-! ### Instructions as operations -/

section
variable {s : State} {d a : BitVec 6} {b : BitVec 14}

theorem badB_of (bad : operandOk b = false) : badB b = true := by rw [badB_eq_not_operandOk, bad]; rfl

variable (bad : operandOk b = false)
include bad

theorem binOp_bad {f : Word → Word → Word} : s.binOp d a b f = s.badOpcode := if_pos (badB_of bad)
theorem floatOp_bad {f : Word → Word → Word} : s.floatOp d a b f = s.badOpcode := if_pos (badB_of bad)
theorem satOp_bad {f : Word → Word → Word × Bool} : s.satOp d a b f = s.badOpcode := if_pos (badB_of bad)

end

/-- A scan code instruction is an operation at its word. A malformed one ends the cycle. -/
theorem exec_scan {i : Instr} {w : Word} (e : scanEncode i = some w) : ∃ op d a b, ∃ f : State → State,
    w = scanWord op d a b ∧ (∀ s, exec i s = scanOp op d a b s f) ∧ (i.wf = false → ∀ s, f s = s.badOpcode) := by
  cases i with
  | nop | ldb | andb | orb | xorb | stb | srb | tstw | putb | notb | edge | ldw | stw | ldl | stl | ldi | fcvt | jmp | lpb | lpe | call
  | ret | ctr | tcrd | rds | stg | rstg | erd | eret | grpSelect | grpArm | grpAbort | pfx =>
    obtain rfl := Option.some.inj e
    exact ⟨_, _, _, _, _, rfl, fun s => by unfold exec; rfl, nofun⟩
  | sel d a b | and d a b | or d a b | xor d a b | shl d a b | shr d a b | sar d a b =>
    obtain rfl := Option.some.inj e
    exact ⟨_, _, _, _, _, rfl, fun s => by unfold exec; rfl, fun bad s => binOp_bad bad⟩
  | add d a b | sub d a b | mul d a b | div d a b =>
    obtain rfl := Option.some.inj e
    exact ⟨_, _, _, _, _, rfl, fun s => by unfold exec; rfl, fun bad s => satOp_bad bad⟩
  | fadd d a b | fsub d a b | fmul d a b | fdiv d a b | flim d a b =>
    obtain rfl := Option.some.inj e
    exact ⟨_, _, _, _, _, rfl, fun s => by unfold exec; rfl, fun bad s => floatOp_bad bad⟩
  | cmp d a b | fcmp d a b =>
    obtain rfl := Option.some.inj e
    exact ⟨_, _, _, _, _, rfl, fun s => by unfold exec; rfl, fun bad s => if_pos (badB_of bad)⟩
  | ldhi d a | tmr d a | rdl d a | rdq d a | raise d a =>
    obtain rfl := Option.some.inj e
    refine ⟨_, _, _, _, _, rfl, fun s => by unfold exec; rfl, fun bad s => if_pos ?_⟩
    have := of_decide_eq_false bad
    omega
  | grpOpen d3 a =>
    obtain rfl := Option.some.inj e
    refine ⟨_, _, _, _, _, rfl, fun s => by unfold exec; rfl, fun bad s => if_pos ?_⟩
    simpa [Instr.wf, ← BitVec.toNat_inj] using bad
  | _ => exact nomatch e

/-! ### Elsewhere, malformed, after a mismatch -/

/-- A command whose operation leaves the state, whether the core domains run or not. -/
theorem coreAct_same {s : State} {f : State → State} (same : f s = s) : coreAct s f = .next s := by
  rw [coreAct, same, ite_self, effect_self]

theorem fld_putB_other {s : State} {f g : Fd} {v : Bool} (wf : s.regsWf = true) (apart : g.adr ≠ f.adr) :
    (s.putB f v).fld g = s.fld g := by
  rw [State.fld, State.putB, put_other apart wf, State.fld]

theorem flag_putB_other {s : State} {f g : Fd} {v : Bool} (wf : s.regsWf = true) (apart : g.adr ≠ f.adr) :
    (s.putB f v).flag g = s.flag g := by
  rw [State.flag, fld_putB_other wf apart, State.flag]

theorem flag_putB_false {s : State} {f : Fd} (wf : s.regsWf = true) (hf : f.lo ≤ f.hi) (h32 : f.hi < 32) :
    (s.putB f false).flag f = false := by
  rw [State.flag, State.putB, fld_put_same wf hf h32]
  simp [b2n]

theorem inProgram_putB_other {s : State} {f : Fd} {v : Bool} (wf : s.regsWf = true) (apart : 0xD040 ≠ f.adr) :
    (s.putB f v).inProgram = s.inProgram := by
  rw [State.inProgram, fld_putB_other wf apart, flag_putB_other wf apart, State.inProgram]

section
variable {i : Instr} {w : Word} {s : State} (e : scanEncode i = some w)
include e

theorem exec_scan_elsewhere (elsewhere : s.atCode w = false) : exec i s = .next s := by
  obtain ⟨op, d, a, b, f, rfl, runs, -⟩ := exec_scan e
  rw [runs, scanOp]
  cases awake : s.awake with
  | false => exact coreAct_held _ awake
  | true =>
    rw [State.atCode, awake, Bool.true_and] at elsewhere
    rw [coreAct_run _ awake, State.atWord, elsewhere, if_neg Bool.false_ne_true, queueOf_self]

theorem exec_scan_malformed (here : s.atInstr i = true) (bad : i.wf = false) : exec i s = .next (s.badOpcode.queueOf s) := by
  obtain ⟨op, d, a, b, f, rfl, runs, ends⟩ := exec_scan e
  rw [scanOp_exec here (runs s) e, ends bad]

theorem exec_scan_clears (wf : s.regsWf = true) (stands : s.atCode w = true) (failed : s.flag .WIR_ST_STAT_LOCKSTEP_FAIL = true) :
    exec i s = exec i (s.putB .WIR_ST_STAT_LOCKSTEP_FAIL false) := by
  obtain ⟨op, d, a, b, f, rfl, runs, -⟩ := exec_scan e
  simp only [State.atCode, Bool.and_eq_true, and_assoc] at stands
  obtain ⟨awake, program, word⟩ := stands
  have cleared := flag_putB_false (f := .WIR_ST_STAT_LOCKSTEP_FAIL) wf (by decide) (by decide)
  have stays : (s.putB .WIR_ST_STAT_LOCKSTEP_FAIL false).inProgram = s.inProgram := inProgram_putB_other wf (by decide)
  simp only [runs, scanOp, coreAct, effect, putB_awake, awake, State.atWord, stays, program, putB_scn, word, cleared, failed,
    Bool.and_self, if_true, Bool.false_eq_true, if_false, putB_pending]

end

theorem exec_reservedOpcode_eq {w : Word} {s : State} (ha : s.awake = true) : exec (.reservedOpcode w) s =
    .next ((if s.atCode w = true ∧ (badWord w = true ∨ ((w >>> 26).toNat = 0x32 ∧ s.scn.serving = none)) then s.badOpcode
      else s).queueOf s) := by
  rw [exec_reservedOpcode, execReservedOpcode, coreAct_run _ ha]
  simp only [State.atCode, ha, Bool.true_and, Bool.and_eq_true, beq_iff_eq, and_assoc, opcode_eq, Option.isNone_iff_eq_none]

theorem exec_reservedOpcode_held {w : Word} {s : State} (ha : s.awake = false) : exec (.reservedOpcode w) s = .next s :=
  coreAct_held _ ha

theorem atCode_awake {s : State} {w : Word} (stands : s.atCode w = true) : s.awake = true := by
  simp only [State.atCode, Bool.and_eq_true] at stands
  exact stands.1.1

/-- Settles O9: a word is malformed or decodes; a reserved word by its guard; an instruction by its operation at its word. -/
theorem scanMalformedWords : Obligations.ScanMalformedWords := by
  unfold Obligations.ScanMalformedWords
  refine ⟨fun w => ?words, fun w s => ?reserved, fun i w s e => ⟨exec_scan_elsewhere e, exec_scan_malformed e, exec_scan_clears e⟩⟩
  case words =>
    refine ⟨fun none => ?_, scanDecode_bad⟩
    by_contra good
    obtain ⟨i, decoded, -⟩ := exists_scanDecode (Bool.eq_false_iff.mpr good)
    exact nomatch none.symm.trans decoded
  case reserved =>
    refine ⟨fun stands bad => ?bad, fun stands eret idle => ?eret, fun other => ?other⟩
    case bad => exact exec_guard_holds (exec_reservedOpcode_eq (atCode_awake stands)) ⟨stands, .inl bad⟩
    case eret => exact exec_guard_holds (exec_reservedOpcode_eq (atCode_awake stands)) ⟨stands, .inr ⟨eret, idle⟩⟩
    case other =>
      cases ha : s.awake with
      | false => exact exec_reservedOpcode_held ha
      | true =>
        refine exec_guard_ignored (exec_reservedOpcode_eq ha) fun ⟨stands, h⟩ => ?_
        rcases other with elsewhere | ⟨good, notEret⟩
        · exact absurd stands (Bool.eq_false_iff.mp elsewhere)
        · rcases h with bad | ⟨eret, idle⟩
          · exact absurd bad (Bool.eq_false_iff.mp good)
          · exact notEret.elim (· eret) (· idle)

end Sys2Proof.Machine
end

/-! PROOFS. Scan code on BA and words: the operands, what an instruction that writes a register or BA leaves, and the results of the moves,
the logic and the shifts (R217 to R220). -/

section
namespace Sys2Proof.Machine

/-! ### Operands (R217) -/

theorem opB_eq (s : State) (b : BitVec 14) :
    s.opB b = if b.getLsbD 13 then (b.extractLsb' 0 13).signExtend 32 else s.wreg (b.extractLsb' 0 6) := rfl

theorem badB_ok {b : BitVec 14} (good : operandOk b = true) : ¬ badB b = true := by rw [badB_eq_not_operandOk, good]; decide

/-! ### What an instruction leaves -/

section
variable {s t : State} {i : Instr}

/-- An instruction that writes a register: PC goes on, a PFX has served, nothing else changes. -/
theorem exec_writesW {d : BitVec 6} {v : Word} (runs : exec i s = .next (t.queueOf s)) (result : t = (s.setW d v).next) :
    exec i s = .next (s.setScn fun x => { x with w := Sparse.put 0 x.w d.toNat v, pc := x.pc + 1, pfx := none }) := by
  rw [runs, result]
  rfl

/-- An instruction that writes BA, likewise. -/
theorem exec_writesBA {v : Bool} (runs : exec i s = .next (t.queueOf s)) (result : t = (s.setBA v).next) :
    exec i s = .next (s.setScn fun x => { x with ba := v, pc := x.pc + 1, pfx := none }) := by
  rw [runs, result]
  rfl

theorem binOp_ok {d a : BitVec 6} {b : BitVec 14} {f : Word → Word → Word} (good : operandOk b = true) :
    s.binOp d a b f = (s.setW d (f (s.wreg a) (s.opB b))).next := if_neg (badB_ok good)

end

/-! ### The results -/

/-- LDHI puts its 18 bits over the upper part of a word. -/
theorem upper_bits (a : BitVec 6) (b : BitVec 14) (w : Word) :
    (a.setWidth 4 ++ b ++ w.setWidth 14 : BitVec 32) = ((a.extractLsb' 0 4 ++ b).setWidth 32 <<< 14) ||| (w &&& 0x3FFF#32) := by
  have low (i : Nat) : (0x3FFF#32).getLsbD i = decide (i < 14) := Nat.testBit_two_pow_sub_one 14 i
  refine BitVec.eq_of_getLsbD_eq fun i hi => ?_
  have width : i < 32 := hi
  rw [BitVec.getLsbD_append, BitVec.getLsbD_append, BitVec.getLsbD_or, BitVec.getLsbD_and, low, BitVec.getLsbD_shiftLeft]
  rcases Nat.lt_or_ge i 14 with below | above
  · simp [below]
  · have upper : i - 14 < 32 := by omega
    simp [Nat.not_lt.mpr above, width, upper]
    refine Eq.trans ?_ BitVec.getLsbD_append.symm
    simp

theorem opLdhi_eq {s : State} {d a : BitVec 6} {b : BitVec 14} (small : a.toNat < 16) :
    s.opLdhi d a b = (s.setW d (((a.extractLsb' 0 4 ++ b).setWidth 32 <<< 14) ||| (s.wreg d &&& 0x3FFF#32))).next := by
  rw [State.opLdhi, if_neg (by omega), upper_bits]

theorem immed_plain {s : State} {b : BitVec 14} (plain : s.scn.pfx = none) : s.immed b = b.signExtend 32 := by rw [State.immed, plain]

theorem immed_prefixed {s : State} {b : BitVec 14} {p : BitVec 10} (prefixed : s.scn.pfx = some p) :
    s.immed b = (p ++ b).signExtend 32 := by rw [State.immed, prefixed]

/-- Settles O11: each instruction by its operation, the register it writes or BA. -/
theorem scanWordResults : Obligations.ScanWordResults := by
  unfold Obligations.ScanWordResults
  intro d a b s word bit bPrime
  have operand : s.opB b = bPrime := opB_eq s b
  clear_value bPrime
  subst operand
  refine ⟨fun here => scan_nop here, fun here => exec_writesBA (scan_tstw here) rfl, fun here => exec_writesBA (scan_notb here) rfl,
    fun here => exec_writesW (scan_putb here) rfl, fun small here => exec_writesW (scan_ldhi here) (opLdhi_eq small),
    fun plain here => exec_writesW (scan_ldi here) (by rw [← immed_plain plain]; rfl),
    fun p prefixed here => exec_writesW (scan_ldi here) (by rw [← immed_prefixed prefixed]; rfl), 
    fun good => ⟨fun here => exec_writesW (scan_sel here) (binOp_ok good), fun here => exec_writesW (scan_and here) (binOp_ok good),
      fun here => exec_writesW (scan_or here) (binOp_ok good), fun here => exec_writesW (scan_xor here) (binOp_ok good),
      fun here => exec_writesW (scan_shl here) (binOp_ok good), fun here => exec_writesW (scan_shr here) (binOp_ok good),
      fun here => exec_writesW (scan_sar here) (binOp_ok good)⟩⟩

end Sys2Proof.Machine
end

/-! PROOFS. Scan code arithmetic and comparisons, on integers and on floats: saturation, division by 0, conversion, and the condition codes
(R219, R220). -/

section
namespace Sys2Proof.Machine

/-! ### Integer arithmetic (R220) -/

/-- A register written with an integer, in the state of an instruction that ends. -/
def State.intResult (t : State) (d : BitVec 6) (v : Int) : State := (t.setW d (BitVec.ofInt 32 v)).next

section
variable {s : State} {i : Instr} {d a : BitVec 6} {b : BitVec 14} {f : Word → Word → Word × Bool}

theorem satOp_ok (good : operandOk b = true) : s.satOp d a b f =
    ((s.setW d (f (s.wreg a) (s.opB b)).1).setOvf (f (s.wreg a) (s.opB b)).2).next := if_neg (badB_ok good)

/-- An integer that saturates sets OVF. -/
theorem satWord_result (s : State) (d : BitVec 6) (v : Int) : ((s.setW d (satWord v).1).setOvf (satWord v).2).next =
    if v < -2147483648 then (s.putB .SCN_STAT_OVF true).intResult d (-2147483648)
    else if 2147483647 < v then (s.putB .SCN_STAT_OVF true).intResult d 2147483647
    else s.intResult d v := by
  unfold satWord
  split
  · rfl
  · split <;> rfl

theorem exec_satOp {v : Int} (runs : exec i s = .next ((s.satOp d a b f).queueOf s)) (good : operandOk b = true)
    (result : f (s.wreg a) (s.opB b) = satWord v) : exec i s = .next (
      if v < -2147483648 then (s.putB .SCN_STAT_OVF true).intResult d (-2147483648)
      else if 2147483647 < v then (s.putB .SCN_STAT_OVF true).intResult d 2147483647
      else s.intResult d v) := by
  rw [runs, satOp_ok good, result, satWord_result, queueOf_same]
  split
  · rfl
  · split <;> rfl

end

theorem divWord_of_ne {x y : Word} (h : y.toInt ≠ 0) : divWord x y = satWord (x.toInt.tdiv y.toInt) :=
  if_neg fun zero => h (by rw [zero]; rfl)

/-- A division by 0 saturates by the sign of the dividend. -/
theorem divWord_zero {x y : Word} (h : y.toInt = 0) :
    divWord x y = (BitVec.ofInt 32 (if x.toInt = 0 then 0 else if x.toInt < 0 then -2147483648 else 2147483647), true) := by
  have zero (z : Word) : z = 0 ↔ z.toInt = 0 := by rw [← BitVec.toInt_inj]; rfl
  rw [divWord, if_pos ((zero y).mpr h), BitVec.msb_eq_toInt]
  simp only [zero, decide_eq_true_eq]
  split
  · rfl
  · split <;> rfl

/-- Settles O12: by the integer before saturation, and DIV by its divisor. -/
theorem scanIntegerArithmetic : Obligations.ScanIntegerArithmetic := by
  unfold Obligations.ScanIntegerArithmetic
  intro d a b s good x y set sat
  refine ⟨fun here => exec_satOp (scan_add here) good rfl, fun here => exec_satOp (scan_sub here) good rfl,
    fun here => exec_satOp (scan_mul here) good rfl, fun divides here => exec_satOp (scan_div here) good (divWord_of_ne divides),
    fun zero here => ?_⟩
  rw [scan_div here, State.opDiv, satOp_ok good, divWord_zero zero]
  rfl

/-! ### Comparisons (R219) -/

section
variable {s : State} {d a : BitVec 6} {b : BitVec 14} {k : Nat} {v : Bool} (good : operandOk b = true) (code : d.toNat % 8 = k)
include good code

theorem exec_cmp_cond (holds : condHolds k (decide ((s.wreg a).toInt = (s.opB b).toInt)) (decide ((s.wreg a).toInt < (s.opB b).toInt))
    (decide ((s.opB b).toInt < (s.wreg a).toInt)) = v) (here : s.atInstr (.cmp d a b) = true) :
    exec (.cmp d a b) s = .next (s.setScn fun x => { x with ba := v, pc := x.pc + 1, pfx := none }) := by
  have equal : (s.wreg a == s.opB b) = decide ((s.wreg a).toInt = (s.opB b).toInt) := by
    rw [Bool.eq_iff_iff, beq_iff_eq, decide_eq_true_eq, BitVec.toInt_inj]
  exact exec_writesBA (scan_cmp here) (by
    rw [State.opCmp, if_neg (badB_ok good), code]
    dsimp only
    rw [equal]
    exact congrArg (fun v => (s.setBA v).next) holds)

theorem exec_fcmp_cond (holds : condHolds k (feq (s.wreg a) (s.opBf b)) (flt (s.wreg a) (s.opBf b)) (flt (s.opBf b) (s.wreg a)) = v)
    (here : s.atInstr (.fcmp d a b) = true) :
    exec (.fcmp d a b) s = .next (s.setScn fun x => { x with ba := v, pc := x.pc + 1, pfx := none }) :=
  exec_writesBA (scan_fcmp here) (by
    rw [State.opFcmp, if_neg (badB_ok good), code]
    exact congrArg (fun v => (s.setBA v).next) holds)

end

theorem condHolds_le (x y : Int) : condHolds 3 (decide (x = y)) (decide (x < y)) (decide (y < x)) = decide (x ≤ y) := by
  simp only [condHolds, ← Bool.decide_or, ← Int.le_iff_lt_or_eq]

theorem condHolds_ge (x y : Int) : condHolds 5 (decide (x = y)) (decide (x < y)) (decide (y < x)) = decide (y ≤ x) := by
  simp only [condHolds, ← Bool.decide_or, eq_comm (a := x), ← Int.le_iff_lt_or_eq]

theorem condHolds_other {eq lt gt : Bool} : ∀ {k : Nat}, 6 ≤ k → condHolds k eq lt gt = false
  | _ + 6, _ => rfl

/-- A NaN is neither equal to, nor below, nor above a number. -/
theorem compare_nan {x z : Word} (nan : fisNan x = true ∨ fisNan z = true) : feq x z = false ∧ flt x z = false ∧ flt z x = false := by
  simp only [fisNan] at nan
  rcases nan with nan | nan <;> simp [feq, flt, Fmt.eq, Fmt.lt, nan]

/-- Settles O13: by the condition code, on the order of the integers or of the floats. -/
theorem scanComparisons : Obligations.ScanComparisons := by
  unfold Obligations.ScanComparisons
  intro d a b s good x y z bit
  refine ⟨fun code => ⟨exec_cmp_cond good code rfl, exec_fcmp_cond good code rfl⟩,
    fun code => ⟨exec_cmp_cond good code (decide_not ..).symm, exec_fcmp_cond good code rfl⟩,
    fun code => ⟨exec_cmp_cond good code rfl, exec_fcmp_cond good code rfl⟩,
    fun code => ⟨exec_cmp_cond good code (condHolds_le ..), exec_fcmp_cond good code rfl⟩,
    fun code => ⟨exec_cmp_cond good code rfl, exec_fcmp_cond good code rfl⟩,
    fun code => ⟨exec_cmp_cond good code (condHolds_ge ..), exec_fcmp_cond good code rfl⟩,
    fun other => ⟨exec_cmp_cond good rfl (condHolds_other other), exec_fcmp_cond good rfl (condHolds_other other)⟩, compare_nan⟩

/-! ### Floats (R219, R220) -/

section
variable {s : State} {i : Instr} {d a : BitVec 6} {b : BitVec 14}

theorem floatOp_ok {f : Word → Word → Word} (good : operandOk b = true) :
    s.floatOp d a b f = (s.setW d (f (s.wreg a) (s.opBf b))).next := if_neg (badB_ok good)

/-- A conversion to an integer, by the integer before it is cut down and whether that sets OVF. -/
theorem exec_fcvt_toInt {r : Word × Bool} (toInt : b.getLsbD 0 = true) (result : floatToInt (s.wreg a) = r)
    (here : s.atInstr (.fcvt d a b) = true) : exec (.fcvt d a b) s = .next (((s.setW d r.1).setOvf r.2).next.queueOf s) := by
  rw [scan_fcvt here, State.opFcvt, if_pos toInt, result]

end

theorem floatToInt_nan {x : Word} (nan : fisNan x = true) : floatToInt x = (0, true) := if_pos nan

theorem floatToInt_number {x : Word} {k : Int} (number : fisNan x = false) (nearest : fmt32.toInt 0 x.toNat = some k) :
    floatToInt x = satWord k := by
  rw [floatToInt, if_neg (Bool.eq_false_iff.mp number), nearest]

theorem floatToInt_infinite {x : Word} (number : fisNan x = false) (infinite : fmt32.toInt 0 x.toNat = none) :
    floatToInt x = (if x.msb then 0x80000000 else 0x7FFFFFFF, true) := by
  rw [floatToInt, if_neg (Bool.eq_false_iff.mp number), infinite]

theorem satWord_inside {k : Int} (low : -2147483648 ≤ k) (high : k ≤ 2147483647) : satWord k = (BitVec.ofInt 32 k, false) := by
  rw [satWord, if_neg (by omega), if_neg (by omega)]

theorem satWord_below {k : Int} (below : k < -2147483648) : satWord k = (0x80000000, true) := if_pos below

theorem satWord_above {k : Int} (above : 2147483647 < k) : satWord k = (0x7FFFFFFF, true) := by
  rw [satWord, if_neg (by omega), if_pos above]

/-- Settles O14: the operations on two operands by theirs, FCVT by what the float stands for. -/
theorem scanFloatResults : Obligations.ScanFloatResults := by
  unfold Obligations.ScanFloatResults
  intro d a b s x y word
  refine ⟨fun good => ⟨fun here => exec_writesW (scan_fadd here) (floatOp_ok good),
      fun here => exec_writesW (scan_fsub here) (floatOp_ok good),
      fun here => exec_writesW (scan_fmul here) (floatOp_ok good), fun here => exec_writesW (scan_fdiv here) (floatOp_ok good),
      fun here => exec_writesW (scan_flim here) (floatOp_ok good)⟩,
    fun fromInt here => exec_writesW (scan_fcvt here) (if_neg (Bool.eq_false_iff.mp fromInt)),
    fun toInt here nan => exec_fcvt_toInt toInt (floatToInt_nan nan) here,
    fun toInt k number nearest low high here =>
      exec_fcvt_toInt toInt ((floatToInt_number number nearest).trans (satWord_inside low high)) here, ?_⟩
  intro saturates toInt number
  refine ⟨fun k nearest => ⟨fun below here => ?_, fun above here => ?_⟩,
    fun infinite => ⟨fun negative here => ?_, fun positive here => ?_⟩⟩
  · exact exec_fcvt_toInt toInt ((floatToInt_number number nearest).trans (satWord_below below)) here
  · exact exec_fcvt_toInt toInt ((floatToInt_number number nearest).trans (satWord_above above)) here
  · exact exec_fcvt_toInt toInt ((floatToInt_infinite number infinite).trans (by rw [if_pos negative])) here
  · exact exec_fcvt_toInt toInt ((floatToInt_infinite number infinite).trans (by rw [if_neg (Bool.eq_false_iff.mp positive)])) here

end Sys2Proof.Machine
end

/-! PROOFS. Scan code on local data, edges and PFX, the transfers and their bounds, the loads and the stores of the process image,
and the agreed items (R215 to R217, R219, R221, R222, R270). -/

section
namespace Sys2Proof.Machine

/-! ### Local data, edges, PFX -/

/-- An instruction that changes the scan state and forms BA. -/
theorem setMem_setBA_next (s : State) (f : ScanMem → ScanMem) (v : Bool) : ((s.setMem f).setBA v).next =
    s.setScn fun x => { x with mem := f x.mem, ba := v, pc := x.pc + 1, pfx := none } := rfl

/-- Settles O15: each instruction by its operation on the scan state. -/
theorem scanLocalData : Obligations.ScanLocalData := by
  unfold Obligations.ScanLocalData
  intro d a b p s adr n e
  have address : s.localAdr a b = adr := rfl
  refine ⟨fun here => exec_writesW (scan_ldl here) (by rw [← address]; rfl), fun here => ?_, fun here => ?_,
    fun here => scan_pfx here⟩
  · rw [scan_stl here, ← address]
    rfl
  · rw [scan_edge here, State.opEdge]
    dsimp only
    rw [setMem_setBA_next]
    rfl

/-! ### Transfers -/

section
variable {s t : State} {pc : Nat}

theorem jump_inside (inside : pc < s.scn.code.length) : s.jump pc = s.goto pc := if_neg (by omega)
theorem jump_beyond (beyond : s.scn.code.length ≤ pc) : s.jump pc = s.endCycle 4 s.scn.pc := if_pos beyond

variable {d a : BitVec 6} {b : BitVec 14}

theorem opJmp_taken {t : State} (holds : s.jumpCond (d.toNat % 8) = true) (target : s.jump (s.scn.pc + 1 + b.toNat) = t) :
    s.opJmp d b = t := by
  rw [State.opJmp, if_pos holds, target]

theorem opJmp_passed (fails : s.jumpCond (d.toNat % 8) = false) : s.opJmp d b = s.next := if_neg (Bool.eq_false_iff.mp fails)

theorem opLpb_full (full : 4 ≤ s.scn.loops.length) : s.opLpb a b = s.endCycle 3 s.scn.pc := if_pos full
theorem opLpb_pushes (room : s.scn.loops.length < 4) : s.opLpb a b = (s.setScn fun x =>
    { x with loops := (max 1 (if a = 0 then b.toNat else min (s.wreg a).toNat 65535), x.pc + 1) :: x.loops }).next := if_neg (by omega)

theorem opLpe_empty (empty : s.scn.loops = []) : s.opLpe = s.endCycle 3 s.scn.pc := by rw [State.opLpe, empty]; rfl
theorem opLpe_top {k p : Nat} {r : List (Nat × Nat)} (top : s.scn.loops = (k, p) :: r) : s.opLpe =
    if 1 < k then (s.setScn fun x => { x with loops := (k - 1, p) :: r }).goto p else (s.setScn fun x => { x with loops := r }).next := by
  rw [State.opLpe, top]

theorem opCall_full (full : 8 ≤ s.scn.calls.length) : s.opCall b = s.endCycle 3 s.scn.pc := if_pos full
theorem opCall_beyond (room : s.scn.calls.length < 8) (beyond : s.scn.code.length ≤ s.pfxVal % 4 * 16384 + b.toNat) :
    s.opCall b = s.endCycle 4 s.scn.pc := (if_neg (by omega)).trans (if_pos beyond)
theorem opCall_pushes (room : s.scn.calls.length < 8) (inside : s.pfxVal % 4 * 16384 + b.toNat < s.scn.code.length) : s.opCall b =
    (s.setScn fun x => { x with calls := (x.pc + 1) :: x.calls }).goto (s.pfxVal % 4 * 16384 + b.toNat) :=
  (if_neg (by omega)).trans (if_neg (by omega))

theorem opRet_empty (empty : s.scn.calls = []) : s.opRet = s.endCycle 3 s.scn.pc := by rw [State.opRet, empty]; rfl
theorem opRet_top {p : Nat} {r : List Nat} (top : s.scn.calls = p :: r) :
    s.opRet = (s.setScn fun x => { x with calls := r }).goto p := by rw [State.opRet, top]

end

/-- Settles O16: each transfer by its condition, its stack and its target. -/
theorem scanTransfers : Obligations.ScanTransfers := by
  unfold Obligations.ScanTransfers
  intro d a b s pc jump cond n target ends
  have condition : s.jumpCond (d.toNat % 8) = cond := rfl
  refine ⟨fun here => ?jmp, fun here => ?lpb, fun here => ?lpe, fun here => ?call, fun here => ?ret⟩
  case jmp =>
    have runs := scan_jmp here
    exact ⟨fun holds inside => runs.trans (by rw [opJmp_taken (condition.trans holds) (jump_inside inside)]; rfl),
      fun holds beyond => runs.trans (by rw [opJmp_taken (condition.trans holds) (jump_beyond beyond)]),
      fun fails => runs.trans (by rw [opJmp_passed (condition.trans fails)]; rfl)⟩
  case lpb =>
    have runs := scan_lpb here
    exact ⟨fun room => runs.trans (by rw [opLpb_pushes room]; rfl), fun full => runs.trans (by rw [opLpb_full full])⟩
  case lpe =>
    have runs := scan_lpe here
    refine ⟨fun empty => runs.trans (by rw [opLpe_empty empty]), fun k p r top => ⟨fun more => ?_, fun last => ?_⟩⟩
    · rw [runs, opLpe_top top, if_pos more]
      rfl
    · rw [runs, opLpe_top top, if_neg (by omega)]
      rfl
  case call =>
    have runs := scan_call here
    exact ⟨fun full => runs.trans (by rw [opCall_full full]), fun room beyond => runs.trans (by rw [opCall_beyond room beyond]),
      fun room inside => runs.trans (by rw [opCall_pushes room inside]; rfl)⟩
  case ret =>
    have runs := scan_ret here
    exact ⟨fun empty => runs.trans (by rw [opRet_empty empty]), fun p r top => runs.trans (by rw [opRet_top top]; rfl)⟩

/-! ### Loads of the image -/

section
variable {s t : State} {w : Nat}

theorem loadWord_level_latched {l : Latched} (level : w = levelWord) (latched : s.latched 0 w = some l) :
    s.loadWord w = (s.setFS false false, w32 (s.fld .PMS_LEVEL_AGREED)) := by
  rw [State.loadWord, if_pos level, latched]

theorem loadWord_level_unlatched (level : w = levelWord) (free : s.latched 0 w = none) :
    s.loadWord w = ((s.unlatched w).setFS false false, 0) := by
  rw [State.loadWord, if_pos level, free]

theorem loadWord_input_latched {l : Latched} (input : w < 0x40000) (latched : s.latched 0 w = some l) :
    s.loadWord w = (s.setFS (forced s.scn.forces w) l.sub, applyForces s.scn.forces w l.lo) := by
  rw [State.loadWord, if_neg (by unfold levelWord; omega), if_pos input, latched]

theorem loadWord_input_unlatched (input : w < 0x40000) (free : s.latched 0 w = none) :
    s.loadWord w = ((s.unlatched w).setFS false false, 0) := by
  rw [State.loadWord, if_neg (by unfold levelWord; omega), if_pos input, free]

theorem loadWord_output (low : 0x40000 ≤ w) (high : w < 0x80000) :
    s.loadWord w = (s.setFS (forced s.scn.forces w) false, applyForces s.scn.forces w (s.viewWord w)) := by
  rw [State.loadWord, if_neg (by unfold levelWord; omega), if_neg (by omega), if_pos high]

theorem loadWord_other (beyond : 0x80000 ≤ w) (other : w ≠ levelWord) : s.loadWord w = (s.setFS false false, s.reqRead w) := by
  rw [State.loadWord, if_neg other, if_neg (by omega), if_neg (by omega)]

variable {i : Instr} {d a : BitVec 6} {b : BitVec 14} {v : Word} {f sf : Bool} (load : s.loadWord (s.effAdr a b) = (t.setFS f sf, v))
include load

theorem exec_ldw_of_load (here : s.atInstr (.ldw d a b) = true) : exec (.ldw d a b) s = .next ((t.setScn fun z =>
    { z with w := Sparse.put 0 z.w d.toNat v, f := f, sf := sf, pc := z.pc + 1, pfx := none }).queueOf s) := by
  rw [scan_ldw here, State.opLdw, load]
  rfl

/-- A load that forms BA from the bit loaded. -/
theorem exec_loadBit {g : Bool → Bool → Bool} (runs : exec i s = .next ((s.loadBit d a b g).queueOf s)) :
    exec i s = .next ((t.setScn fun z =>
      { z with ba := g s.scn.ba (v.getLsbD (d.toNat % 32) != d.msb), f := f, sf := sf, pc := z.pc + 1, pfx := none }).queueOf s) := by
  rw [runs, State.loadBit, load]
  rfl

end

/-- Settles O17: by the part of the image the word lies in, and whether the latch list holds it. -/
theorem scanImageLoads : Obligations.ScanImageLoads := by
  unfold Obligations.ScanImageLoads
  intro d a b s w fs gives
  have gives_of_load {t : State} {v : Word} {f sf : Bool} (load : s.loadWord w = (t.setFS f sf, v)) : gives t v f sf :=
    ⟨exec_ldw_of_load load, fun here => exec_loadBit load (scan_ldb here), fun _ => ⟨fun here => exec_loadBit load (scan_andb here),
      fun here => exec_loadBit load (scan_orb here), fun here => exec_loadBit load (scan_xorb here)⟩⟩
  exact ⟨fun l input latched => gives_of_load (loadWord_input_latched input latched),
    fun input free => gives_of_load (loadWord_input_unlatched input free),
    fun low high => gives_of_load (loadWord_output low high),
    fun level l latched => gives_of_load (loadWord_level_latched level latched),
    fun level free => gives_of_load (loadWord_level_unlatched level free),
    fun beyond other => gives_of_load (loadWord_other beyond other)⟩

/-! ### Stores to the image -/

section
variable {s : State} {w k : Nat} {v : Word} {x : Bool}

/-- A word of the output region is open to every requester. -/
theorem reqWrite_output {r : Nat} (low : 0x40000 ≤ w) (high : w < 0x80000) : s.reqWrite r w v = s.setWord w v :=
  reqWrite_open (if_pos (by omega))

theorem storeImage_output (low : 0x40000 ≤ w) (high : w < 0x80000) :
    s.storeImage w v = (s.setWord w v).setScn fun x => { x with stores := Sparse.put none x.stores w (some v) } := by
  rw [State.storeImage, if_pos (by simp [inOutput, low, high]), reqWrite_output low high]

theorem storeBit_output (low : 0x40000 ≤ w) (high : w < 0x80000) :
    s.storeBit w k x = (s.setWord w (withBit (s.word w) k x)).setScn fun z => { z with stores := Sparse.put none z.stores w (some (withBit (s.viewWord w) k x)) } := by
  rw [State.storeBit, if_pos (by simp [inOutput, low, high]), reqWrite_output low high]

theorem storeImage_outside (outside : ¬ (0x40000 ≤ w ∧ w < 0x80000)) : s.storeImage w v = s.badStore w :=
  if_neg (by simpa [inOutput] using outside)

theorem storeBit_outside (outside : ¬ (0x40000 ≤ w ∧ w < 0x80000)) : s.storeBit w k x = s.badStore w :=
  if_neg (by simpa [inOutput] using outside)

variable {d a : BitVec 6} {b : BitVec 14}

theorem opSrb_sets (ba : s.scn.ba = true) : s.opSrb d a b = (s.storeBit (s.effAdr a b) (d.toNat % 32) (!d.msb)).next := by
  rw [State.opSrb, if_pos ba]

theorem opSrb_passes (ba : s.scn.ba = false) : s.opSrb d a b = s.next := by rw [State.opSrb, if_neg (Bool.eq_false_iff.mp ba)]

end

/-- Settles O18: by whether the word lies in the output region. -/
theorem scanImageStores : Obligations.ScanImageStores := by
  unfold Obligations.ScanImageStores
  intro d a b s w k put one
  refine ⟨fun low high => ⟨fun here => ?_, fun here => ?_, fun here ba => ?_, fun here ba => ?_⟩,
    fun outside => ⟨fun here => ?_, fun here => ?_, fun here ba => ?_, fun here ba => ?_⟩⟩
  · rw [scan_stw here, State.opStw, storeImage_output low high]
    rfl
  · rw [scan_stb here, State.opStb, storeBit_output low high]
    rfl
  · rw [scan_srb here, opSrb_sets ba, storeBit_output low high]
    rfl
  · exact (scan_srb here).trans (by rw [opSrb_passes ba]; rfl)
  · rw [scan_stw here, State.opStw, storeImage_outside outside]
    rfl
  · rw [scan_stb here, State.opStb, storeBit_outside outside]
    rfl
  · rw [scan_srb here, opSrb_sets ba, storeBit_outside outside]
    rfl
  · exact (scan_srb here).trans (by rw [opSrb_passes ba]; rfl)

/-! ### Agreed items (R219, R221) -/

section
variable {s : State} {i : Instr} {d : BitVec 6} {src adr : Nat} {f : Latched → Word}
  (runs : exec i s = .next ((s.readItem d src adr f).queueOf s))
include runs

theorem exec_readItem : (∀ l, s.latched src adr = some l → exec i s = .next (s.setScn fun x =>
      { x with w := Sparse.put 0 x.w d.toNat (f l), pc := x.pc + 1, pfx := none })) ∧
    (s.latched src adr = none → exec i s = .next (((s.unlatched adr).setScn fun x =>
      { x with w := Sparse.put 0 x.w d.toNat 0, pc := x.pc + 1, pfx := none }).queueOf s)) := by
  refine ⟨fun l latched => exec_writesW runs (by rw [State.readItem, latched]), fun free => ?_⟩
  rw [runs, State.readItem, free]
  rfl

end

/-- Settles O20: each read by its item, which the latch list holds or not. -/
theorem scanAgreedItems : Obligations.ScanAgreedItems := by
  unfold Obligations.ScanAgreedItems
  intro d a b s reads
  refine ⟨fun item here => exec_readItem ?_, fun here => exec_readItem (scan_rds here), fun part here => exec_readItem ?_,
    fun part here => exec_readItem ?_, fun part here => exec_readItem ?_⟩
  · rw [scan_rdl here, State.opRdl, if_neg (by omega)]
  all_goals
    rw [scan_rdq here, State.opRdq, if_neg (by omega), part]
    rfl

end Sys2Proof.Machine
end

/-! PROOFS. Scan code timers and counters: what one instruction makes of its timer or its counter, by the mode (R223). -/

section
namespace Sys2Proof.Machine

/-! ### Timers -/

/-- A timer as an instruction finds it: D[2] resets it first. -/
def Timer.taken (x : Timer) (reset : Bool) : Timer := if reset then { x with on := false, et := 0, q := false } else x

theorem step_taken (x : Timer) (mode : Nat) (reset : Bool) (preset t : Nat) (ba : Bool) :
    x.step mode reset preset t ba = (x.taken reset).step mode false preset t ba := rfl

/-- The time that a timer started at `start` shows. -/
def shownTime (preset t start : Nat) : Nat := min preset ((t - start) / 4)

section
variable (x : Timer) (preset t : Nat)

/-- A timer that does not run starts now. The modes are 0 on-delay, 1 off-delay, 2 pulse (R223). -/
def Timer.since : Nat := if x.on then x.start else t

theorem step_ton_low : x.step 0 false preset t false = { x with on := false, et := 0, q := false, edge := false } := rfl

theorem step_ton_high : x.step 0 false preset t true =
    { x with on := true, start := x.since t, et := shownTime preset t (x.since t),
             q := decide (shownTime preset t (x.since t) = preset), edge := true } := by
  obtain ⟨start, on, et, q, edge⟩ := x
  cases on <;> rfl

theorem step_tof_high : x.step 1 false preset t true = { x with on := false, et := 0, q := true, edge := true } := rfl

theorem step_tof_idle (idle : x.q = false) : x.step 1 false preset t false = { x with edge := false } := by
  obtain ⟨start, on, et, q, edge⟩ := x
  subst idle
  rfl

theorem step_tof_runs (runs : x.q = true) : x.step 1 false preset t false =
    { x with start := x.since t, et := shownTime preset t (x.since t), q := !decide (shownTime preset t (x.since t) = preset),
             on := !decide (shownTime preset t (x.since t) = preset), edge := false } := by
  obtain ⟨start, on, et, q, edge⟩ := x
  subst runs
  cases on <;> rfl

theorem step_pulse_starts (rises : x.edge = false) (idle : x.q = false) : x.step 2 false preset t true =
    { x with start := t, et := shownTime preset t t, q := !decide (shownTime preset t t = preset),
             on := !decide (shownTime preset t t = preset), edge := true } := by
  obtain ⟨start, on, et, q, edge⟩ := x
  subst rises idle
  rfl

variable {x} {ba : Bool} (stays : ba = false ∨ x.edge = true ∨ x.q = true)
include stays

theorem pulse_not_started : (ba && !x.edge && !x.q) = false := by
  rcases stays with low | held | runs
  · simp [low]
  · simp [held]
  · simp [runs]

theorem step_pulse_runs (runs : x.on = true) : x.step 2 false preset t ba =
    { x with et := shownTime preset t x.start, q := !decide (shownTime preset t x.start = preset),
             on := !decide (shownTime preset t x.start = preset), edge := ba } := by
  simp only [Timer.step, pulse_not_started stays, Bool.false_eq_true, if_false, runs, if_true]
  rfl

theorem step_pulse_rests (rests : x.on = false) : x.step 2 false preset t ba = { x with edge := ba } := by
  simp only [Timer.step, pulse_not_started stays, Bool.false_eq_true, if_false, rests]

end

section
variable {s : State} {d a : BitVec 6} {b : BitVec 14} (here : s.atInstr (.tmr d a b) = true)
include here

/-- TMR writes its timer, and BA with the timer's Q. -/
theorem exec_tmr_step {mode : Nat} {ba : Bool} {y : Timer} (hm : d.toNat % 4 = mode) (known : mode ≠ 3) (hba : s.scn.ba = ba)
    (step : ((Sparse.at {} s.scn.mem.timers (b.toNat % 1024)).taken (d.getLsbD 2)).step mode false (s.wreg a).toNat s.cycleTime ba = y) :
    exec (.tmr d a b) s = .next (s.setScn fun z => { z with
      mem := { z.mem with timers := Sparse.put {} z.mem.timers (b.toNat % 1024) y }, ba := y.q, pc := z.pc + 1, pfx := none }) := by
  rw [scan_tmr here, State.opTmr, if_neg (hm ▸ known)]
  dsimp only
  rw [setMem_setBA_next, step_taken, hm, hba, step]
  rfl

end

/-! ### Counters -/

/-- A count up stops at the highest integer. -/
theorem satWord_succ (c : Word) : (satWord (c.toInt + 1)).1 = if c = 0x7FFFFFFF#32 then c else c + 1 := by
  have low := BitVec.le_toInt c
  by_cases top : c = 0x7FFFFFFF#32
  · subst top
    rfl
  · have high : c.toInt < 2147483647 := by
      have := BitVec.toInt_lt (x := c)
      have : c.toInt ≠ (0x7FFFFFFF#32).toInt := fun h => top (BitVec.eq_of_toInt_eq h)
      have : (0x7FFFFFFF#32).toInt = 2147483647 := rfl
      omega
    rw [satWord_inside (by omega) (by omega), if_neg top, BitVec.ofInt_add, BitVec.ofInt_toInt]
    rfl

/-- A count down stops at the lowest integer. -/
theorem satWord_pred (c : Word) : (satWord (c.toInt - 1)).1 = if c = 0x80000000#32 then c else c - 1 := by
  have high := BitVec.toInt_lt (x := c)
  by_cases bottom : c = 0x80000000#32
  · subst bottom
    rfl
  · have low : -2147483648 < c.toInt := by
      have := BitVec.le_toInt c
      have : c.toInt ≠ (0x80000000#32).toInt := fun h => bottom (BitVec.eq_of_toInt_eq h)
      have : (0x80000000#32).toInt = -2147483648 := rfl
      omega
    rw [satWord_inside (by omega) (by omega), if_neg bottom]
    apply BitVec.eq_of_toInt_eq
    simp
  
section
variable (c : Counter) (op : Word) (ba : Bool)

/-- CTU counts a rising BA. -/
theorem step_up : c.step 0 op ba =
    let up := if ba && !c.edge then (if c.cv = 0x7FFFFFFF#32 then c.cv else c.cv + 1) else c.cv
    (⟨up, ba⟩, decide (op.toInt ≤ up.toInt)) := by
  rw [← satWord_succ]
  rfl

/-- CTD counts a rising BA down. -/
theorem step_down : c.step 1 op ba =
    let down := if ba && !c.edge then (if c.cv = 0x80000000#32 then c.cv else c.cv - 1) else c.cv
    (⟨down, ba⟩, decide (down.toInt ≤ 0)) := by
  rw [← satWord_pred]
  rfl

end

/-- CTR writes its counter, and BA with the counter's Q. -/
theorem exec_ctr_step {s : State} {d a : BitVec 6} {b : BitVec 14} {mode : Nat} {y : Counter × Bool} (hm : d.toNat % 4 = mode)
    (step : (Sparse.at {} s.scn.mem.counters (b.toNat % 1024)).step mode (s.wreg a) s.scn.ba = y)
    (here : s.atInstr (.ctr d a b) = true) : exec (.ctr d a b) s = .next (s.setScn fun z => { z with
      mem := { z.mem with counters := Sparse.put {} z.mem.counters (b.toNat % 1024) y.1 }, ba := y.2, pc := z.pc + 1, pfx := none }) := by
  rw [scan_ctr here, State.opCtr]
  dsimp only
  rw [setMem_setBA_next, hm, step]
  rfl

/-- Settles O19: each timer and counter instruction by its mode and by what its timer shows. -/
theorem scanTimersAndCounters : Obligations.ScanTimersAndCounters := by
  unfold Obligations.ScanTimersAndCounters
  intro d a b s n ba x0 x c preset et leaves counts up down
  refine ⟨fun mode low here => ?_, fun mode high here => ?_, fun mode high here => ?_, fun mode low idle here => ?_,
    fun mode low runs here => ?_, fun mode high rises idle here => ?_, fun mode stays => ⟨fun runs here => ?_, fun rests here => ?_⟩,
    fun mode here => ?_, fun mode here => ?_,
    fun mode here => ?_, fun mode here => ?_, fun here => exec_writesW (scan_tcrd here) rfl⟩
  · exact exec_tmr_step here mode (by decide) low (step_ton_low ..)
  · exact exec_tmr_step here mode (by decide) high (step_ton_high ..)
  · exact exec_tmr_step here mode (by decide) high (step_tof_high ..)
  · exact exec_tmr_step here mode (by decide) low (step_tof_idle _ _ _ idle)
  · exact exec_tmr_step here mode (by decide) low (step_tof_runs _ _ _ runs)
  · exact exec_tmr_step here mode (by decide) high (step_pulse_starts _ _ _ rises idle)
  · exact exec_tmr_step here mode (by decide) rfl (step_pulse_runs _ _ stays runs)
  · exact exec_tmr_step here mode (by decide) rfl (step_pulse_rests _ _ stays rests)
  · exact exec_ctr_step mode (step_up ..) here
  · exact exec_ctr_step mode (step_down ..) here
  · exact exec_ctr_step mode rfl here
  · exact exec_ctr_step mode rfl here

end Sys2Proof.Machine
end

/-! PROOFS. Scan code on commit groups, staging and events, and what ends a cycle early (R75, R76, R208, R210, R222, R224, R225). -/

section
namespace Sys2Proof.Machine

/-! ### Groups (R75, R76, R224) -/

/-- An instruction whose effect ends with BA. -/
theorem exec_endsBA {s t u : State} {i : Instr} {ba : Bool} (runs : exec i s = .next (u.queueOf s)) (result : u = (t.setBA ba).next) :
    exec i s = .next ((t.setScn fun x => { x with ba := ba, pc := x.pc + 1, pfx := none }).queueOf s) := by
  rw [runs, result]
  rfl

section
variable {s : State} {g : Nat} {d : BitVec 3} {a : BitVec 6} {b : BitVec 14} (hg : b.toNat % 16 = g)
include hg

theorem opOpen_refused (h : (s.group g).state ≠ 0 ∨ s.mayOpen = false) (good : d = 5 → a ≠ 63) :
    s.opOpen d a b = ((s.refuse 0x0D 0x1C g).setBA false).next := by
  subst hg
  rw [State.opOpen, if_neg (fun ⟨kind, reg⟩ => good (BitVec.eq_of_toNat_eq kind) reg)]
  dsimp only
  rw [openGroup_refused h]
  rfl

/-- A group opened takes its kind from D[5:3], and by that its slot or its time. -/
theorem opOpen_opens (free : (s.group g).state = 0) (may : s.mayOpen = true) (good : d = 5 → a ≠ 63) : s.opOpen d a b =
    ((if d = 3 then ((s.openNow g false).put (.TXN_GRP_CFG_KIND g) d.toNat).put (.TXN_GRP_CFG_SLOT g) ((s.wreg a).toNat % 512)
      else if d = 5 then ((s.openNow g false).put (.TXN_GRP_CFG_KIND g) d.toNat).put64 (0x8100 + 8 * g) (0x8104 + 8 * g)
        ((s.wreg a).toNat + 2 ^ 32 * (s.wreg (a + 1)).toNat)
      else (s.openNow g false).put (.TXN_GRP_CFG_KIND g) d.toNat).setBA true).next := by
  subst hg
  have kind (k : BitVec 3) : d.toNat = k.toNat ↔ d = k := BitVec.toNat_inj
  rw [State.opOpen, if_neg (fun ⟨kind, reg⟩ => good (BitVec.eq_of_toNat_eq kind) reg)]
  dsimp only
  rw [openGroup_free free may, if_neg (by simp)]
  simp only [← kind]
  rfl

end

/-- Settles O21: each command of a group by the group's state and kind. -/
theorem scanGroups : Obligations.ScanGroups := by
  unfold Obligations.ScanGroups
  intro d a b s g ends opened
  refine ⟨fun here => exec_endsBA (scan_grpSelect here) rfl,
    fun here h good => exec_endsBA (scan_grpOpen here) (opOpen_refused rfl h good),
    fun here free may notSlot notTime => ?_, fun here free may slot => ?_, fun here free may time good => ?_, fun c refusal here => ?_,
    fun accepted here => ?_, fun here => exec_endsBA (scan_grpAbort here) rfl⟩
  · exact exec_endsBA (scan_grpOpen here) (by
      rw [opOpen_opens rfl free may (absurd · notTime), if_neg notSlot, if_neg notTime]
      rfl)
  · subst slot
    exact exec_endsBA (scan_grpOpen here) ((opOpen_opens rfl free may (absurd · (by decide))).trans (by rw [if_pos rfl]; rfl))
  · subst time
    exact exec_endsBA (scan_grpOpen here) ((opOpen_opens rfl free may (fun _ => good)).trans (by rw [if_neg (by decide), if_pos rfl]; rfl))
  · exact exec_endsBA (scan_grpArm here) (by rw [State.opArm, armGroup_refused refusal])
  · exact exec_endsBA (scan_grpArm here) (by rw [State.opArm, armGroup_armed accepted])

/-! ### Staging (R73, R224) -/

section
variable {s : State} {g : Nat} {t : Target} {v : Word}

theorem stage_deviceOnly {host : Bool} {page : Nat} (own : t.deviceOnly = true) : s.stage g t v host page = (s, false) := if_pos own

theorem stage_accepted {page : Nat} (open_ : t.deviceOnly = false) (accepted : s.stageWhyNot g t v = none) :
    s.stage g t v false page = (s.setGroup g fun x => { x with entries := putEntry t v x.entries }, true) := by
  rw [State.stage, if_neg (Bool.eq_false_iff.mp open_), accepted]
  simp only [State.stageEntry, Bool.or_false]

theorem stage_refused {host : Bool} {page c : Nat} (open_ : t.deviceOnly = false) (refusal : s.stageWhyNot g t v = some (c, true)) :
    s.stage g t v host page = ((s.refuse page c t.adr).setGroup g fun x => { x with refused := true }, false) := by
  rw [State.stage, if_neg (Bool.eq_false_iff.mp open_), refusal]
  simp

theorem stage_refused_mode {host : Bool} {page c : Nat} (open_ : t.deviceOnly = false) (refusal : s.stageWhyNot g t v = some (c, false)) :
    s.stage g t v host page = (s.refuse (if t = modeTarget then 0 else page) c t.adr, false) := by
  rw [State.stage, if_neg (Bool.eq_false_iff.mp open_), refusal]
  simp

theorem scanStage_unselected (free : s.flag .SCN_GRP_VALID = false) : s.scanStage t v = (s.refuse 0x0D 0x10 t.adr, false) :=
  if_neg (Bool.eq_false_iff.mp free)

theorem scanStage_selected (selected : s.flag .SCN_GRP_VALID = true) : s.scanStage t v = s.stage (s.fld .SCN_GRP_GROUP) t v false 0x0D :=
  if_pos selected

end

/-- What a staging instruction on a target may do. -/
theorem exec_scanStage {s : State} {i : Instr} {t : Target} {d : BitVec 6}
    (runs : exec i s = .next ((((s.scanStage t (s.wreg d)).1.setBA (s.scanStage t (s.wreg d)).2).next).queueOf s)) {u : State} {ba : Bool}
    (staged : s.scanStage t (s.wreg d) = (u, ba)) :
    exec i s = .next ((u.setScn fun x => { x with ba := ba, pc := x.pc + 1, pfx := none }).queueOf s) :=
  exec_endsBA runs (by rw [staged])

theorem opRstg_staged {s : State} {d : BitVec 6} {b : BitVec 14} {adr : Nat} (hadr : (s.pfxVal % 4 * 16384 + b.toNat) * 4 = adr)
    (staged : hasAcc .rws adr = true) (on : s.domainOff (pageDomain (adr / 0x1000)) = false) : s.opRstg d b =
    ((s.scanStage ⟨false, adr⟩ (s.wreg d)).1.setBA (s.scanStage ⟨false, adr⟩ (s.wreg d)).2).next := by
  subst hadr
  exact if_pos ⟨staged, by rw [on]; rfl⟩

theorem opRstg_other {s : State} {d : BitVec 6} {b : BitVec 14} {adr : Nat} (hadr : (s.pfxVal % 4 * 16384 + b.toNat) * 4 = adr)
    (other : hasAcc .rws adr = false ∨ s.domainOff (pageDomain (adr / 0x1000)) = true) : s.opRstg d b = (s.setBA false).next := by
  subst hadr
  refine if_neg fun ⟨staged, on⟩ => ?_
  rcases other with plain | off
  · exact absurd staged (Bool.eq_false_iff.mp plain)
  · rw [off] at on
    exact absurd on (by decide)

/-! ### Events (R219, R225) -/

section
variable {s : State} {e : Event}

theorem opErd_serving {d a : BitVec 6} (serving : s.scn.serving = some e) : s.opErd d a = (s.setW d (e.word (a.toNat % 4))).next := by
  rw [State.opErd, serving]

theorem opErd_idle {d a : BitVec 6} (idle : s.scn.serving = none) :
    s.opErd d a = (s.usedFree.setW d (s.freeVal.setWidth 32)).next := by
  rw [State.opErd, idle]

theorem opEret_idle (idle : s.scn.serving = none) : s.opEret = s.badOpcode := by rw [State.opEret, idle]

/-- The call returns; its event's handling completes where the event is still in its slot. -/
theorem opEret_serving (serving : s.scn.serving = some e) {t : State} (ht : ((s.putB .SCN_STAT_ERRTASK false).bump .SCN_ERRTASK_CALLS).setScn
    (fun x => { x with serving := none, pfx := none }) = t) :
    s.opEret = (if s.slot e.cls = some e then t.completeClass e.cls else t).phase2 := by
  subst ht
  rw [State.opEret, serving]
  rfl

end

/-- Settles O22: staging by the selection and the reason of a refusal, ERD and ERET by the event being served. -/
theorem scanStagingAndEvents : Obligations.ScanStagingAndEvents := by
  unfold Obligations.ScanStagingAndEvents
  intro d a b s g adr ends stages
  have address : (s.pfxVal % 4 * 16384 + b.toNat) * 4 = adr := rfl
  have stages_of {i : Instr} {t : Target} (runs : s.atInstr i = true →
      exec i s = .next ((((s.scanStage t (s.wreg d)).1.setBA (s.scanStage t (s.wreg d)).2).next).queueOf s)) : stages i t := fun here =>
    ⟨fun free => exec_scanStage (runs here) (scanStage_unselected free),
      fun selected own => exec_scanStage (runs here) ((scanStage_selected selected).trans (stage_deviceOnly own)),
      fun selected open_ accepted => exec_scanStage (runs here) ((scanStage_selected selected).trans (stage_accepted open_ accepted)),
      fun selected open_ c refusal => exec_scanStage (runs here) ((scanStage_selected selected).trans (stage_refused open_ refusal)),
      fun selected open_ c refusal => exec_scanStage (runs here) ((scanStage_selected selected).trans (stage_refused_mode open_ refusal))⟩
  refine ⟨stages_of scan_stg, fun staged on => stages_of fun here => (scan_rstg here).trans (by rw [opRstg_staged address staged on]),
    fun other here => exec_endsBA (scan_rstg here) (opRstg_other address other), fun here known => ?raise,
    fun e serving here => exec_writesW (scan_erd here) (opErd_serving serving),
    fun idle here => (scan_erd here).trans (by rw [opErd_idle idle]; rfl),
    fun e serving here moved => ?moved, fun e serving here held => ?held,
    fun idle here => (scan_eret here).trans (by rw [opEret_idle idle]; rfl)⟩
  case raise =>
    rw [scan_raise here, State.opRaise, if_neg known]
    rfl
  case moved => rw [scan_eret here, opEret_serving serving rfl, if_neg moved]
  case held => rw [scan_eret here, opEret_serving serving rfl, if_pos held]

end Sys2Proof.Machine
end

/-! PROOFS. What ends a scan cycle early: a lockstep mismatch, a stack that overflows or underflows, and execution past the last word (R208,
R210, R222). -/

section
namespace Sys2Proof.Machine

/-! ### The word at the program counter -/

/-- The word that a program runs. -/
def State.wordHere (s : State) : Option Word := if s.inProgram then s.scn.code[s.scn.pc]? else none

section
variable {s : State} {w : Word}

theorem wordHere_atCode (stands : s.atCode w = true) : s.wordHere = some w := by
  simp only [State.atCode, Bool.and_eq_true, and_assoc, beq_iff_eq] at stands
  obtain ⟨-, program, word⟩ := stands
  rw [State.wordHere, if_pos program, word]

theorem wordHere_past (past : s.scn.code.length ≤ s.scn.pc) : s.wordHere = none := by
  rw [State.wordHere, List.getElem?_eq_none past, ite_self]

theorem wordHere_noProgram (idle : s.inProgram = false) : s.wordHere = none := if_neg (Bool.eq_false_iff.mp idle)

theorem atCode_inProgram (stands : s.atCode w = true) : s.inProgram = true := by
  simp only [State.atCode, Bool.and_eq_true] at stands
  exact stands.1.2

theorem atCode_code (stands : s.atCode w = true) : s.scn.code[s.scn.pc]? = some w := by
  simp only [State.atCode, Bool.and_eq_true, beq_iff_eq] at stands
  exact stands.2

end

/-! ### Which words fault -/

/-- A push on a full stack, or a pop from an empty one. -/
abbrev State.stackFails (s : State) (op : Nat) : Prop :=
  (op = 0x23 ∧ 4 ≤ s.scn.loops.length) ∨ (op = 0x24 ∧ s.scn.loops = []) ∨ (op = 0x25 ∧ 8 ≤ s.scn.calls.length) ∨
    (op = 0x26 ∧ s.scn.calls = [])

/-- A jump or a call that leads past the last word. -/
abbrev State.leadsPast (s : State) (op c b : Nat) : Prop :=
  (op = 0x22 ∧ s.jumpCond c = true ∧ s.scn.code.length ≤ s.scn.pc + 1 + b) ∨
  (op = 0x25 ∧ s.scn.calls.length < 8 ∧ s.scn.code.length ≤ s.pfxVal % 4 * 16384 + b)

section
variable {s : State} {w : Word} (stands : s.atCode w = true)
include stands

theorem exec_lockstepMismatch_eq : exec .lockstepMismatch s =
    .next ((((s.differs w).putB .WIR_ST_STAT_LOCKSTEP_FAIL true).raise 3 0x0D 0 7 s.scn.pc).queueOf s) := by
  rw [exec_lockstepMismatch, execLockstepMismatch, coreAct_run _ (atCode_awake stands), ← State.wordHere, wordHere_atCode stands]

theorem exec_stackFault_eq : exec .stackFault s =
    .next ((if s.stackFails (w >>> 26).toNat then s.endCycle 3 s.scn.pc else s).queueOf s) := by
  rw [exec_stackFault, execStackFault, coreAct_run _ (atCode_awake stands)]
  dsimp only
  rw [← State.wordHere, wordHere_atCode stands]
  dsimp only
  rw [opcode_eq]
  generalize (w >>> 26).toNat = op
  refine congrArg (fun t => Host.Outcome.next (State.queueOf t s)) (if_congr ?_ rfl rfl)
  split
  case h_5 notPush notPop notCall notRet =>
    refine iff_of_false nofun ?_
    rintro (⟨op, -⟩ | ⟨op, -⟩ | ⟨op, -⟩ | ⟨op, -⟩)
    exacts [notPush op, notPop op, notCall op, notRet op]
  all_goals simp [State.stackFails]

theorem exec_codeEnd_eq : exec .codeEnd s = .next ((if s.leadsPast (w >>> 26).toNat ((w >>> 20).toNat % 8) (w.extractLsb' 0 14).toNat then
    s.endCycle 4 s.scn.pc else s).queueOf s) := by
  have field : bitsOf w.toNat 25 20 % 8 = (w >>> 20).toNat % 8 := by
    simp only [bitsOf, BitVec.toNat_ushiftRight]
    omega
  have target : bitsOf w.toNat 13 0 = (w.extractLsb' 0 14).toNat := rfl
  rw [exec_codeEnd, execCodeEnd, coreAct_run _ (atCode_awake stands)]
  dsimp only
  rw [atCode_inProgram stands, if_neg (by decide), atCode_code stands]
  dsimp only
  rw [opcode_eq, field, target]
  generalize (w >>> 26).toNat = op
  generalize (w >>> 20).toNat % 8 = c
  generalize (w.extractLsb' 0 14).toNat = b
  refine congrArg (fun t => Host.Outcome.next (State.queueOf t s)) (if_congr ?_ rfl rfl)
  split
  case h_3 notJump notCall =>
    refine iff_of_false nofun ?_
    rintro (⟨op, -⟩ | ⟨op, -⟩)
    exacts [notJump op, notCall op]
  all_goals simp [State.leadsPast]

end

section
variable {s : State}

theorem exec_codeEnd_past (ha : s.awake = true) (program : s.inProgram = true) (past : s.scn.code.length ≤ s.scn.pc) :
    exec .codeEnd s = .next ((s.endCycle 4 s.scn.pc).queueOf s) := by
  rw [exec_codeEnd, execCodeEnd, coreAct_run _ ha]
  dsimp only
  rw [program, if_neg (by decide), List.getElem?_eq_none past]
  rfl

theorem exec_codeEnd_idle (idle : s.inProgram = false) : exec .codeEnd s = .next s :=
  exec_codeEnd.trans (coreAct_same (if_pos (by rw [idle]; rfl)))

variable (nowhere : s.wordHere = none)
include nowhere

theorem exec_lockstepMismatch_nowhere : exec .lockstepMismatch s = .next s :=
  exec_lockstepMismatch.trans (coreAct_same (by rw [← State.wordHere, nowhere]))

theorem exec_stackFault_nowhere : exec .stackFault s = .next s :=
  exec_stackFault.trans (coreAct_same (by rw [← State.wordHere, nowhere]))

end

/-- Settles O23: each command by the word at the program counter. -/
theorem scanFaults : Obligations.ScanFaults := by
  unfold Obligations.ScanFaults
  intro s w op b len stack past full beyond
  refine ⟨exec_lockstepMismatch_eq, fun stands => exec_guard_holds (exec_stackFault_eq stands),
    fun stands => exec_guard_ignored (exec_stackFault_eq stands), fun stands => exec_guard_holds (exec_codeEnd_eq stands),
    fun stands => exec_guard_ignored (exec_codeEnd_eq stands), exec_codeEnd_past, fun h => ?off,
    fun h => ⟨exec_lockstepMismatch_nowhere (wordHere_past h), exec_stackFault_nowhere (wordHere_past h)⟩⟩
  case off =>
    rcases h with held | idle
    · exact ⟨exec_lockstepMismatch.trans (coreAct_held _ held), exec_stackFault.trans (coreAct_held _ held),
        exec_codeEnd.trans (coreAct_held _ held)⟩
    · exact ⟨exec_lockstepMismatch_nowhere (wordHere_noProgram idle), exec_stackFault_nowhere (wordHere_noProgram idle),
        exec_codeEnd_idle idle⟩

end Sys2Proof.Machine
end

/-! PROOFS. Stations: how a datagram at STN_PORT is judged, and when the Command frames of a station cycle are built (R79, R234 to R248). -/

section
namespace Sys2Proof.Machine

/-! ### A datagram at STN_PORT (R234 to R236) -/

/-- A datagram on this MAC is heard: the station manager runs, and the MAC is of a station ring. -/
abbrev State.hearsStations (s : State) (mac : Nat) : Prop := s.flag .STN_CTRL_EN = true ∧ 2 ≤ mac ∧ mac ≤ 5

/-- A datagram as long as its header says: a whole header, a payload of the length it gives, which its kind admits, and a tag if flagged. -/
abbrev stationWhole (d : List Byte) : Prop :=
  32 ≤ d.length ∧ fieldAt d 0x16 2 ≤ 1432 ∧ (byteAt d 0x14 = 2 → fieldAt d 0x16 2 = 20) ∧
    d.length = 32 + fieldAt d 0x16 2 + (if bitOf (byteAt d 0x15) 3 then 8 else 0)

theorem unheard_iff {s : State} {mac : Nat} : ((!s.flag .STN_CTRL_EN) = true ∨ mac < 2 ∨ 5 < mac) ↔ ¬ s.hearsStations mac := by
  simp only [Bool.not_eq_true', not_and_or, Bool.not_eq_true, not_le]

theorem malformed_iff {d : List Byte} : (d.length < 32 ∨ 1432 < fieldAt d 0x16 2 ∨ (byteAt d 0x14 = 2 ∧ fieldAt d 0x16 2 ≠ 20) ∨
    d.length ≠ 32 + fieldAt d 0x16 2 + (if bitOf (byteAt d 0x15) 3 then 8 else 0)) ↔ ¬ stationWhole d := by
  simp only [not_and_or, Classical.not_imp, not_le, ne_eq]

section
variable {s : State} {mac src ip : Nat} {d : List Byte}

theorem stationFrame_unheard (deaf : ¬ s.hearsStations mac) : s.stationFrame mac src ip d = s := if_pos (unheard_iff.mpr deaf)

section
variable (hears : s.hearsStations mac)
include hears

theorem stationFrame_malformed (cut : ¬ stationWhole d) : s.stationFrame mac src ip d = s.bump .STN_RX_OTHER :=
  (if_neg fun deaf => unheard_iff.mp deaf hears).trans (if_pos (malformed_iff.mpr cut))

theorem stationFrame_badCrc (whole : stationWhole d)
    (bad : wordAt d 0x1C ≠ crc32 (d.take 0x1C ++ (d.take (32 + fieldAt d 0x16 2)).drop 32)) :
    s.stationFrame mac src ip d = s.bump .STN_RX_CRC :=
  (if_neg fun deaf => unheard_iff.mp deaf hears).trans ((if_neg fun cut => malformed_iff.mp cut whole).trans (if_pos bad))

end

end

/-- Either command that brings a datagram answers its judgement. -/
theorem exec_stationDatagram {s t : State} {mac : Fin 8} {src : BitVec 48} {ip : Word} {d : List Byte} (ha : s.awake = true)
    (judged : s.stationFrame mac.val src.toNat ip.toNat d = t) :
    exec (.measurementFrame mac src ip d) s = .next (t.queueOf s) ∧ exec (.joinFrame mac src ip d) s = .next (t.queueOf s) := by
  subst judged
  exact ⟨exec_measurementFrame.trans (coreAct_run _ ha), exec_joinFrame.trans (coreAct_run _ ha)⟩

/-! ### The command build (R79, R247) -/

section
variable {s t : State} {b : Nat} (ha : s.awake = true) (hb : s.cycleStart + s.fld .STN_TIMING_BUILD_US * 1000 = b)
  (ht : (s.at b).dueGroups = t)
include ha hb ht

/-- The groups due come first; a build that is not due does nothing more, and one that is waits for the vote of its tick or runs. -/
theorem exec_commandBuild_eq : exec .commandBuild s =
    .next ((if !t.flag .STN_CTRL_EN ∨ t.now < b then t
      else if t.buildWaits (tickOf b) then t.setStn fun x => { x with build := some (tickOf b) }
      else t.buildCommands (tickOf b)).queueOf s) := by
  subst hb ht
  exact exec_commandBuild.trans (coreAct_run _ ha)

theorem exec_commandBuild_due (running : t.flag .STN_CTRL_EN = true) (due : b ≤ t.now) : exec .commandBuild s =
    .next ((if t.buildWaits (tickOf b) then t.setStn fun x => { x with build := some (tickOf b) }
      else t.buildCommands (tickOf b)).queueOf s) :=
  exec_guard_fails (exec_commandBuild_eq ha hb ht) (by simp [running, due])

end

/-- Settles O47: a datagram by how it is judged, the build by whether it is due and whether it waits. -/
theorem stationFrames : Obligations.StationFrames := by
  unfold Obligations.StationFrames
  intro s mac src ip d ha runs both b t heard
  have ht : (s.at b).dueGroups = t := rfl
  have hb : s.cycleStart + s.fld .STN_TIMING_BUILD_US * 1000 = b := rfl
  clear_value t b
  have judged {u : State} (h : s.stationFrame mac.val src.toNat ip.toNat d = u) : both u := exec_stationDatagram ha h
  refine ⟨judged rfl, fun deaf => judged (stationFrame_unheard deaf),
    fun hears short => judged (stationFrame_malformed hears fun whole => ?short),
    fun hears header payload join total bad => judged (stationFrame_badCrc hears ⟨header, payload, join, total⟩ bad),
    fun h => exec_guard_holds (exec_commandBuild_eq ha hb ht) (by simpa using h),
    fun running due => ⟨exec_guard_holds (exec_commandBuild_due ha hb ht running due), fun voted =>
      exec_guard_fails (exec_commandBuild_due ha hb ht running due) (Bool.eq_false_iff.mp voted)⟩⟩
  case short =>
    obtain ⟨header, -⟩ := whole
    omega

end Sys2Proof.Machine
end

/-! PROOFS. A step: the command at the front of the queue is run on the state with the queue's rest, every command answers a next state and
leaves the queue alone, and the commands that wait stay well-formed. -/

section
namespace Sys2Proof.Machine

/-- What every command of the table does is an effect on the state: a next state under the queue it was given. -/
theorem exec_isEffect (c : Instr) (s : State) : ∃ t, exec c s = effect s t := by
  cases c <;> exact ⟨_, rfl⟩

/-- Settles O2: an effect is a next state with the queue of the state before. -/
theorem everyCommandCompletes : Obligations.EveryCommandCompletes := by
  unfold Obligations.EveryCommandCompletes
  intro c s
  obtain ⟨t, run⟩ := exec_isEffect c s
  exact ⟨t.queueOf s, run.trans (effect_eq s t), queueOf_pending t s⟩

/-- A command that waits is run on the state with the rest of the queue. -/
theorem step_cons {s : State} {c : Instr} {rest : List Instr} (queue : s.pending = c :: rest) :
    step s = exec c { s with pending := rest } := by
  rw [step, queue]

/-- With no command waiting a step changes nothing. -/
theorem step_nil {s : State} (queue : s.pending = []) : step s = .next s := by
  rw [step, queue]

/-- Settles O1: by the queue's front. -/
theorem stepRunsTheFrontCommand : Obligations.StepRunsTheFrontCommand := by
  unfold Obligations.StepRunsTheFrontCommand
  exact ⟨fun _ _ _ queue => step_cons queue, fun _ queue => step_nil queue⟩

/-- A step takes the front of the queue away, and nothing else of it. -/
theorem step_pending {s t : State} (run : step s = .next t) : t.pending = s.pending.tail := by
  cases queue : s.pending with
  | nil =>
    cases (step_nil queue).symm.trans run
    exact queue
  | cons c rest =>
    obtain ⟨u, next, kept⟩ := everyCommandCompletes c { s with pending := rest }
    cases next.symm.trans ((step_cons queue).symm.trans run)
    exact kept

/-- Settles O3: the queue after a step is the tail of the queue before, and the commands of the tail are among those that waited. -/
theorem stepKeepsQueueWellFormed : Obligations.StepKeepsQueueWellFormed := by
  unfold Obligations.StepKeepsQueueWellFormed
  intro s t wf run
  have rest := step_pending run
  refine ⟨?_, rest⟩
  simp only [State.queueWf, List.all_eq_true] at wf ⊢
  exact fun c waits => wf c (List.mem_of_mem_tail (rest ▸ waits))

end Sys2Proof.Machine
end

/-! PROOFS. How a command's answer follows from its meaning: the shapes that the blocks' commands share. -/

section
namespace Sys2Proof.Machine

/-- An interrupt source touches its page's register and the messages alone. -/
theorem irq_keeps {α : Type} {s : State} {p k : Nat} (f : State → α) (regs : ∀ t a w, f (State.setReg t a w) = f t)
    (outs : ∀ (t : State) o, f { t with out := o } = f t) : f (s.irq p k) = f s := by
  unfold State.irq
  dsimp only
  split
  · rfl
  · split
    · split
      · rw [outs, regs]
      · rw [regs]
    · rw [regs]

/-- A sample touches the monitors alone. -/
theorem sample_keeps {α : Type} {s : State} {p q k v : Nat} (f : State → α) (mon : ∀ (t : State) m, f { t with monLive := m } = f t) :
    f (s.sample p q k v) = f s := by
  unfold State.sample
  split
  · rw [mon]
  · rfl

section
variable {s t u : State} {i : Instr} {f : State → State} {p off : Nat}

@[simp] theorem queueOf_regs (t s : State) : (t.queueOf s).regs = t.regs := rfl
@[simp] theorem queueOf_time (t s : State) : (t.queueOf s).time = t.time := rfl
@[simp] theorem queueOf_xspi (t s : State) : (t.queueOf s).xspi = t.xspi := rfl
@[simp] theorem queueOf_scn (t s : State) : (t.queueOf s).scn = t.scn := rfl

/-- A command of the core domains answers what its operation makes of the state. -/
theorem exec_core (ha : s.awake = true) (meaning : exec i s = coreAct s f) (work : f s = t) : exec i s = .next (t.queueOf s) := by
  rw [meaning, coreAct_run f ha, work]

/-- An operation that leaves the state leaves it whole. -/
theorem exec_core_same (ha : s.awake = true) (meaning : exec i s = coreAct s f) (work : f s = s) : exec i s = .next s := by
  rw [meaning, coreAct_run f ha, work, queueOf_self]

/-- A command of the host on a page that takes it. -/
theorem exec_host (may : s.hostMay p = true) (meaning : exec i s = hostAct p off s f) (work : f s = t) :
    exec i s = .next (t.queueOf s) := by
  rw [meaning, hostAct_run f may, work]

theorem exec_host_same (may : s.hostMay p = true) (meaning : exec i s = hostAct p off s f) (work : f s = s) : exec i s = .next s := by
  rw [meaning, hostAct_run f may, work, queueOf_self]

/-- A command that acts whatever the domains: its answer is the effect of its operation. -/
theorem exec_work (meaning : exec i s = effect s u) (work : u = t) : exec i s = .next (t.queueOf s) := by
  rw [meaning, effect_eq, work]

theorem exec_work_same (meaning : exec i s = effect s u) (work : u = s) : exec i s = .next s := by
  rw [meaning, work, effect_self]

/-- What an operation whose guard is `c` makes of the state, in both cases. -/
theorem exec_core_if {c : Prop} [Decidable c] (ha : s.awake = true) (meaning : exec i s = coreAct s f) (work : f s = if c then t else u) :
    (c → exec i s = .next (t.queueOf s)) ∧ (¬ c → exec i s = .next (u.queueOf s)) :=
  ⟨fun h => exec_core ha meaning (work.trans (if_pos h)), fun h => exec_core ha meaning (work.trans (if_neg h))⟩

/-- The same of an operation that does nothing where its guard fails. -/
theorem exec_core_guard {c : Prop} [Decidable c] (ha : s.awake = true) (meaning : exec i s = coreAct s f)
    (work : f s = if c then t else s) : (c → exec i s = .next (t.queueOf s)) ∧ (¬ c → exec i s = .next s) :=
  exec_core_if ha meaning work

end

end Sys2Proof.Machine
end

/-! PROOFS. Power: idle domains and banks, the reservoir and the field supply (R403 to R405, R410, R425). -/

section
namespace Sys2Proof.Machine

/-! ### Domains and banks (R403 to R405) -/

/-- May a domain go idle: it runs, nothing holds it on, it has no work, and no requester of its own holds a lock (R403). -/
abbrev State.mayIdle (s : State) (d : Nat) : Prop :=
  s.net.idle.contains d = false ∧ bitOf (s.fld .PWR_HOLD) d = false ∧ s.domainBusy d = false ∧ s.holdsLock d = false

/-- May a bank sleep: light sleep is on, and nobody waits for the bank or holds it (R405). -/
abbrev State.mayLightSleep (s : State) (b : Nat) : Prop :=
  s.flag .PWR_BANK_LS_EN = true ∧ (∀ w ∈ s.bsn.waiting, w.1 ≠ b) ∧ s.lockOf b = none

theorem keepsOn_iff {s : State} {d : Nat} :
    (s.net.idle.contains d || bitOf (s.fld .PWR_HOLD) d || s.domainBusy d || s.holdsLock d) = true ↔ ¬ s.mayIdle d := by
  simp only [State.mayIdle, Bool.or_eq_true, ← Bool.not_eq_true, ← not_or, not_not, or_assoc]

theorem mayLightSleep_iff {s : State} {b : Nat} :
    (s.flag .PWR_BANK_LS_EN && s.bsn.waiting.all (fun w => w.1 != b) && (Sparse.at none s.bsn.locks b).isNone) = true ↔
      s.mayLightSleep b := by
  simp [State.mayLightSleep, State.lockOf, and_assoc]

/-- A domain shown idle and without its clock. -/
def State.shownIdle (s : State) (d : Nat) : State :=
  (({ s with net := { s.net with idle := addOnce s.net.idle d } } : State).domBit .PWR_IDLE_STAT_IDLE d true).domBit .PWR_ON d false

/-- An idle domain with its clock again. -/
def State.shownAwake (s : State) (d : Nat) : State :=
  (({ s with net := { s.net with idle := s.net.idle.filter (· != d) } } : State).domBit .PWR_IDLE_STAT_IDLE d false).domBit .PWR_ON d true

/-- A domain that is not idle has nothing to wake from. -/
theorem wakeDomain_awake {s : State} {d : Nat} (on : s.net.idle.contains d = false) : s.wakeDomain d = s :=
  if_pos (.inl (by rw [on]; rfl))

/-- A domain that wakes is counted, the solver's with its clock and its PLL (R404). -/
theorem wakeDomain_idle {s : State} {d : Nat} (idle : s.net.idle.contains d = true) (known : d < 14) : s.wakeDomain d =
    if d = 5 then (((s.shownAwake d).putB .CLK_STAT_RUN_S true).putB .CLK_STAT_LOCK_S true).bump .PWR_WAKES_SOLVER
    else (s.shownAwake d).bump .PWR_WAKES_OTHER :=
  if_neg (by simpa [known] using idle)

section
variable {s : State} (ha : s.awake = true)
include ha

section
variable {d : Fin 14}

theorem exec_domainIdle_stays (busy : ¬ s.mayIdle d.val) : exec (.domainIdle d) s = .next s :=
  exec_core_same ha exec_domainIdle (if_pos (keepsOn_iff.mpr busy))

theorem exec_domainIdle_idles (may : s.mayIdle d.val) : exec (.domainIdle d) s =
    .next ((if d.val = 5 then ((s.shownIdle d.val).putB .CLK_STAT_RUN_S false).putB .CLK_STAT_LOCK_S false
      else s.shownIdle d.val).queueOf s) :=
  exec_core ha exec_domainIdle (if_neg (mt keepsOn_iff.mp (not_not_intro may)))

theorem exec_domainWake_idle (idle : s.net.idle.contains d.val = true) : exec (.domainWake d) s =
    .next ((if d.val = 5 then (((s.shownAwake d.val).putB .CLK_STAT_RUN_S true).putB .CLK_STAT_LOCK_S true).bump .PWR_WAKES_SOLVER
      else (s.shownAwake d.val).bump .PWR_WAKES_OTHER).queueOf s) :=
  exec_core ha exec_domainWake (wakeDomain_idle idle d.isLt)

theorem exec_domainWake_awake (on : s.net.idle.contains d.val = false) : exec (.domainWake d) s = .next s :=
  exec_core_same ha exec_domainWake (wakeDomain_awake on)

end

section
variable {b : Fin 16}

theorem exec_bankLightSleep_sleeps (may : s.mayLightSleep b.val) : exec (.bankLightSleep b) s =
    .next { s with net := { s.net with idle := addOnce s.net.idle (16 + b.val) } } :=
  exec_core ha exec_bankLightSleep (if_pos (mayLightSleep_iff.mpr may))

theorem exec_bankLightSleep_stays (stays : ¬ s.mayLightSleep b.val) : exec (.bankLightSleep b) s = .next s :=
  exec_core_same ha exec_bankLightSleep (if_neg (mt mayLightSleep_iff.mp stays))

end

end

/-! ### The reservoir and the field supply (R410, R425) -/

theorem exec_vresReady_eq (s : State) : exec .vresReady s = .next ((if s.mainOn = true then
    ((s.putB .RSV_STAT_READY true).put .RSV_STAT_VRES 10500).sample 0x04 1 0 10500 else s).queueOf s) := by
  rw [exec_vresReady, execVresReady, effect_eq]

/-- The state without the LP supply: the field die dark, no output waiting for it. -/
def State.lpLost (s : State) : State := ({ s with field := { s.field with lpOn := false, outPend := [] } } : State).darkField

theorem exec_lpSupplyLoss_eq (s : State) : exec .lpSupplyLoss s = .next ((if s.held ∨ s.mode = .sleep then s.lpLost else
    (((s.lpLost.put .PWR_SUP_LP_OK 0).putB .CLK_STAT_FOSC_OK false).domBit .PWR_ON 12 false).domBit .PWR_ON 13 false).queueOf s) := by
  rw [exec_lpSupplyLoss, execLpSupplyLoss, effect_eq, State.lpLost]

/-- Settles O28: the domains and banks by whether they may idle, the supplies by the state they meet. -/
theorem powerDomains : Obligations.PowerDomains := by
  unfold Obligations.PowerDomains
  intro s
  refine ⟨fun d ha => ?idle, fun d ha => ?wake, fun b ha => ⟨exec_bankLightSleep_sleeps ha, exec_bankLightSleep_stays ha⟩,
    exec_guard_holds (exec_vresReady_eq s), fun off => exec_guard_ignored (exec_vresReady_eq s) (Bool.eq_false_iff.mp off), ?loss, ?back⟩
  case idle =>
    refine ⟨fun may other => ?_, fun may solver => ?_, exec_domainIdle_stays ha⟩
    · exact exec_guard_fails (exec_domainIdle_idles ha may) other
    · exact exec_guard_holds (exec_domainIdle_idles ha may) solver
  case wake =>
    refine ⟨fun idle other => ?_, fun idle solver => ?_, exec_domainWake_awake ha⟩
    · exact exec_guard_fails (exec_domainWake_idle ha idle) other
    · exact exec_guard_holds (exec_domainWake_idle ha idle) solver
  case loss =>
    exact ⟨exec_guard_holds (exec_lpSupplyLoss_eq s), fun runs up => exec_guard_fails (exec_lpSupplyLoss_eq s) (by simp [runs, up])⟩
  case back =>
    refine ⟨fun on => exec_work_same exec_lpSupplyReturn (if_pos on), fun off dark => ?_, fun off up on held => ?_,
      fun off up on runs => ?_⟩
    · exact exec_work exec_lpSupplyReturn ((if_neg (by simp [off])).trans (if_pos (by simpa using dark)))
    · exact exec_work exec_lpSupplyReturn ((if_neg (by simp [off])).trans ((if_neg (by simp [up, on])).trans (if_pos held)))
    · exact exec_work exec_lpSupplyReturn ((if_neg (by simp [off])).trans ((if_neg (by simp [up, on])).trans (if_neg (by simp [runs]))))

end Sys2Proof.Machine
end

/-! PROOFS. The inspection port: what the instructions of its data registers shift and place (R417, R418). -/

section
namespace Sys2Proof.Machine

/-- The port with a new instruction: the boundary cells drive no land. -/
abbrev State.tapOff (s : State) : State := s.setTap fun x => { x with extest := false }

variable {s : State} {width bits words : Nat}

/-- EXTEST takes the lands only of a device held for inspection; of another it passes one bit as BYPASS does. -/
theorem exec_extest_eq : exec (.extest width bits) s = .next ((if s.inspectHold = true then
    ((s.setTap fun x => { x with extest := true, bsr := bits % 2 ^ width }).send
      (.tdo width (Config.boundary s.fresh % 2 ^ width))).usedFree
    else s.bypass width bits).queueOf s) := by
  rw [exec_extest, execExtest, effect_eq]

theorem exec_extest_held (hold : s.inspectHold = true) : exec (.extest width bits) s = .next
    (((s.setTap fun x => { x with extest := true, bsr := bits % 2 ^ width }).send
      (.tdo width (Config.boundary s.fresh % 2 ^ width))).usedFree.queueOf s) :=
  exec_guard_holds exec_extest_eq hold

theorem exec_frzSeek_eq {sect : Fin 8} {word : BitVec 29} : exec (.frzSeek sect word) s = .next ((if s.readable = true then
    s.setTap fun x => { x with extest := false, sect := sect.val, word := word.toNat } else s.tapOff).queueOf s) := by
  rw [exec_frzSeek, execFrzSeek, effect_eq]

/-- A device that is not readable shifts zeros out. -/
theorem exec_frzRd_eq : exec (.frzRd words) s = .next ((if s.readable = true then
    (State.shiftWords words s.tapOff).1.send (.tdo (32 * words) (State.shiftWords words s.tapOff).2)
    else s.tapOff.send (.tdo (32 * words) 0)).queueOf s) := by
  rw [exec_frzRd, execFrzRd, effect_eq]
  rfl

/-- Settles O27: IDCODE and BYPASS by their meaning, EXTEST by the hold for inspection, the freeze read-out by whether the device is
readable. -/
theorem inspectionPort : Obligations.InspectionPort := by
  unfold Obligations.InspectionPort
  intro s width bits words sect word off
  refine ⟨exec_idcode, exec_bypass, fun free => exec_guard_fails exec_extest_eq (Bool.eq_false_iff.mp free),
    fun hold => ⟨_, exec_extest_held hold, rfl, rfl, by simp, by simp [queueOf_basin]⟩, ⟨_, exec_samplePreload, rfl, rfl, rfl, rfl⟩,
    exec_guard_holds exec_frzSeek_eq, fun running => exec_guard_fails exec_frzSeek_eq (Bool.eq_false_iff.mp running),
    fun running => exec_guard_fails exec_frzRd_eq (Bool.eq_false_iff.mp running), exec_guard_holds exec_frzRd_eq⟩

end Sys2Proof.Machine
end

/-! PROOFS. The feeder: crossings and their timeout, the fixed window, the triggers of the load-shed stages and the blackout (R265, R266,
R272, R275, R283, R284). -/

section
namespace Sys2Proof.Machine

/-! ### What a rise of the shed level leaves of the clock and of the blackout's count (R266, R283) -/

/-- The clock and the load-shed state beside the registers. -/
def State.shedClock (s : State) : TimeState × PmsState := (s.time, s.pms)

theorem sample_shedClock (s : State) (p q k v : Nat) : (s.sample p q k v).shedClock = s.shedClock :=
  sample_keeps State.shedClock fun _ _ => rfl

theorem irq_shedClock (s : State) (p k : Nat) : (s.irq p k).shedClock = s.shedClock :=
  irq_keeps State.shedClock (fun _ _ _ => rfl) fun _ _ => rfl

theorem startFrame_shedClock (s : State) (m q : Nat) (f : TxFrame) : (s.startFrame m q f).shedClock = s.shedClock := by
  have sampled (t : State) (b : Prop) [Decidable b] (v : Nat) : (if b then t.sample 0x18 3 0 v else t).shedClock = t.shedClock := by
    split
    · exact sample_shedClock ..
    · rfl
  have late (t : State) (b : Bool) : (if b then t.bump (.ETH_LATE m) else t).shedClock = t.shedClock := by
    split <;> rfl
  unfold State.startFrame
  dsimp only
  split
  · exact (irq_shedClock ..).trans ((late ..).trans (sampled ..))
  · exact (late ..).trans (sampled ..)

theorem nextFrame_shedClock (s : State) (m : Nat) : (s.nextFrame m).shedClock = s.shedClock := by
  unfold State.nextFrame
  split
  · rfl
  · split
    · rfl
    · split
      · exact startFrame_shedClock ..
      · rfl

theorem enqueueFrame_shedClock (s : State) (m q : Nat) (f : TxFrame) : (s.enqueueFrame m q f).shedClock = s.shedClock := by
  unfold State.enqueueFrame
  dsimp only
  split
  · rfl
  · exact nextFrame_shedClock ..

theorem sendPair_shedClock (s : State) (p q launch : Nat) (f : Nat → List Byte) :
    (s.sendPair p q launch f).shedClock = s.shedClock := by
  unfold State.sendPair
  dsimp only
  split <;> exact (enqueueFrame_shedClock ..).trans (enqueueFrame_shedClock ..)

theorem shedBroadcast_shedClock (s : State) (level : Nat) : (s.shedBroadcast level).shedClock = s.shedClock :=
  List.foldlRecOn (motive := fun t : State => t.shedClock = s.shedClock) _ _ rfl fun _ kept _ _ => (sendPair_shedClock ..).trans kept

theorem shedTrips_landWork (s : State) : LandWork s s.shedTrips := by
  have page (n : Nat) (hn : n < 8) : (Fd.TRP_STAT_SHED n).adr / 0x1000 ∈ landPages := by
    rw [show (Fd.TRP_STAT_SHED n).adr / 0x1000 = 0x17 from (by omega : (0x170C0 + 4 * n) / 0x1000 = 0x17)]
    decide
  refine .forN (fun n hn t => ?_) s
  split
  · exact ((LandWork.put (page n hn)).trans (setElement_landWork (by omega) _ _)).trans (setElement_landWork (by omega) _ _)
  · exact .put (page n hn)

/-- What leaves the device at a rise moves neither. -/
theorem shedOutputs_shedClock (s : State) (level : Nat) :
    (if s.live then s.shedTrips.shedBroadcast level else s).shedClock = s.shedClock := by
  have trips : s.shedTrips.shedClock = s.shedClock := (congrArg State.shedClock (shedTrips_landWork s).beside :)
  split
  · exact (shedBroadcast_shedClock ..).trans trips
  · rfl

@[simp] theorem put_pms (s : State) (f : Fd) (v : Nat) : (s.put f v).pms = s.pms := rfl
@[simp] theorem put64_pms (s : State) (lo hi v : Nat) : (s.put64 lo hi v).pms = s.pms := rfl
@[simp] theorem bump_pms (s : State) (f : Fd) : (s.bump f).pms = s.pms := rfl

/-- A rise of the level notes when it came, and moves neither the clock nor the start of the absence. -/
theorem shedRise_shedClock (s : State) (level kind t : Nat) :
    (s.shedRise level kind t).shedClock = (s.time, { s.pms with changed := s.now }) := by
  refine (shedOutputs_shedClock _ level).trans ?_
  simp [State.shedClock, State.now]

/-- The absence of the feeder's voltage in ms, as DETAIL shows it (R283). -/
def State.absenceMs (s : State) : Nat := min 0xFFFFFF ((s.now - s.pms.absentFrom) / 1000000)

theorem shedRise_absenceMs (s : State) (level kind t : Nat) : (s.shedRise level kind t).absenceMs = s.absenceMs :=
  congrArg (fun c : TimeState × PmsState => min 0xFFFFFF ((c.1.ns - c.2.absentFrom) / 1000000)) (shedRise_shedClock s level kind t)

/-! ### Crossings (R265, R272) -/

/-- The state after an instant at which an input's voltage crossed: the next crossing wants a new arming. -/
def State.disarmed (s : State) (n : Nat) : State := s.setNrg fun x => { x with armed := x.armed.filter (· != n) }

section
variable {s : State} {n c l : Nat}

theorem crossing_none (noCrossing : s.crossingNow n = none) : s.crossing n = s := by
  rw [State.crossing, noCrossing]

theorem crossing_first (now : s.crossingNow n = some c) (first : Sparse.at none s.nrg.crossed n = none) :
    s.crossing n = (s.disarmed n).acceptCrossing n c := by
  rw [State.crossing, now]
  dsimp only
  rw [first]
  rfl

/-- A crossing after an accepted one: within 12.5 ms of it it is ignored. -/
theorem crossing_after (now : s.crossingNow n = some c) (last : Sparse.at none s.nrg.crossed n = some l) :
    s.crossing n = if c < l + 12500000 then s.disarmed n else (s.disarmed n).acceptCrossing n c := by
  rw [State.crossing, now]
  dsimp only
  rw [last]
  rfl

end

/-! ### The load-shed triggers and the blackout (R266, R275, R283) -/

/-- A stage whose trigger holds raises the level once. -/
theorem exec_shedTrigger {s : State} {i : Instr} {g kind t : Nat} {holds : Bool}
    (runs : exec i s = .next ((if (s.stageOn g && holds) = true then s.shed (g + 1) kind t else s).queueOf s)) :
    let on := s.stageOn g = true ∧ holds = true ∧ s.shedLevel < g + 1
    (on → exec i s = .next (((s.shedRise (g + 1) kind t).raise 0 0x10 (g + 1) 1 (kind * 256 + (g + 1))).queueOf s)) ∧
      (¬ on → exec i s = .next s) := by
  refine ⟨fun ⟨on, trigger, below⟩ => ?_, fun off => ?_⟩
  · rw [runs, if_pos (by simp [on, trigger]), State.shed, if_neg (Nat.not_le_of_lt below)]
  · rw [runs]
    split
    · next fires =>
        obtain ⟨on, trigger⟩ := Bool.and_eq_true_iff.mp fires
        rw [State.shed, if_pos (Nat.le_of_not_lt fun below => off ⟨on, trigger, below⟩), queueOf_self]
    · rw [queueOf_self]

/-- The feeder's voltage has been absent for the time of R283, and no blackout is shown yet. -/
abbrev State.blacksOut (t : State) : Prop :=
  t.flag .PMS_CTRL_EN = true ∧ t.fsrcAbsent = true ∧ t.flag .PMS_LEVEL_BLACKOUT = false ∧
    t.pms.absentFrom + t.fld .PMS_RESTORE_BLACKOUT_T * 1000000 ≤ t.now

section
variable {s t u : State} {ns : Nat} (ha : s.awake = true) (ht : s.at ns = t) (hu : t.putB .PMS_LEVEL_BLACKOUT true = u)
include ha ht hu

theorem exec_blackout_eq : exec (.blackout ns) s = .next ((if t.blacksOut then
    (if u.shedLevel < 8 then u.shedRise 8 0 u.now else u).raise 1 0x10 0 3 u.absenceMs else t).queueOf s) := by
  refine exec_core ha exec_blackout ?_
  dsimp only
  rw [ht, hu]
  exact if_congr (by simp [State.blacksOut, and_assoc]) rfl rfl

/-- A blackout below level 8 raises the level to 8; DETAIL is the absence in ms. -/
theorem exec_blackout_rises (out : t.blacksOut) (below : u.shedLevel < 8) : exec (.blackout ns) s =
    .next (((u.shedRise 8 0 u.now).raise 1 0x10 0 3 (u.shedRise 8 0 u.now).absenceMs).queueOf s) := by
  rw [exec_guard_holds (exec_blackout_eq ha ht hu) out, if_pos below, shedRise_absenceMs]

theorem exec_blackout_stays (out : t.blacksOut) (above : 8 ≤ u.shedLevel) : exec (.blackout ns) s =
    .next ((u.raise 1 0x10 0 3 u.absenceMs).queueOf s) := by
  rw [exec_guard_holds (exec_blackout_eq ha ht hu) out, if_neg (Nat.not_lt_of_le above)]

end

/-- Settles O48: a crossing by what came before it, each stage by its trigger, the blackout by the level it meets. -/
theorem feederEvents : Obligations.FeederEvents := by
  unfold Obligations.FeederEvents
  intro s i g ns ha runs t
  have timeout := exec_core_if (i := .zeroCrossingTimeout i ns) (t := t.voltageAbsent i.val) (u := t) ha exec_zeroCrossingTimeout rfl
  refine ⟨fun noCrossing => exec_core_same ha exec_zeroCrossing (crossing_none noCrossing), fun c now => ?crossing, timeout.1,
    fun early => timeout.2 (Nat.not_le_of_lt early), ?window, ?stages, ?blackout⟩
  case crossing =>
    refine ⟨fun first => exec_core ha exec_zeroCrossing (crossing_first now first), fun l last => ?_⟩
    have after := crossing_after now last
    exact ⟨fun early => exec_core ha exec_zeroCrossing (after.trans (if_pos early)),
      fun accepted => exec_core ha exec_zeroCrossing (after.trans (if_neg (Nat.not_lt_of_le accepted)))⟩
  case window =>
    intro e w
    have runs := exec_core_if (i := .fixedWindowEnd) (c := w.nrg.fixed = true ∧ e ≤ w.now) (u := s) ha exec_fixedWindowEnd rfl
    exact ⟨fun fixed due => runs.1 ⟨fixed, due⟩, fun h => runs.2 (by simpa [not_and_or, -not_and] using h)⟩
  case stages =>
    exact ⟨exec_shedTrigger (exec_core ha exec_underfrequency rfl), exec_shedTrigger (exec_core ha exec_feederOverload rfl)⟩
  case blackout =>
    exact ⟨exec_blackout_rises ha rfl rfl, exec_blackout_stays ha rfl rfl, exec_guard_fails (exec_blackout_eq ha rfl rfl)⟩

end Sys2Proof.Machine
end

/-! PROOFS. Quantities: the energy interval, the periodic save, the end of a pulse output, a power failure and the Spring's pulse counters
(R289, R293, R294, R298, R406). -/

section
namespace Sys2Proof.Machine

/-! ### Fields of other registers -/

theorem fld_put_other {s : State} {f g : Fd} {v : Nat} (wf : s.regsWf = true) (apart : g.adr ≠ f.adr) : (s.put f v).fld g = s.fld g := by
  rw [State.fld, put_other apart wf, State.fld]

theorem flag_put_other {s : State} {f g : Fd} {v : Nat} (wf : s.regsWf = true) (apart : g.adr ≠ f.adr) :
    (s.put f v).flag g = s.flag g := by
  rw [State.flag, fld_put_other wf apart, State.flag]

/-! ### The Spring's pulse counters (R297, R298) -/

/-- The levels of the pulse inputs with one input's level set. -/
def levelSet (w n : Nat) (closed : Bool) : Nat := if closed then w ||| 2 ^ n else w - (if bitOf w n then 2 ^ n else 0)

theorem testBit_sub_two_pow_self {w n : Nat} (set : w.testBit n = true) : (w - 2 ^ n).testBit n = false := by
  rw [Nat.testBit_eq_decide_div_mod_eq] at set ⊢
  have whole : (w - 2 ^ n) / 2 ^ n = w / 2 ^ n - 1 := by simpa using Nat.sub_mul_div w (2 ^ n) 1
  simp only [decide_eq_true_eq, decide_eq_false_iff_not] at *
  omega

/-- The level set is the one read. -/
theorem bitOf_levelSet (w n : Nat) (closed : Bool) : bitOf (levelSet w n closed) n = closed := by
  unfold levelSet bitOf
  cases closed with
  | true => simp
  | false =>
    cases low : w.testBit n with
    | true => simpa using testBit_sub_two_pow_self low
    | false => simpa using low

/-- The state that shows an input's level. -/
def State.pulseShown (s : State) (n : Nat) (closed : Bool) : State :=
  s.put .PLS_SPC_STAT_CLOSED (levelSet (s.fld .PLS_SPC_STAT_CLOSED) n closed)

/-- An enabled input's level changes in the sense that counts, as `t` has the input configured. -/
abbrev State.pulseCounts (s t : State) (n : Nat) (closed : Bool) : Prop :=
  t.flag (.PLS_SPC_CFG_EN n) = true ∧ bitOf (s.fld .PLS_SPC_STAT_CLOSED) n ≠ closed ∧ closed ≠ t.flag (.PLS_SPC_CFG_EDGE n)

/-- The direction input of an input stands in reverse. -/
abbrev State.pulseBack (t : State) (n : Nat) : Prop :=
  t.flag (.PLS_SPC_CFG_DIR_EN n) = true ∧ bitOf (t.fld .PLS_SPC_STAT_CLOSED) (t.fld (.PLS_SPC_CFG_DIR_SRC n)) = true

/-- The counter of an input by its direction. -/
def State.pulseCounter (t : State) (n : Nat) : Fd := if t.pulseBack n then .PLS_SPC_REV_COUNT n else .PLS_SPC_FWD_COUNT n

theorem exec_springPulseCount_eq {s t : State} {i : Fin 8} {closed : Bool} (ht : s.pulseShown i.val closed = t) :
    exec (.springPulseCount i closed) s = .next ((if s.pulseCounts t i.val closed then
      t.put (t.pulseCounter i.val) (t.fld (t.pulseCounter i.val) + 1) else t).queueOf s) := by
  subst ht
  rfl

section
variable {s t : State} {i : Fin 8} {closed : Bool} (ht : s.pulseShown i.val closed = t)
include ht

theorem exec_springPulseCount_back (counts : s.pulseCounts t i.val closed) (back : t.pulseBack i.val) :
    exec (.springPulseCount i closed) s =
      .next ((t.put (.PLS_SPC_REV_COUNT i.val) (t.fld (.PLS_SPC_REV_COUNT i.val) + 1)).queueOf s) := by
  rw [exec_guard_holds (exec_springPulseCount_eq ht) counts, State.pulseCounter, if_pos back]

theorem exec_springPulseCount_forward (counts : s.pulseCounts t i.val closed) (forward : ¬ t.pulseBack i.val) :
    exec (.springPulseCount i closed) s =
      .next ((t.put (.PLS_SPC_FWD_COUNT i.val) (t.fld (.PLS_SPC_FWD_COUNT i.val) + 1)).queueOf s) := by
  rw [exec_guard_holds (exec_springPulseCount_eq ht) counts, State.pulseCounter, if_neg forward]

end

/-! What the registers of page 0x12 show afterwards: the level, and a counter that counts modulo 2 ^ 32. -/

section
variable {s : State} {n : Nat} {closed : Bool} (wf : s.regsWf = true) (hn : n < 8)
include wf

theorem pulseShown_wf : (s.pulseShown n closed).regsWf = true := put_wf wf

theorem pulseShown_fld {f : Fd} (other : f.adr ≠ 0x120A0) : (s.pulseShown n closed).fld f = s.fld f := fld_put_other wf other

theorem pulseShown_flag {f : Fd} (other : f.adr ≠ 0x120A0) : (s.pulseShown n closed).flag f = s.flag f := flag_put_other wf other

include hn

theorem pulseShown_level : bitOf ((s.pulseShown n closed).fld .PLS_SPC_STAT_CLOSED) n = closed := by
  rw [State.pulseShown, fld_put_same wf (by decide) (by decide)]
  have kept : bitOf (levelSet (s.fld .PLS_SPC_STAT_CLOSED) n closed % 2 ^ 8) n = closed := by
    rw [bitOf, Nat.testBit_mod_two_pow, decide_eq_true hn, Bool.true_and]
    exact bitOf_levelSet ..
  exact kept

/-- The configuration of an input stands in registers of its own. -/
theorem pulseCounts_pulseShown : s.pulseCounts (s.pulseShown n closed) n closed ↔ s.pulseCounts s n closed := by
  have own : 0x12040 + 4 * n ≠ 0x120A0 := by omega
  rw [State.pulseCounts, pulseShown_flag wf own, pulseShown_flag wf own]

theorem pulseBack_pulseShown : (s.pulseShown n closed).pulseBack n ↔ s.flag (.PLS_SPC_CFG_DIR_EN n) = true ∧
    bitOf ((s.pulseShown n closed).fld .PLS_SPC_STAT_CLOSED) (s.fld (.PLS_SPC_CFG_DIR_SRC n)) = true := by
  have own : 0x12040 + 4 * n ≠ 0x120A0 := by omega
  rw [State.pulseBack, pulseShown_flag wf own, pulseShown_fld (f := .PLS_SPC_CFG_DIR_SRC n) wf own]

end

/-- What a change of level leaves to be read: the level, and the counters moved by it. -/
theorem springPulseCount_reads {s : State} {i : Fin 8} {closed : Bool} (wf : s.regsWf = true) :
    ∃ t, exec (.springPulseCount i closed) s = .next t ∧ bitOf (t.fld .PLS_SPC_STAT_CLOSED) i.val = closed ∧
      t.basin = s.basin ∧
      let counts := s.pulseCounts s i.val closed
      let back := s.flag (.PLS_SPC_CFG_DIR_EN i.val) = true ∧
        bitOf (t.fld .PLS_SPC_STAT_CLOSED) (s.fld (.PLS_SPC_CFG_DIR_SRC i.val)) = true
      (¬ counts → ∀ k : Fin 8, t.fld (.PLS_SPC_FWD_COUNT k.val) = s.fld (.PLS_SPC_FWD_COUNT k.val) ∧
        t.fld (.PLS_SPC_REV_COUNT k.val) = s.fld (.PLS_SPC_REV_COUNT k.val)) ∧
      (counts → ¬ back → t.fld (.PLS_SPC_FWD_COUNT i.val) = (s.fld (.PLS_SPC_FWD_COUNT i.val) + 1) % 2 ^ 32 ∧
        t.fld (.PLS_SPC_REV_COUNT i.val) = s.fld (.PLS_SPC_REV_COUNT i.val)) ∧
      (counts → back → t.fld (.PLS_SPC_REV_COUNT i.val) = (s.fld (.PLS_SPC_REV_COUNT i.val) + 1) % 2 ^ 32 ∧
        t.fld (.PLS_SPC_FWD_COUNT i.val) = s.fld (.PLS_SPC_FWD_COUNT i.val)) := by
  have hi := i.isLt
  have level := pulseShown_level (closed := closed) wf hi
  have shownWf := pulseShown_wf (n := i.val) (closed := closed) wf
  have forward (k : Fin 8) : (s.pulseShown i.val closed).fld (.PLS_SPC_FWD_COUNT k.val) = s.fld (.PLS_SPC_FWD_COUNT k.val) :=
    pulseShown_fld wf (by have := k.isLt; show 0x12060 + 4 * k.val ≠ 0x120A0; omega)
  have reverse (k : Fin 8) : (s.pulseShown i.val closed).fld (.PLS_SPC_REV_COUNT k.val) = s.fld (.PLS_SPC_REV_COUNT k.val) :=
    pulseShown_fld wf (by have := k.isLt; show 0x12080 + 4 * k.val ≠ 0x120A0; omega)
  by_cases counts : s.pulseCounts s i.val closed
  case neg =>
    have still := exec_guard_fails (exec_springPulseCount_eq rfl) (mt (pulseCounts_pulseShown wf hi).mp counts)
    exact ⟨_, still, level, rfl, fun _ k => ⟨forward k, reverse k⟩, fun h => absurd h counts, fun h => absurd h counts⟩
  case pos =>
    have moved := (pulseCounts_pulseShown wf hi).mpr counts
    by_cases back : (s.pulseShown i.val closed).pulseBack i.val
    · have stat : Fd.PLS_SPC_STAT_CLOSED.adr ≠ (Fd.PLS_SPC_REV_COUNT i.val).adr := by show 0x120A0 ≠ 0x12080 + 4 * i.val; omega
      have other : (Fd.PLS_SPC_FWD_COUNT i.val).adr ≠ (Fd.PLS_SPC_REV_COUNT i.val).adr := by
        show 0x12060 + 4 * i.val ≠ 0x12080 + 4 * i.val
        omega
      refine ⟨_, exec_springPulseCount_back rfl moved back, ?_⟩
      simp only [queueOf_fld, queueOf_basin, fld_put_other shownWf stat, fld_put_other shownWf other, reverse, forward]
      refine ⟨level, rfl, fun h => absurd counts h, fun _ h => absurd ((pulseBack_pulseShown wf hi).mp back) h,
        fun _ _ => ⟨?_, trivial⟩⟩
      exact fld_put_same shownWf (Nat.zero_le 31) (Nat.lt_succ_self 31)
    · have stat : Fd.PLS_SPC_STAT_CLOSED.adr ≠ (Fd.PLS_SPC_FWD_COUNT i.val).adr := by show 0x120A0 ≠ 0x12060 + 4 * i.val; omega
      have other : (Fd.PLS_SPC_REV_COUNT i.val).adr ≠ (Fd.PLS_SPC_FWD_COUNT i.val).adr := by
        show 0x12080 + 4 * i.val ≠ 0x12060 + 4 * i.val
        omega
      refine ⟨_, exec_springPulseCount_forward rfl moved back, ?_⟩
      simp only [queueOf_fld, queueOf_basin, fld_put_other shownWf stat, fld_put_other shownWf other, reverse, forward]
      refine ⟨level, rfl, fun h => absurd counts h, fun _ _ => ⟨?_, trivial⟩,
        fun _ h => absurd ((pulseBack_pulseShown wf hi).mpr h) back⟩
      exact fld_put_same shownWf (Nat.zero_le 31) (Nat.lt_succ_self 31)

/-! ### Saves and the power failure (R289, R293, R294, R406) -/

/-- A periodic save is due: saves are on, the slots are not frozen, and the period has passed since the last save, if there was one. -/
abbrev State.savesNow (s : State) : Prop := s.flag .NRG_CTRL_SAVE_EN = true ∧ s.rsv.frozen = false ∧
  ∀ t, s.rsv.savedAt = some t → t + s.savePeriod * 1000000000 ≤ s.now

theorem savesNow_iff {s : State} : (s.flag .NRG_CTRL_SAVE_EN ∧ !s.rsv.frozen ∧ s.saveDue) ↔ s.savesNow := by
  have due : s.saveDue = true ↔ ∀ t, s.rsv.savedAt = some t → t + s.savePeriod * 1000000000 ≤ s.now := by
    unfold State.saveDue
    cases s.rsv.savedAt <;> simp
  rw [due, Bool.not_eq_true']

section
variable {s t : State} {whole : Bool} {us : Nat}

/-- Without main supply, in Sleep and after the slots are frozen there is nothing to save. -/
theorem exec_powerFailDetect_ignored {dip : Bool} (h : s.mode = .sleep ∨ s.mainOn = false ∨ s.rsv.frozen = true) :
    exec (.powerFailDetect whole dip us) s = .next s :=
  exec_work_same exec_powerFailDetect (if_pos (by simpa using h))

variable (up : s.mode ≠ .sleep) (on : s.mainOn = true) (free : s.rsv.frozen = false) (ht : s.finalCommit whole us = t)
include up on free ht

/-- A dip leaves its bit, and its event where the core domains run. -/
theorem exec_powerFailDetect_dip : exec (.powerFailDetect whole true us) s =
    .next ((if t.awake then (t.putB .NRG_SLOT_STAT_PF_DIP true).raise 0 0x11 0 5 0 else t.putB .NRG_SLOT_STAT_PF_DIP true).queueOf s) := by
  subst ht
  exact exec_work exec_powerFailDetect ((if_neg (by simp [up, on, free])).trans (if_pos rfl))

theorem exec_powerFailDetect_fails : exec (.powerFailDetect whole false us) s =
    .next ((({ t with rsv := { t.rsv with frozen := true } } : State).putB .PWR_SUP_PF true).queueOf s) := by
  subst ht
  exact exec_work exec_powerFailDetect ((if_neg (by simp [up, on, free])).trans (if_neg (by decide)))

end

/-- Settles O49: the interval, the save and the pulse output by what is due, the power failure by the state it meets, the Spring's pulse by
its sense and direction. -/
theorem quantityEvents : Obligations.QuantityEvents := by
  unfold Obligations.QuantityEvents
  intro s i o us whole closed runs
  refine ⟨fun ha => ?timed, ⟨fun up on free => ?fails, fun h dip => exec_powerFailDetect_ignored h⟩, ?pulse, springPulseCount_reads⟩
  case timed =>
    have interval := exec_core_guard (i := .energyInterval) ha exec_energyInterval rfl
    have save := exec_core_guard (i := .periodicSave) ha exec_periodicSave (if_congr savesNow_iff rfl rfl)
    have pulse := exec_core_guard (i := .pulseOutputEnd o) ha exec_pulseOutputEnd rfl
    exact ⟨interval.1, interval.2, save.1, save.2, pulse.1, pulse.2⟩
  case fails =>
    have dip := exec_powerFailDetect_dip up on free (t := s.finalCommit whole us) rfl
    exact ⟨exec_powerFailDetect_fails up on free rfl, exec_guard_holds dip,
      fun held => exec_guard_fails dip (Bool.eq_false_iff.mp held)⟩
  case pulse =>
    exact ⟨exec_springPulseCount_back rfl, exec_springPulseCount_forward rfl, exec_guard_fails (exec_springPulseCount_eq rfl)⟩

end Sys2Proof.Machine
end

/-! PROOFS. The field side: the converter's sequences and the analogue inputs, the current outputs, the digital channels and the trip
elements (R303 to R307, R312, R313, R316 to R318, R324 to R331, R335 to R342). -/

section
namespace Sys2Proof.Machine

/-! ### The converter (R303 to R307) -/

section
variable {s t : State} {ns : Nat} {codes : List Half} (ha : s.awake = true) (ht : s.at (ns / 1000 * 1000) = t)
include ha ht

theorem exec_conversion_next {q k : Nat} (next : t.nextConversion = some (q, k)) (powered : t.field.lpOn = true) :
    exec (.conversion ns codes) s = .next ((t.convertStep q k codes).queueOf s) := by
  refine exec_core ha exec_conversion ?_
  dsimp only
  rw [ht, next]
  exact if_pos powered

/-- With no step left to convert, or without the LP supply, the instant alone is noted. -/
theorem exec_conversion_none (h : t.nextConversion = none ∨ t.field.lpOn = false) :
    exec (.conversion ns codes) s = .next (t.queueOf s) := by
  refine exec_core ha exec_conversion ?_
  dsimp only
  rw [ht]
  split
  · next _ next =>
      rcases h with none_ | dark
      · cases next.symm.trans none_
      · exact if_neg (Bool.eq_false_iff.mp dark)
  · rfl

end

/-! ### The read of ADC_DATA (R306) -/

theorem readData_fld (s : State) (l : List Word) (f : Fd) : ({ s with readData := l } : State).fld f = s.fld f := rfl
theorem readData_flag (s : State) (l : List Word) (f : Fd) : ({ s with readData := l } : State).flag f = s.flag f := rfl
theorem readData_adc (s : State) (l : List Word) : ({ s with readData := l } : State).adc = s.adc := rfl
theorem putB_adc (s : State) (f : Fd) (b : Bool) : (s.putB f b).adc = s.adc := rfl

/-- A bit written leaves another field of its register. -/
theorem fld_putB_apart {s : State} {f g : Fd} {b : Bool} (wf : s.regsWf = true) (same : g.adr = f.adr)
    (inside : f.lo ≤ f.hi ∧ g.lo ≤ g.hi ∧ g.hi < 32) (apart : g.hi < f.lo ∨ f.hi < g.lo) : (s.putB f b).fld g = s.fld g := by
  obtain ⟨hf, hg, h32⟩ := inside
  exact fld_put_apart wf same hf hg h32 apart

section
variable {s : State} (ha : s.awake = true)
include ha

theorem exec_adcDataRead_off (off : s.domainOff (pageDomain 0x13) = true) : exec .adcDataRead s = .next { s with readData := [0] } :=
  exec_core ha exec_adcDataRead (if_pos off)

/-- The read answers the word and clears its marks. -/
theorem exec_adcDataRead_on (on : s.domainOff (pageDomain 0x13) = false) : exec .adcDataRead s =
    .next { ((s.putB .ADC_DATA_VALID false).putB .ADC_DATA_OVR false) with readData := [s.reg 0x13080] } :=
  exec_core ha exec_adcDataRead (if_neg (Bool.eq_false_iff.mp on))

theorem adcDataRead_clears (on : s.domainOff (pageDomain 0x13) = false) (wf : s.regsWf = true) :
    ∃ u, exec .adcDataRead s = .next u ∧ u.readData = [s.reg 0x13080] ∧
      u.flag .ADC_DATA_VALID = false ∧ u.flag .ADC_DATA_OVR = false ∧ u.fld .ADC_DATA_VALUE = s.fld .ADC_DATA_VALUE ∧
      u.adc = s.adc := by
  have wfValid : (s.putB .ADC_DATA_VALID false).regsWf = true := putB_wf wf
  refine ⟨_, exec_adcDataRead_on ha on, rfl, ?_, ?_, ?_, ?_⟩
  · rw [readData_flag, State.flag, fld_putB_apart (f := .ADC_DATA_OVR) (g := .ADC_DATA_VALID) wfValid rfl (by decide) (by decide)]
    exact flag_putB_false wf (by decide) (by decide)
  · rw [readData_flag]
    exact flag_putB_false wfValid (by decide) (by decide)
  · rw [readData_fld, fld_putB_apart (f := .ADC_DATA_OVR) (g := .ADC_DATA_VALUE) wfValid rfl (by decide) (by decide),
      fld_putB_apart (f := .ADC_DATA_VALID) (g := .ADC_DATA_VALUE) wf rfl (by decide) (by decide)]
  · rw [readData_adc, putB_adc, putB_adc]

end

/-- Settles O50: each command by its trigger or its supply, the read of ADC_DATA by the domain of its page. -/
theorem converterAndInputs : Obligations.ConverterAndInputs := by
  unfold Obligations.ConverterAndInputs
  intro s q i ns codes ha runs t due
  have trigger := exec_core_if (i := .sequenceTrigger q ns) (c := due) ha exec_sequenceTrigger (if_congr Bool.and_eq_true_iff rfl rfl)
  refine ⟨trigger.1, trigger.2, ?edge, ⟨fun q k => exec_conversion_next ha rfl, exec_conversion_none ha rfl⟩, fun n => ?drain,
    exec_core ha exec_ainFault rfl, ?settling, fun thermal => ?supply, exec_adcDataRead_on ha, adcDataRead_clears ha,
    exec_adcDataRead_off ha⟩
  case edge =>
    have edge := exec_core_if (i := .adcTrigEdge ns) ha exec_adcTrigEdge rfl
    exact ⟨edge.1, fun dark => edge.2 (Bool.eq_false_iff.mp dark)⟩
  case drain =>
    exact ⟨fun h => exec_core_same ha exec_queueDrain (if_pos h),
      fun ring free => exec_core ha exec_queueDrain (if_neg (by simp [ring, free]))⟩
  case settling =>
    have settling := exec_core_guard (i := .ainSettlingEnd i) ha exec_ainSettlingEnd rfl
    exact ⟨settling.1, fun early => settling.2 (Nat.not_le_of_lt early)⟩
  case supply =>
    intro f on
    refine ⟨exec_core ha exec_loopSupplyFault (if_pos rfl), fun ⟨enabled, mode, powered⟩ shown => ?_, fun h => ?_⟩
    · have raises : ¬ ((!(s.flag (.AIN_CFG_LS i.val) && s.fld (.AIN_CFG_MODE i.val) == 1 && s.field.lpOn)) = true ∨
          s.flag f = true) := by
        simp [enabled, mode, powered, shown]
      exact exec_core ha exec_loopSupplyFault ((if_neg (by decide)).trans (if_neg raises))
    · have passes : (!(s.flag (.AIN_CFG_LS i.val) && s.fld (.AIN_CFG_MODE i.val) == 1 && s.field.lpOn)) = true ∨ s.flag f = true := by
        refine h.imp_left fun off => ?_
        simpa [on, not_and_or, or_assoc, -not_and] using off
      exact exec_core_same ha exec_loopSupplyFault ((if_neg (by decide)).trans (if_pos passes))

/-! ### Over-temperature of a stage (R317, R330) -/

/-- A stage at 115 °C trips, one that is hot comes back below 100 °C, and between the two it stays as it is. -/
theorem exec_thermal_cases {s t trips returns : State} {i : Instr} {powered hot : Bool} {deg : Nat}
    (runs : exec i s = .next ((if !powered then t else if 115 ≤ deg then (if hot then t else trips)
      else if deg < 100 ∧ hot then returns else t).queueOf s)) :
    (powered = true → 115 ≤ deg → hot = false → exec i s = .next (trips.queueOf s)) ∧
      (powered = true → deg < 100 → hot = true → exec i s = .next (returns.queueOf s)) ∧
      ((powered = false ∨ (115 ≤ deg ∧ hot = true) ∨ (100 ≤ deg ∧ deg < 115) ∨ (deg < 100 ∧ hot = false)) →
        exec i s = .next (t.queueOf s)) := by
  refine ⟨fun on high cold => ?_, fun on low warm => ?_, fun h => ?_⟩
  · rw [runs, if_neg (by simp [on]), if_pos high, if_neg (by simp [cold])]
  · rw [runs, if_neg (by simp [on]), if_neg (by omega), if_pos ⟨low, warm⟩]
  · rcases h with off | ⟨high, warm⟩ | ⟨low, high⟩ | ⟨low, cold⟩
    · rw [runs, if_pos (by simp [off])]
    · rw [runs, if_pos high, if_pos warm, ite_self]
    · rw [runs, if_neg (by omega : ¬ 115 ≤ deg), if_neg (by omega : ¬ (deg < 100 ∧ hot = true)), ite_self]
    · rw [runs, if_neg (by omega : ¬ 115 ≤ deg), if_neg (by simp [cold] : ¬ (deg < 100 ∧ hot = true)), ite_self]

/-! ### Current outputs (R316 to R318) -/

section
variable {s : State} {n : Fin 8} {uA : Nat} (ha : s.awake = true)
include ha

theorem exec_compliance_dark (dark : s.field.lpOn = false) (set : Bool) : exec (.compliance n set uA) s = .next s :=
  exec_core_same ha exec_compliance (if_pos (by simp [dark]))

variable (powered : s.field.lpOn = true)
include powered

theorem exec_compliance_ends : exec (.compliance n false uA) s =
    .next (((s.putB (.AOU_STAT_COMP n.val) false).putB (.AOU_STAT_OPEN n.val) false).queueOf s) :=
  exec_core ha exec_compliance ((if_neg (by simp [powered])).trans (if_pos rfl))

/-- A fault is shown with the leg's readback, and raised where none was shown. -/
theorem exec_compliance_faults {t : State} (ht : ((s.putB (.AOU_STAT_COMP n.val) true).putB (.AOU_STAT_OPEN n.val) (decide (uA < 500))).put
    (.AOU_STAT_READBACK n.val) (min 65535 (uA * 65536 / 24000)) = t) : exec (.compliance n true uA) s =
    .next ((if s.flag (.AOU_STAT_COMP n.val) then t else t.raise 1 0x15 n.val 1 (min 0xFFFFFF uA)).queueOf s) := by
  subst ht
  exact exec_core ha exec_compliance ((if_neg (by simp [powered])).trans (if_neg (by decide)))

end

/-- Settles O51: a leg's fault by the supply and what is shown, its temperature by the two limits, the test registers by the mode. -/
theorem currentOutputs : Obligations.CurrentOutputs := by
  unfold Obligations.CurrentOutputs
  intro s n uA deg v ha
  refine ⟨exec_compliance_dark ha, fun powered => ?_, exec_thermal_cases (exec_core ha exec_aouThermal rfl), fun may => ?_⟩
  · have faults := exec_compliance_faults (n := n) (uA := uA) ha powered rfl
    exact ⟨fun first => exec_guard_fails faults (Bool.eq_false_iff.mp first), exec_guard_holds faults, exec_compliance_ends ha powered⟩
  · exact ⟨fun commission => exec_host may exec_aouTestWrite (if_neg (not_not_intro commission)),
      fun other => exec_host may exec_aouTestWrite (if_pos other)⟩

/-! ### Digital channels (R324 to R331) -/

/-- An output switched off for an overload is due for its retry (R326). -/
abbrev State.retriesNow (t : State) (n : Nat) : Prop :=
  t.flag (.DIO_STAT_OVL n) = true ∧ 0 < t.fld (.DIO_CFG_RETRY n) ∧ (t.dch n).retryAt ≤ t.now ∧ t.field.lpOn = true

theorem retriesNow_iff {t : State} {n : Nat} : (t.flag (.DIO_STAT_OVL n) && decide (0 < t.fld (.DIO_CFG_RETRY n)) &&
    decide ((t.dch n).retryAt ≤ t.now) && t.field.lpOn) = true ↔ t.retriesNow n := by
  simp [State.retriesNow, and_assoc]

/-- Settles O52: the channels' events by their meaning, an overload and its retry by the output and the supply, the temperature by the two
limits, the test registers by the mode. -/
theorem digitalChannels : Obligations.DigitalChannels := by
  unfold Obligations.DigitalChannels
  intro s n x v l ha
  refine ⟨exec_core ha exec_filteredStateChange rfl, exec_core ha exec_wireBreak rfl, exec_core ha exec_readback rfl,
    exec_core ha exec_openWire rfl, fun dark => exec_core_same ha exec_dioSample (if_pos (by simp [dark])),
    fun powered => exec_core ha exec_dioSample (if_neg (by simp [powered])), ?overload, ?retry,
    exec_thermal_cases (exec_core ha exec_overtemp rfl), fun may val => ?test⟩
  case overload =>
    exact ⟨fun on powered => exec_core ha exec_overload (if_neg (by simp [on, powered])),
      fun h => exec_core_same ha exec_overload (if_pos (by simpa using h))⟩
  case retry => exact exec_core_guard ha exec_overloadRetry (if_congr retriesNow_iff rfl rfl)
  case test =>
    exact ⟨fun commission => exec_host may exec_dioTestWrite (if_neg (not_not_intro commission)),
      fun other => exec_host may exec_dioTestWrite (if_pos other)⟩

end Sys2Proof.Machine
end

/-! PROOFS. Trip elements: the pulse test and its reclosing, an open path, the host's pulse test (R335, R337 to R339). -/

section
namespace Sys2Proof.Machine

/-! ### The pulse test's reclosing (R337) -/

section
variable {s : State} {ia us k : Nat} (ha : s.awake = true)
include ha

theorem exec_pulseTestReclose_none (idle : s.field.test = none) : exec (.pulseTestReclose ia us) s = .next s := by
  refine exec_core_same ha exec_pulseTestReclose ?_
  rw [idle]

/-- A tested element recloses as passed, or by its time limit as failed. -/
theorem exec_pulseTestReclose_running (test : s.field.test = some k) : exec (.pulseTestReclose ia us) s =
    .next ((if ia ≤ 1 ∧ us ≤ 300 then s.reclose k 1 ia us else if 300 ≤ us then s.reclose k 2 ia us else s).queueOf s) := by
  refine exec_core ha exec_pulseTestReclose ?_
  rw [test]

end

/-! ### An open path (R338) -/

/-- Both elements of a channel shown closed. -/
abbrev State.bothClosed (t : State) (n : Nat) : Prop := t.flag (.TRP_STAT_CLOSED_A n) = true ∧ t.flag (.TRP_STAT_CLOSED_B n) = true

/-- Both elements closed, one of them without current while the other carries it. -/
abbrev State.pathBroken (t : State) (n idle carries : Nat) : Prop := t.bothClosed n ∧ idle ≤ 1 ∧ 10 ≤ carries

/-- The test of a path that an element breaks. -/
def State.breaksPath (t : State) (n idle carries : Nat) : Bool :=
  t.flag (.TRP_STAT_CLOSED_A n) && t.flag (.TRP_STAT_CLOSED_B n) && decide (idle ≤ 1) && decide (10 ≤ carries)

theorem breaksPath_iff {t : State} {n idle carries : Nat} : t.breaksPath n idle carries = true ↔ t.pathBroken n idle carries := by
  simp [State.breaksPath, State.pathBroken, State.bothClosed, and_assoc]

section
variable {s t : State} {n : Fin 8} {ia ib : Nat} (ha : s.awake = true) (ht : (s.elemCurrent n.val 0 ia).elemCurrent n.val 1 ib = t)
include ha ht

/-- What the currents of a channel's elements say of its path; DETAIL names the element without current. -/
theorem exec_pathOpen_eq {k : Nat} (hk : b2n (t.breaksPath n.val ib ia) = k) : exec (.pathOpen n ia ib) s =
    .next ((if t.pathBroken n.val ia ib ∨ t.pathBroken n.val ib ia then
        (if t.flag (.TRP_STAT_PATH_OPEN n.val) then t else (t.putB (.TRP_STAT_PATH_OPEN n.val) true).raise 1 0x17 n.val 2 k)
      else t.putB (.TRP_STAT_PATH_OPEN n.val) false).queueOf s) := by
  subst ht hk
  exact exec_core ha exec_pathOpen (if_congr (Bool.or_eq_true_iff.trans (or_congr breaksPath_iff breaksPath_iff)) rfl rfl)

end

/-! ### The host's pulse test (R339) -/

section
variable {s t : State} {v : Word} (may : s.hostMay 0x17 = true)
include may

theorem exec_trpPtCmd_refused (h : s.mode ≠ .commission ∨ s.field.ptCmd ≠ none ∨ (v.getLsbD 4 = true ∧ s.pos ≠ 0)) :
    exec (.trpPtCmd v) s = .next ((s.refuse 0x17 0x80 0x17044).queueOf s) := by
  refine exec_host may exec_trpPtCmd (if_pos ?_)
  rwa [← Option.isSome_iff_ne_none] at h

variable (commission : s.mode = .commission) (idle : s.field.ptCmd = none)
include commission idle

/-- The test of one element closes it. -/
theorem exec_trpPtCmd_one {k : Nat} (one : v.getLsbD 4 = false) (hk : 2 * bitsOf v.toNat 2 0 + b2n (bitOf v.toNat 3) = k) :
    exec (.trpPtCmd v) s = .next ((({ s with field := { s.field with
      ptCmd := some (k, false), ptEnd := s.now + clampNat 10 500 (bitsOf v.toNat 25 16) * 1000 } } : State).setElement k
        true).queueOf s) := by
  have single : bitOf v.toNat 4 = false := one
  subst hk
  refine exec_host may exec_trpPtCmd ((if_neg (by simp [commission, idle, single])).trans ?_)
  rw [single]
  exact if_neg Bool.false_ne_true

/-- The test of both, at position S alone, closes both. -/
theorem exec_trpPtCmd_both {k n : Nat} (both : v.getLsbD 4 = true) (single : s.pos = 0)
    (hk : 2 * bitsOf v.toNat 2 0 + b2n (bitOf v.toNat 3) = k) (hn : 2 * bitsOf v.toNat 2 0 = n) :
    exec (.trpPtCmd v) s = .next (((({ s with field := { s.field with
      ptCmd := some (k, true), ptEnd := s.now + clampNat 10 500 (bitsOf v.toNat 25 16) * 1000 } } : State).setElement n true).setElement
        (n + 1) true).queueOf s) := by
  have pair : bitOf v.toNat 4 = true := both
  subst hk hn
  refine exec_host may exec_trpPtCmd ((if_neg (by simp [commission, idle, single])).trans ?_)
  rw [pair]
  exact if_pos rfl

end

section
variable {s w : State} {ia : Nat} (ha : s.awake = true) (hw : s.at s.field.ptEnd = w)
include ha hw

theorem exec_trpPtCmdEnd_none (idle : w.field.ptCmd = none) : exec (.trpPtCmdEnd ia) s = .next s := by
  refine exec_core_same ha exec_trpPtCmdEnd ?_
  dsimp only
  rw [hw, idle]

/-- The elements tested open again, with the current of the one that the command names. -/
def State.ptOpened (w : State) (k ia : Nat) : State :=
  ((({ w with field := { w.field with ptCmd := none } } : State).setElement (2 * (k / 2)) false).setElement (2 * (k / 2) + 1)
    false).elemCurrent (k / 2) (k % 2) ia

theorem exec_trpPtCmdEnd_running {u : State} {k : Nat} {both : Bool} (running : w.field.ptCmd = some (k, both))
    (hu : w.ptOpened k ia = u) : exec (.trpPtCmdEnd ia) s = .next ((if both then
        (if 10 ≤ ia then u.put (.TRP_STAT_TEST (k / 2)) 1 else u.putB (.TRP_STAT_PATH_OPEN (k / 2)) true)
      else if 10 ≤ ia then u.raise 1 0x17 (k / 2) 3 ia else u).queueOf s) := by
  refine exec_core ha exec_trpPtCmdEnd ?_
  dsimp only
  rw [hw, running, ← hu]
  rfl

end

/-- Settles O53: the pulse tests by what is under test, the path by the two currents. -/
theorem tripElements : Obligations.TripElements := by
  unfold Obligations.TripElements
  intro s n e ns ia ib v ha
  refine ⟨?slot, exec_pulseTestReclose_none ha, fun k test => ?reclose, ?path, fun may => ?test, ?testEnd⟩
  case slot =>
    exact exec_core_if ha exec_pulseTestSlot (if_congr (by simp [and_assoc]) rfl rfl)
  case reclose =>
    have runs := exec_pulseTestReclose_running (ia := ia) (us := ib) ha test
    exact ⟨fun dead early => exec_guard_holds runs ⟨dead, early⟩,
      fun fails late => exec_guard_holds (exec_guard_fails runs (by omega)) late,
      fun carries early => exec_guard_ignored (exec_guard_fails runs (by omega)) (by omega)⟩
  case path =>
    intro t closed shown
    have runs {k : Nat} := exec_pathOpen_eq (n := n) (ia := ia) (ib := ib) (k := k) ha rfl
    refine ⟨fun shut first ia1 ib10 => ?_, fun shut first ib1 ia10 => ?_, fun shut again broken => ?_, fun whole => ?_⟩
    · have second : t.breaksPath n.val ib ia = false := Bool.eq_false_iff.mpr fun h => by
        obtain ⟨-, idle, carries⟩ := breaksPath_iff.mp h
        omega
      exact exec_guard_fails (exec_guard_holds (runs (by rw [second]; rfl)) (.inl ⟨shut, ia1, ib10⟩)) (Bool.eq_false_iff.mp first)
    · have second : t.breaksPath n.val ib ia = true := breaksPath_iff.mpr ⟨shut, ib1, ia10⟩
      exact exec_guard_fails (exec_guard_holds (runs (by rw [second]; rfl)) (.inr ⟨shut, ib1, ia10⟩)) (Bool.eq_false_iff.mp first)
    · exact exec_guard_holds (exec_guard_holds (runs rfl) (broken.imp (⟨shut, ·⟩) (⟨shut, ·⟩))) again
    · refine exec_guard_fails (runs rfl) fun broken => ?_
      rcases whole with apart | same
      · exact broken.elim (fun h => apart h.1) fun h => apart h.1
      · rcases broken with ⟨-, idle, carries⟩ | ⟨-, idle, carries⟩ <;> omega
  case test =>
    exact ⟨fun commission idle one => exec_trpPtCmd_one may commission idle one rfl,
      fun commission idle both single => exec_trpPtCmd_both may commission idle both single rfl rfl, exec_trpPtCmd_refused may⟩
  case testEnd =>
    refine ⟨exec_trpPtCmdEnd_none ha rfl, fun k both running => ?_⟩
    have runs := exec_trpPtCmdEnd_running (ia := ia) ha rfl running rfl
    exact ⟨fun pair carries => exec_guard_holds (exec_guard_holds runs pair) carries,
      fun pair dead => exec_guard_fails (exec_guard_holds runs pair) (Nat.not_le_of_lt dead),
      fun one carries => exec_guard_holds (exec_guard_fails runs (Bool.eq_false_iff.mp one)) carries,
      fun one dead => exec_guard_fails (exec_guard_fails runs (Bool.eq_false_iff.mp one)) (Nat.not_le_of_lt dead)⟩

end Sys2Proof.Machine
end

/-! PROOFS. The Spring: its ticks, the read of its count, snapshots, crystal, rail and cell (R343, R344, R349, R351). -/

section
namespace Sys2Proof.Machine

/-! ### Work on the Spring's count -/

/-- The state without the registers, the Spring's count and what waits for a tick of it. -/
def State.besideSpring (s : State) : State :=
  { s with regs := [], time := { s.time with count := 0, springPend := [], medianPend := none } }

/-- The registers in which a tick of the Spring shows what it does: the status, the civil offset and its adjustment. -/
def springShown : List Nat := [0x03050, 0x03054, 0x03074]

/-- `t` is `s` after work on the Spring's count alone, its registers held in canonical form. -/
structure SpringWork (s t : State) : Prop where
  beside : t.besideSpring = s.besideSpring
  regs : s.regsWf = true → t.regsWf = true ∧ ∀ a, a ∉ springShown → t.reg a = s.reg a

namespace SpringWork

variable {s t u : State}

theorem refl (s : State) : SpringWork s s := ⟨rfl, fun wf => ⟨wf, fun _ _ => rfl⟩⟩

theorem trans (h : SpringWork s t) (k : SpringWork t u) : SpringWork s u where
  beside := k.beside.trans h.beside
  regs wf := by
    obtain ⟨wfT, sameT⟩ := h.regs wf
    obtain ⟨wfU, sameU⟩ := k.regs wfT
    exact ⟨wfU, fun a other => (sameU a other).trans (sameT a other)⟩

theorem put {f : Fd} {v : Nat} (shown : f.adr ∈ springShown) : SpringWork s (s.put f v) where
  beside := rfl
  regs wf := ⟨put_wf wf, fun a other => put_other (by rintro rfl; exact other shown) wf⟩

theorem setTime {f : TimeState → TimeState} (same : (s.setTime f).besideSpring = s.besideSpring) : SpringWork s (s.setTime f) :=
  ⟨same, fun wf => ⟨wf, fun _ _ => rfl⟩⟩

/-- A flag outside the registers shown stands. -/
theorem flag (h : SpringWork s t) (wf : s.regsWf = true) {f : Fd} (other : f.adr ∉ springShown) : t.flag f = s.flag f := by
  rw [State.flag, State.fld, (h.regs wf).2 _ other, State.flag, State.fld]

theorem basin (h : SpringWork s t) : t.basin = s.basin := (congrArg State.basin h.beside :)
theorem mode (h : SpringWork s t) : t.mode = s.mode := (congrArg State.mode h.beside :)
theorem xspi (h : SpringWork s t) : t.xspi = s.xspi := (congrArg State.xspi h.beside :)
theorem scn (h : SpringWork s t) : t.scn = s.scn := (congrArg State.scn h.beside :)
theorem ns (h : SpringWork s t) : t.time.ns = s.time.ns := (congrArg (fun s => s.time.ns) h.beside :)

end SpringWork

section
variable {s : State}

/-- With nothing committed that waits, the values of the Spring stand. -/
theorem springValues_idle (idle : s.time.springPend = []) :
    SpringWork s s.springValues ∧ s.springValues.time.count = s.time.count ∧ s.springValues.time.medianPend = s.time.medianPend := by
  have none_ : s.springValues = (s.setTime fun x => { x with springPend := [] }).putB .SPR_STAT_PENDING false := by
    rw [State.springValues, idle]
    rfl
  rw [none_]
  exact ⟨(SpringWork.setTime rfl).trans (.put (by decide)), rfl, rfl⟩

/-- A tick at which no count is set counts one on, modulo 2 ^ 48. -/
theorem springCount_counts (noSet : s.flag .SPR_SET_HI_GO = false) (noMedian : s.time.medianPend = none) :
    SpringWork s s.springCount ∧ s.springCount.time.count = (s.time.count + 1) % 2 ^ 48 := by
  have counts : s.springCount = (fun u : State => if s.time.count = 2 ^ 48 - 1 then u.putB .SPR_STAT_WRAP true else u)
      ((s.setTime fun x => { x with medianPend := none }).setTime fun x => { x with count := twos 48 ((s.time.count : Int) + 1 + 0) }) := by
    rw [State.springCount, noSet, noMedian]
    rfl
  have next : twos 48 ((s.time.count : Int) + 1 + 0) = (s.time.count + 1) % 2 ^ 48 := by
    unfold twos
    omega
  have work : SpringWork s ((s.setTime fun x => { x with medianPend := none }).setTime fun x =>
      { x with count := twos 48 ((s.time.count : Int) + 1 + 0) }) := .trans (.setTime rfl) (.setTime rfl)
  rw [counts]
  dsimp only
  split
  · exact ⟨work.trans (.put (by decide)), next⟩
  · exact ⟨work, next⟩

/-- The adjustment by an hour moves the civil offset alone. -/
theorem springHour_work (s : State) : SpringWork s s.springHour ∧ s.springHour.time = s.time := by
  have offset (d : Int) (v : Nat) : SpringWork s (if d = 0 then s else s.put .SPR_CIVIL_OFS v) ∧
      (if d = 0 then s else s.put .SPR_CIVIL_OFS v).time = s.time := by
    split
    · exact ⟨.refl s, rfl⟩
    · exact ⟨.put (by decide), rfl⟩
  exact ⟨(offset _ _).1.trans (.put (by decide)), (offset _ _).2⟩

/-- A comparison that is not armed does nothing. -/
theorem springCompare_unarmed (unarmed : s.flag .SPR_CMP_HI_ARM = false) : s.springCompare = s := by
  rw [State.springCompare, unarmed]
  rfl

/-- The end of a tick of the Spring: the crystal runs, and the square wave follows the count. -/
def State.tickEnd (u : State) : State :=
  let t := u.putB .SPR_STAT_XTAL_STOP false
  t.setTime fun x => { x with sqw := t.squareWave, xtalStop := false }

theorem exec_springTick_eq (s : State) :
    exec .springTick s = .next (s.springValues.springCount.springHour.springCompare.tickEnd.queueOf s) := by
  rw [exec_springTick, execSpringTick, effect_eq, State.tickEnd]

/-- The end of a tick touches neither the count nor the PTP time. -/
theorem tickEnd_time (u : State) : u.tickEnd.time.count = u.time.count ∧ u.tickEnd.time.ns = u.time.ns := by
  simp [State.tickEnd]

/-- A tick of the Spring at which nothing is committed, set or compared counts one on, and touches nothing but the count and what shows
it. -/
theorem springTick_counts (wf : s.regsWf = true) (idle : s.time.springPend = []) (noMedian : s.time.medianPend = none)
    (noSet : s.flag .SPR_SET_HI_GO = false) (unarmed : s.flag .SPR_CMP_HI_ARM = false) :
    ∃ t, exec .springTick s = .next t ∧ t.time.count = (s.time.count + 1) % 2 ^ 48 ∧ t.basin = s.basin ∧ t.mode = s.mode ∧
      t.time.ns = s.time.ns ∧ t.xspi = s.xspi ∧ t.scn = s.scn := by
  obtain ⟨values, count, median⟩ := springValues_idle idle
  obtain ⟨counts, next⟩ := springCount_counts ((values.flag wf (by decide)).trans noSet) (median.trans noMedian)
  obtain ⟨hour, time⟩ := springHour_work s.springValues.springCount
  have work := (values.trans counts).trans hour
  have compare := springCompare_unarmed ((work.flag wf (by decide)).trans unarmed)
  obtain ⟨endCount, endNs⟩ := tickEnd_time s.springValues.springCount.springHour
  refine ⟨_, (exec_springTick_eq s).trans (by rw [compare]), ?_, ?_, ?_, ?_, ?_, ?_⟩
  · rw [queueOf_time, endCount, time, next, count]
  · rw [queueOf_basin, State.tickEnd, setTime_basin, putB_basin, work.basin]
  · rw [queueOf_mode, State.tickEnd, setTime_mode, putB_mode, work.mode]
  · rw [queueOf_time, endNs, work.ns]
  · rw [queueOf_xspi, State.tickEnd, setTime_xspi, putB_xspi, work.xspi]
  · rw [queueOf_scn, State.tickEnd, setTime_scn, putB_scn, work.scn]

end

/-! ### The read of the count and snapshots (R344) -/

section
variable {s : State} {v : Word}

theorem exec_sprTickLoRead_eq (ha : s.awake = true) : exec .sprTickLoRead s = .next
    { (s.put .SPR_TICK_HI_COUNT (s.time.count / 4294967296)) with readData := [w32 s.time.count] } :=
  exec_core ha exec_sprTickLoRead rfl

/-- The read of the low half latches the high half. -/
theorem sprTickLoRead_latches (ha : s.awake = true) (wf : s.regsWf = true) : ∃ t, exec .sprTickLoRead s = .next t ∧
    t.readData = [w32 s.time.count] ∧ t.fld .SPR_TICK_HI_COUNT = s.time.count / 2 ^ 32 % 2 ^ 16 ∧ t.time = s.time ∧
    t.basin = s.basin :=
  ⟨_, exec_sprTickLoRead_eq ha, rfl, fld_put_same wf (by decide) (by decide), rfl, rfl⟩

/-- The Spring's snapshot: the count in two halves, and the civil offset. -/
def State.springSnap (s : State) : State :=
  ((s.put .SPR_SNAP_LO_VALUE s.time.count).put .SPR_SNAP_HI_VALUE (s.time.count / 4294967296)).put .SPR_SNAP_OFS_VALUE
    (s.fld .SPR_CIVIL_OFS)

variable (may : s.hostMay 3 = true)
include may

theorem exec_sprSnap_takes (go : v.getLsbD 0 = true) : exec (.sprSnap v) s = .next (s.springSnap.queueOf s) :=
  exec_host may exec_sprSnap (if_pos go)

theorem exec_sprSnap_ignored (noGo : v.getLsbD 0 = false) : exec (.sprSnap v) s = .next s :=
  exec_host_same may exec_sprSnap (if_neg (Bool.eq_false_iff.mp noGo))

/-- A snapshot copies the count and the civil offset. -/
theorem sprSnap_copies (go : v.getLsbD 0 = true) (wf : s.regsWf = true) : ∃ t, exec (.sprSnap v) s = .next t ∧
    t.fld .SPR_SNAP_LO_VALUE = s.time.count % 2 ^ 32 ∧ t.fld .SPR_SNAP_HI_VALUE = s.time.count / 2 ^ 32 % 2 ^ 16 ∧
    t.fld .SPR_SNAP_OFS_VALUE = s.fld .SPR_CIVIL_OFS ∧ t.basin = s.basin ∧ t.time = s.time := by
  have wfLo : (s.put .SPR_SNAP_LO_VALUE s.time.count).regsWf = true := put_wf wf
  have wfHi : ((s.put .SPR_SNAP_LO_VALUE s.time.count).put .SPR_SNAP_HI_VALUE (s.time.count / 4294967296)).regsWf = true := put_wf wfLo
  refine ⟨_, exec_sprSnap_takes may go, ?_, ?_, ?_, ?_, ?_⟩
  · rw [queueOf_fld, State.springSnap, fld_put_other wfHi (by decide), fld_put_other wfLo (by decide)]
    exact fld_put_same wf (by decide) (by decide)
  · rw [queueOf_fld, State.springSnap, fld_put_other wfHi (by decide)]
    exact fld_put_same wfLo (by decide) (by decide)
  · rw [queueOf_fld, State.springSnap, fld_put_same wfHi (by decide) (by decide)]
    exact Nat.mod_eq_of_lt (Nat.mod_lt _ (Nat.two_pow_pos 32))
  · rw [queueOf_basin, State.springSnap, put_basin, put_basin, put_basin]
  · exact (rfl : s.springSnap.time = s.time)

end

/-! ### Crystal, cell and rail (R349, R351) -/

section
variable {s : State}

theorem exec_xtalStop_eq (ha : s.awake = true) : exec .xtalStop s = .next ((if s.flag .SPR_STAT_XTAL_STOP then s else
    ((((s.putB .SPR_STAT_XTAL_STOP true).putB .SPR_STAT_COUNT_VALID false).putB .SPR_STAT_TIME_VALID false).setTime
      fun x => { x with xtalStop := true }).raise 2 0x03 0 2 0).queueOf s) :=
  exec_core ha exec_xtalStop rfl

theorem sample_awake (s : State) (p q k v : Nat) : (s.sample p q k v).awake = s.awake :=
  sample_keeps State.awake fun _ _ => rfl

variable {t m : State} {mV : Nat} (ht : s.setTime (fun x => { x with vbat := mV }) = t)
include ht

/-- With the core domains held a low cell is shown, and nothing else done. -/
theorem exec_cellLow_held (held : s.awake = false) : exec (.cellLow mV) s = .next ((if mV < 2200 then
    (if s.flag .SPR_STAT_CELL_LOW then t else t.putB .SPR_STAT_CELL_LOW true) else t).queueOf s) := by
  have asleep : t.awake = false := by rw [← ht, setTime_awake, held]
  have shown : t.flag .SPR_STAT_CELL_LOW = s.flag .SPR_STAT_CELL_LOW := by rw [← ht, setTime_flag]
  refine exec_work exec_cellLow ?_
  rw [ht]
  simp only [asleep, putB_awake, shown, Bool.false_eq_true, and_false, if_false]

/-- Else its voltage is sampled and a fall below 2.2 V raised; 50 mV above that the cell is good again (R351). -/
theorem exec_cellLow_awake (ha : s.awake = true) (hm : t.sample 0x03 1 0 mV = m) : exec (.cellLow mV) s = .next ((if mV < 2200 then
    (if m.flag .SPR_STAT_CELL_LOW then m else (m.putB .SPR_STAT_CELL_LOW true).raise 0 0x03 0 1 (min 0xFFFFFF mV))
    else if 2250 ≤ mV then m.putB .SPR_STAT_CELL_LOW false else m).queueOf s) := by
  have awake : t.awake = true := by rw [← ht, setTime_awake, ha]
  have sampled : m.awake = true := by rw [← hm, sample_awake, awake]
  refine exec_work exec_cellLow ?_
  rw [ht]
  simp only [awake, hm, putB_awake, sampled, and_true, if_true]

end

/-- Settles O54: a tick by what waits for it, the reads and snapshots by what they copy, the cell by its voltage and what is shown. -/
theorem springEvents : Obligations.SpringEvents := by
  unfold Obligations.SpringEvents
  intro s v mV b
  refine ⟨springTick_counts, exec_springTick_eq s, exec_sprTickLoRead_eq, sprTickLoRead_latches, exec_sprSnap_takes, sprSnap_copies,
    exec_sprSnap_ignored, fun ha shown => exec_guard_holds (exec_xtalStop_eq ha) shown,
    fun ha first => exec_guard_fails (exec_xtalStop_eq ha) (Bool.eq_false_iff.mp first), exec_railSwitch,
    fun held => ?held, fun ha => ?awake⟩
  case held =>
    have runs := exec_cellLow_held (mV := mV) rfl held
    refine ⟨fun first low => exec_guard_fails (exec_guard_holds runs low) (Bool.eq_false_iff.mp first), fun h => ?_⟩
    by_cases low : mV < 2200
    · exact exec_guard_holds (exec_guard_holds runs low) (h.resolve_right (Nat.not_le_of_lt low))
    · exact exec_guard_fails runs low
  case awake =>
    have runs := exec_cellLow_awake (mV := mV) rfl ha rfl
    exact ⟨fun first low => exec_guard_fails (exec_guard_holds runs low) (Bool.eq_false_iff.mp first),
      fun again low => exec_guard_holds (exec_guard_holds runs low) again,
      fun high below => exec_guard_fails (exec_guard_fails runs (Nat.not_lt_of_le high)) (Nat.not_le_of_lt below),
      fun good => exec_guard_holds (exec_guard_fails runs (by omega)) good⟩

end Sys2Proof.Machine
end

/-! PROOFS. The PTP clock: its increment and step, Syncs and Holdover, the PPS land (R353, R355 to R357). -/

section
namespace Sys2Proof.Machine

/-! ### The increment and the step (R353) -/

section
variable {s : State} {v : Word} (may : s.hostMay 0x18 = true)
include may

section
variable (hold : s.flag .PTP_STAT_HOLD = true)
include hold

theorem exec_ptpIncFracWrite_holds : exec (.ptpIncFracWrite v) s = .next ((s.refuse 0x18 0x90 0x18048).queueOf s) :=
  exec_host may exec_ptpIncFracWrite (if_pos hold)

theorem exec_ptpStepHiWrite_holds : exec (.ptpStepHiWrite v) s = .next ((s.refuse 0x18 0x90 0x18058).queueOf s) :=
  exec_host may exec_ptpStepHiWrite (if_pos hold)

end

variable (free : s.flag .PTP_STAT_HOLD = false)
include free

theorem exec_ptpIncFracWrite_takes : exec (.ptpIncFracWrite v) s = .next
    (((s.setReg 0x18048 v).setTime fun x => { x with incNs := s.fld .PTP_INC_INC_NS, incFrac := v.toNat }).queueOf s) :=
  exec_host may exec_ptpIncFracWrite (if_neg (Bool.eq_false_iff.mp free))

theorem exec_ptpStepHiWrite_takes {w : State} (hw : s.takeLow 0x18054 = w) : exec (.ptpStepHiWrite v) s = .next
    ((((w.setReg 0x18058 v).putB .PTP_STAT_STEP_PEND true).setTime fun x =>
      { x with step := some (signed 64 (w.fld .PTP_STEP_LO_STEP + 4294967296 * v.toNat)) }).queueOf s) := by
  refine exec_host may exec_ptpStepHiWrite ((if_neg (Bool.eq_false_iff.mp free)).trans ?_)
  dsimp only
  rw [hw]

/-- The fraction written takes effect with the whole nanoseconds that stand. -/
theorem ptpIncFracWrite_reads (wf : s.regsWf = true) : ∃ u, exec (.ptpIncFracWrite v) s = .next u ∧ u.reg 0x18048 = v ∧
    u.time.incNs = s.fld .PTP_INC_INC_NS ∧ u.time.incFrac = v.toNat ∧ u.time.ns = s.time.ns ∧ u.basin = s.basin :=
  ⟨_, exec_ptpIncFracWrite_takes may free, setReg_same wf, rfl, rfl, rfl, rfl⟩

/-- With no low word waiting the step is the pair of the register held and the word written. -/
theorem ptpStepHiWrite_reads (noLow : s.lowHeld = []) : ∃ u, exec (.ptpStepHiWrite v) s = .next u ∧
    u.time.step = some (signed 64 (s.fld .PTP_STEP_LO_STEP + 2 ^ 32 * v.toNat)) ∧ u.time.ns = s.time.ns ∧ u.basin = s.basin := by
  have same : s.takeLow 0x18054 = s := by
    rw [State.takeLow, noLow]
    rfl
  refine ⟨_, exec_ptpStepHiWrite_takes may free same, ?_, ?_, ?_⟩
  · rw [queueOf_time, setTime_time]
    rfl
  · rw [queueOf_time, setTime_time, putB_time, setReg_time]
  · rw [queueOf_basin, setTime_basin, putB_basin, setReg_basin]

end

/-! ### Holdover and the PPS land (R356, R357) -/

/-- The clock has been without a Sync for the time of R356. -/
abbrev State.syncLost (t : State) : Prop :=
  t.flag .PTP_CTRL_EN = true ∧ t.flag .PTP_STAT_HOLD = false ∧ t.time.syncAt + t.holdTime ≤ t.now

theorem syncLost_iff {t : State} :
    (t.flag .PTP_CTRL_EN && !t.flag .PTP_STAT_HOLD && decide (t.time.syncAt + t.holdTime ≤ t.now)) = true ↔ t.syncLost := by
  simp [State.syncLost, and_assoc]

/-- Settles O55: the writes by Holdover, the events by what the clock has at their instant. -/
theorem ptpEvents : Obligations.PtpEvents := by
  unfold Obligations.PtpEvents
  intro s m d v ns t runs
  refine ⟨fun may hold => ⟨exec_ptpIncFracWrite_holds may hold, exec_ptpStepHiWrite_holds may hold⟩, exec_ptpIncFracWrite_takes,
    ptpIncFracWrite_reads, ptpStepHiWrite_reads, fun may free => exec_ptpStepHiWrite_takes may free rfl,
    fun ha => ⟨exec_core ha exec_syncMessage rfl, exec_core_if ha exec_holdover (if_congr syncLost_iff rfl rfl),
      exec_core ha exec_ppsInEdge rfl, ?pps, exec_core ha exec_launchDue rfl⟩⟩
  case pps =>
    intro falls rises
    have out := exec_core_if (i := .ppsOut ns) (c := falls) ha exec_ppsOut rfl
    refine ⟨out.1, fun rising => ?_, fun low still => exec_guard_fails (out.2 low) still⟩
    obtain ⟨enabled, second, low⟩ := rising
    exact exec_guard_holds (out.2 fun fall => absurd fall.1 (Bool.eq_false_iff.mp low)) ⟨enabled, second, low⟩

end Sys2Proof.Machine
end

/-! PROOFS. Ethernet: frames taken and dropped, a partner's data, the device's own frames, the link, the host's transmit command and the
end of a frame (R361, R364 to R366, R368, R373). -/

section
namespace Sys2Proof.Machine

/-! ### Frames received (R361) -/

section
variable {t : State} {m : Nat} {bytes : List Byte}

theorem etherIn_off {ok : Bool} (off : t.flag (.ETH_CTRL_EN m) = false) : t.etherIn m bytes ok = t :=
  if_pos (by rw [off]; rfl)

variable (on : t.flag (.ETH_CTRL_EN m) = true)
include on

theorem etherIn_badFcs : t.etherIn m bytes false = t.bump (.ETH_ERR_FCS m) :=
  (if_neg (by simp [on])).trans (if_pos rfl)

/-- A frame with its FCS is between 64 and 1,536 bytes long. -/
theorem etherIn_badSize (size : bytes.length < 60 ∨ 1532 < bytes.length) : t.etherIn m bytes true = t.bump (.ETH_ERR_SIZE m) :=
  (if_neg (by simp [on])).trans ((if_neg (by decide)).trans (if_pos (by omega)))

end

/-! ### A partner's data (R366) -/

section
variable {s t : State} {m : Fin 8} {ns : Nat} (ha : s.awake = true) (ht : s.at ns = t)
include ha ht

theorem exec_lldpTtlExpiry_none (noPartner : (t.mac m.val).lldp = none) : exec (.lldpTtlExpiry m ns) s = .next (t.queueOf s) := by
  refine exec_core ha exec_lldpTtlExpiry ?_
  dsimp only
  rw [ht, noPartner]

/-- A partner's data end with their time to live. -/
theorem exec_lldpTtlExpiry_partner {x : List Byte} {e : Nat} (partner : (t.mac m.val).lldp = some (x, e)) :
    exec (.lldpTtlExpiry m ns) s =
      .next ((if e ≤ t.now then t.setMac m.val fun x => { x with lldp := none } else t).queueOf s) := by
  refine exec_core ha exec_lldpTtlExpiry ?_
  dsimp only
  rw [ht, partner]

end

/-! ### The host's frames (R373) -/

/-- A transmit command that is refused: a bad length, or a slot that still waits. -/
abbrev State.badTransmit (s : State) (m len slot : Nat) : Prop := len < 60 ∨ 1514 < len ∨ s.slotBusy m slot = true

section
variable {s : State} {m : Fin 8}

theorem exec_ethTxCmd_eq {v : Word} {len k : Nat} (may : s.hostMay (0x1A + m.val) = true) (hlen : (Fd.ETH_TX_CMD_LEN m.val).of v = len)
    (hk : (Fd.ETH_TX_CMD_SLOT m.val).of v = k) : exec (.ethTxCmd m v) s = .next ((if s.badTransmit m.val len k then
      s.refuse (0x1A + m.val) 0xB0 (0x1A074 + 0x1000 * m.val)
      else s.hostFrame m.val (2 + (Fd.ETH_TX_CMD_Q m.val).of v) k
        { launch := s.get64 (0x1A06C + 0x1000 * m.val) (0x1A070 + 0x1000 * m.val), slot := some k, ts := bitOf v.toNat 31,
          bytes := s.reqReadBytes (s.fld (.ETH_TX_BASE m.val) + 2048 * k) len }).queueOf s) := by
  subst hlen hk
  exact exec_host may exec_ethTxCmd rfl

theorem exec_ethTransmitEnd_idle (ha : s.awake = true) (idle : (s.mac m.val).sending = none) : exec (.ethTransmitEnd m) s = .next s := by
  refine exec_core_same ha exec_ethTransmitEnd ?_
  dsimp only
  rw [idle]

section
variable {f : TxFrame} {u : State} (ha : s.awake = true) (sending : (s.mac m.val).sending = some f)
  (hu : (s.setMac m.val fun x => { x with sending := none }).bump (.ETH_CNT_TX m.val) = u)
include ha sending hu

/-- The end of a frame counts it and starts the next. -/
theorem exec_ethTransmitEnd_noSlot (noSlot : f.slot = none) : exec (.ethTransmitEnd m) s = .next ((u.nextFrame m.val).queueOf s) := by
  refine exec_core ha exec_ethTransmitEnd ?_
  dsimp only
  rw [sending]
  dsimp only
  rw [noSlot, hu]

/-- A frame of the host frees its slot. -/
theorem exec_ethTransmitEnd_slot {k : Nat} (slot : f.slot = some k) : exec (.ethTransmitEnd m) s =
    .next (((u.setSlotBusy m.val k false).nextFrame m.val).queueOf s) := by
  refine exec_core ha exec_ethTransmitEnd ?_
  dsimp only
  rw [sending]
  dsimp only
  rw [slot, hu]

end

end

/-- Settles O56: a received frame by its FCS and size, the partner's data by their time, the device's own frames by their enables, the
host's command by its length and slot. -/
theorem ethernetEvents : Obligations.EthernetEvents := by
  unfold Obligations.EthernetEvents
  intro s m p ns bytes ok src v ha runs t
  have receives {ok : Bool} {u : State} (work : t.etherIn m.val bytes ok = u) : runs (.ethernetFrame m ns bytes ok) u :=
    exec_core ha exec_ethernetFrame work
  have lldp := exec_core_guard (i := .lldpTransmit m) ha exec_lldpTransmit rfl
  have supervision := exec_core_guard (i := .prpSupervision p) ha exec_prpSupervision rfl
  have down := exec_core_guard (i := .linkDown m) ha exec_linkDown rfl
  refine ⟨receives rfl, fun off => receives (etherIn_off off), fun on => ⟨receives (etherIn_badFcs on), fun size =>
    receives (etherIn_badSize on size)⟩, exec_core ha exec_lldpdu rfl, fun x e partner => ?partner, exec_lldpTtlExpiry_none ha rfl,
    exec_core ha exec_arpRequest rfl, exec_core ha exec_icmpEcho rfl, exec_core ha exec_igmpQuery rfl, lldp.1,
    fun off => lldp.2 (Bool.eq_false_iff.mp off), fun off => supervision.2 (Bool.eq_false_iff.mp off),
    fun prp enabled => supervision.1 (Bool.and_eq_true_iff.mpr ⟨prp, enabled⟩), down.1, fun off => down.2 (Bool.eq_false_iff.mp off),
    fun k => (exec_core ha exec_ethLinkUp rfl).trans (congrArg _ (queueOf_same rfl)), ?transmit, exec_ethTransmitEnd_idle ha,
    fun f sending => ⟨exec_ethTransmitEnd_noSlot ha sending rfl, fun k => exec_ethTransmitEnd_slot ha sending rfl⟩⟩
  case partner =>
    have expiry := exec_lldpTtlExpiry_partner ha rfl partner
    exact ⟨exec_guard_holds expiry, fun early => exec_guard_fails expiry (Nat.not_le_of_lt early)⟩
  case transmit =>
    intro len k f may
    have command := exec_ethTxCmd_eq (v := v) may rfl rfl
    refine ⟨exec_guard_holds command, fun long short free => exec_guard_fails command ?_⟩
    rintro (cut | excess | busy)
    · omega
    · omega
    · exact Bool.eq_false_iff.mp free busy

end Sys2Proof.Machine
end

/-! PROOFS. CAN and RS-485: frames received and sent, Bus Off, the host's pop and go, bytes and frames of a line (R369 to R371, R373,
R374). -/

section
namespace Sys2Proof.Machine

/-! ### CAN frames (R369) -/

/-- A bus hears where its controller is on and not in Bus Off. -/
abbrev State.hearsCan (s : State) (b : Nat) : Prop := s.flag (.CAN_CTRL_EN b) = true ∧ s.fld (.CAN_STAT_STATE b) < 2

theorem not_hearsCan_iff {s : State} {b : Nat} :
    ((!s.flag (.CAN_CTRL_EN b)) = true ∨ 2 ≤ s.fld (.CAN_STAT_STATE b)) ↔ ¬ s.hearsCan b := by
  simp only [State.hearsCan, not_and_or, Bool.not_eq_true, Bool.not_eq_true', Nat.not_lt]

section
variable {s u : State} {b : Fin 4} {ns : Nat} {xtd fd brs esi : Bool} {id : BitVec 29} {dlc : BitVec 4} {data : List Byte}
  {tec rec : BitVec 9} (ha : s.awake = true) (hu : s.at ns = u)
include ha hu

theorem exec_canFrameReceived_deaf (deaf : ¬ u.hearsCan b.val) :
    exec (.canFrameReceived b ns xtd id fd brs esi dlc data tec rec) s = .next (u.queueOf s) := by
  refine exec_core ha exec_canFrameReceived ?_
  dsimp only
  rw [hu]
  exact if_pos (not_hearsCan_iff.mpr deaf)

/-- A frame heard is counted and checked; it enters the receive queue where that has room, and is counted lost else. -/
theorem exec_canFrameReceived_hears {n : Nat} {f : CanFrame} {t : State} (hears : u.hearsCan b.val) (hn : dlcBytes fd dlc.toNat = n)
    (hf : { xtd := xtd, id := if xtd then id.toNat else id.toNat % 2048, fd := fd, brs := fd && brs, esi := fd && esi,
            dlc := dlc.toNat, data := (data ++ List.replicate n 0).take n, ts := ns } = f)
    (ht : ((u.bump (.CAN_CNT_RX b.val)).canErrors b.val tec.toNat rec.toNat).mapCheck b.val f = t) :
    exec (.canFrameReceived b ns xtd id fd brs esi dlc data tec rec) s = .next ((if 512 ≤ (t.canBus b.val).rx.length then
      t.bump (.CAN_CNT_LOST b.val) else (t.setCan b.val fun c => { c with rx := c.rx ++ [f] }).irq (0x23 + b.val) 8).queueOf s) := by
  refine exec_core ha exec_canFrameReceived ?_
  subst hn hf ht
  dsimp only
  rw [hu]
  exact if_neg (mt not_hearsCan_iff.mp (not_not_intro hears))

end

section
variable {s : State} {b : Fin 4} {r : Fin 3} {tec rec : BitVec 9} (ha : s.awake = true)
include ha

theorem exec_canTransmitEnd_idle (idle : (s.canBus b.val).sending = none) : exec (.canTransmitEnd b r tec rec) s = .next s := by
  refine exec_core_same ha exec_canTransmitEnd ?_
  dsimp only
  rw [idle]

section
variable {x : CanTx} {u : State} (sending : (s.canBus b.val).sending = some x)
  (hu : (s.setCan b.val fun c => { c with sending := none }) = u)
include sending hu

/-- A frame sent leaves the bus. -/
theorem exec_canTransmitEnd_sent : exec (.canTransmitEnd b 0 tec rec) s =
    .next ((((u.send (.can b.val x.f)).canErrors b.val tec.toNat rec.toNat).canNext b.val).queueOf s) := by
  refine exec_core ha exec_canTransmitEnd ?_
  dsimp only
  rw [sending, ← hu]
  rfl

/-- A frame in error is tried again, or dropped after its tries. -/
theorem exec_canTransmitEnd_error : exec (.canTransmitEnd b 1 tec rec) s =
    .next ((((if s.fld (.CAN_CTRL_RETRY b.val) ≤ x.tries then u.bump (.CAN_CNT_DROP b.val) else
      u.setCan b.val fun c => { c with pend := { x with tries := x.tries + 1 } :: c.pend }).canErrors b.val tec.toNat rec.toNat).canNext
        b.val).queueOf s) := by
  refine exec_core ha exec_canTransmitEnd ?_
  dsimp only
  rw [sending, ← hu]
  rfl

/-- A frame that lost the arbitration waits again, before the others. -/
theorem exec_canTransmitEnd_lost : exec (.canTransmitEnd b 2 tec rec) s =
    .next ((((u.setCan b.val fun c => { c with pend := x :: c.pend }).canErrors b.val tec.toNat rec.toNat).canNext b.val).queueOf s) := by
  refine exec_core ha exec_canTransmitEnd ?_
  dsimp only
  rw [sending, ← hu]
  rfl

end
end

/-! ### The host's pop and go (R371, R373) -/

theorem irq_basin (s : State) (p k : Nat) : (s.irq p k).basin = s.basin := irq_keeps State.basin (fun _ _ _ => rfl) fun _ _ => rfl

theorem irq_canBus (s : State) (p k b : Nat) : (s.irq p k).canBus b = s.canBus b :=
  irq_keeps (fun t => t.canBus b) (fun _ _ _ => rfl) fun _ _ => rfl

/-- A bus reads back as it was set. -/
theorem setCan_same {s : State} (b : Nat) (f : Can → Can) (wf : Sparse.wf (fun _ => ({} : Can)) s.net.can = true) :
    (s.setCan b f).canBus b = f (s.canBus b) := sparse_at_put_same wf

section
variable {s : State} {b : Fin 4} {v : Word} (may : s.hostMay (0x23 + b.val) = true)
include may

theorem exec_canRxPop_noGo (noGo : v.getLsbD 0 = false) : exec (.canRxPop b v) s = .next s :=
  exec_host_same may exec_canRxPop (if_neg (Bool.eq_false_iff.mp noGo))

/-- The oldest frame leaves the receive queue; the interrupt comes again while frames are left. -/
theorem exec_canRxPop_pops {t : State} (go : v.getLsbD 0 = true) (ht : (s.setCan b.val fun c => { c with rx := c.rx.tail }) = t) :
    exec (.canRxPop b v) s = .next ((if (t.canBus b.val).rx.isEmpty then t else t.irq (0x23 + b.val) 8).queueOf s) := by
  subst ht
  exact exec_host may exec_canRxPop (if_pos go)

theorem canRxPop_reads (go : v.getLsbD 0 = true) (wf : Sparse.wf (fun _ => ({} : Can)) s.net.can = true) :
    ∃ t, exec (.canRxPop b v) s = .next t ∧ (t.canBus b.val).rx = (s.canBus b.val).rx.tail ∧
      (t.canBus b.val).pend = (s.canBus b.val).pend ∧ t.basin = s.basin := by
  have popped := setCan_same b.val (fun c => { c with rx := c.rx.tail }) wf
  have raised (t : State) (c : Bool) : ((if c then t else t.irq (0x23 + b.val) 8).queueOf s).canBus b.val = t.canBus b.val ∧
      ((if c then t else t.irq (0x23 + b.val) 8).queueOf s).basin = t.basin := by
    cases c
    · exact ⟨irq_canBus .., irq_basin ..⟩
    · exact ⟨rfl, rfl⟩
  obtain ⟨bus, basin⟩ := raised (s.setCan b.val fun c => { c with rx := c.rx.tail }) ((s.setCan b.val fun c =>
    { c with rx := c.rx.tail }).canBus b.val).rx.isEmpty
  exact ⟨_, exec_canRxPop_pops may go rfl, by rw [bus, popped], by rw [bus, popped], basin⟩

/-- A command without GO writes the flags of the register alone; with GO a frame of the host enters the transmit queue, 16 deep. -/
theorem exec_canTxGo_noGo (noGo : v.getLsbD 31 = false) : exec (.canTxGo b v) s =
    .next ((s.store (· == .rw) (0x230C4 + 0x1000 * b.val) (v &&& 0x7FFFFFFF#32)).queueOf s) :=
  exec_host may exec_canTxGo (if_pos (by rw [show bitOf v.toNat 31 = false from noGo]; rfl))

theorem exec_canTxGo_go (go : v.getLsbD 31 = true) : exec (.canTxGo b v) s = .next
    ((if 16 ≤ (((s.canBus b.val).pend ++ (s.canBus b.val).sending.toList).filter fun x => !x.map).length then
      s.refuse (0x23 + b.val) 0xB6 (0x230C4 + 0x1000 * b.val)
      else (s.store (· == .rw) (0x230C4 + 0x1000 * b.val) (v &&& 0x7FFFFFFF#32)).canQueue b.val
        { map := false, f := s.hostCan b.val (v &&& 0x7FFFFFFF#32) }).queueOf s) :=
  exec_host may exec_canTxGo (if_neg (by rw [show bitOf v.toNat 31 = true from go]; decide))

end

/-! ### RS-485 (R374) -/

section
variable {s : State} {b : Fin 4} {v : Word}

section
variable {n due : Nat} (may : s.hostMay (0x27 + b.val) = true)
include may

theorem exec_serTxCmd_busy (busy : s.flag (.SER_STAT_BUSY b.val) = true) : exec (.serTxCmd b v) s =
    .next ((s.refuse (0x27 + b.val) 0xB1 (0x2705C + 0x1000 * b.val)).queueOf s) :=
  exec_host may exec_serTxCmd (if_pos busy)

variable (free : s.flag (.SER_STAT_BUSY b.val) = false) (hn : (Fd.SER_TX_CMD_LEN b.val).of v = n)
include free hn

/-- A bad length or a line that is off sends nothing. -/
theorem exec_serTxCmd_ignored (bad : n = 0 ∨ 4096 < n ∨ s.flag (.SER_CTRL_EN b.val) = false) : exec (.serTxCmd b v) s = .next s := by
  subst hn
  exact exec_host_same may exec_serTxCmd ((if_neg (Bool.eq_false_iff.mp free)).trans (if_pos (by simpa using bad)))

/-- The bytes are taken at the command, and start at once or at their time. -/
theorem exec_serTxCmd_takes (hdue : (if bitOf v.toNat 31 then s.get64 (0x27060 + 0x1000 * b.val) (0x27064 + 0x1000 * b.val) else 0) = due)
    (on : s.flag (.SER_CTRL_EN b.val) = true) (some_ : 1 ≤ n) (fits : n ≤ 4096) : exec (.serTxCmd b v) s = .next
      ((((s.setSer b.val fun y => { y with tx := some (s.reqReadBytes (s.fld (.SER_TX_BASE b.val)) n), started := false, due := due }).putB
        (.SER_STAT_BUSY b.val) true).serStart b.val).queueOf s) := by
  subst hn hdue
  exact exec_host may exec_serTxCmd ((if_neg (Bool.eq_false_iff.mp free)).trans (if_neg (by simp [on]; omega)))

end

/-- A line hears where it is on and does not send. -/
abbrev State.hearsSer (s : State) (l : Nat) : Prop := s.flag (.SER_CTRL_EN l) = true ∧ (s.serLine l).started = false

theorem not_hearsSer_iff {s : State} {l : Nat} :
    ((!s.flag (.SER_CTRL_EN l)) = true ∨ (s.serLine l).started = true) ↔ ¬ s.hearsSer l := by
  simp only [State.hearsSer, not_and_or, Bool.not_eq_true, Bool.not_eq_true', Bool.not_eq_false]

section
variable {u : State} {ns : Nat} {c : Byte} {parity framing brk : Bool} (ha : s.awake = true) (hu : s.at ns = u)
include ha hu

theorem exec_serByteReceived_deaf (deaf : ¬ u.hearsSer b.val) :
    exec (.serByteReceived b ns c parity framing brk) s = .next (u.queueOf s) := by
  refine exec_core ha exec_serByteReceived ?_
  dsimp only
  rw [hu]
  exact if_pos (not_hearsSer_iff.mpr deaf)

/-- A byte's start, half the frame before its instant. -/
def State.serStartOf (u : State) (l : Nat) : Nat := u.now - u.serFrame l * u.serBit l / 2

/-- The gap that comes before a byte: the line idle for the time of the gap, or never heard before. -/
def State.serGapBefore (u : State) (l : Nat) : Bool := match (u.serLine l).lastRx with
  | some (_, e) => decide (2 * e + u.serGap l ≤ 2 * u.serStartOf l)
  | none => true

/-- A byte heard enters the ring with its marks, its errors counted. -/
def State.serHeard (u : State) (l : Nat) (c : Byte) (parity framing brk : Bool) (gap : Nat) : State :=
  let t := u.setSer l fun y => { y with lastRx := some (u.serStartOf l, u.now) }
  let w := if parity then t.bump (.SER_STAT_PARITY l) else t
  let x := if framing then w.bump (.SER_STAT_FRAMING l) else w
  x.serRing l (c.toNat + 256 * b2n parity + 512 * b2n framing + 1024 * gap + 2048 * b2n brk + 65536 * (u.now % 2 ^ 48))

theorem exec_serByteReceived_hears (hears : u.hearsSer b.val) : exec (.serByteReceived b ns c parity framing brk) s =
    .next ((u.serHeard b.val c parity framing brk (b2n (u.serGapBefore b.val))).queueOf s) := by
  refine exec_core ha exec_serByteReceived ?_
  dsimp only
  rw [hu]
  exact (if_neg (mt not_hearsSer_iff.mp (not_not_intro hears))).trans rfl

end

/-! The mark of the gap in the ring's entry. -/

theorem serGapBefore_first {u : State} {l : Nat} (first : (u.serLine l).lastRx = none) : b2n (u.serGapBefore l) = 1 := by
  rw [State.serGapBefore, first, b2n, if_pos rfl]

section
variable {u : State} {l x e : Nat} (last : (u.serLine l).lastRx = some (x, e))
include last

theorem serGapBefore_long (long : 2 * e + u.serGap l ≤ 2 * u.serStartOf l) : b2n (u.serGapBefore l) = 1 := by
  rw [State.serGapBefore, last]
  exact if_pos (decide_eq_true long)

theorem serGapBefore_short (short : 2 * u.serStartOf l < 2 * e + u.serGap l) : b2n (u.serGapBefore l) = 0 := by
  rw [State.serGapBefore, last]
  exact if_neg (mt of_decide_eq_true (Nat.not_le_of_lt short))

end

end

/-- Settles O57: a frame by whether the bus hears it and has room, the end of a transmission by its result, the host's commands by the
queues, a byte by whether the line hears it and by the gap before it. -/
theorem fieldBusEvents : Obligations.FieldBusEvents := by
  unfold Obligations.FieldBusEvents
  intro s b ns tec rec v ha runs same u
  refine ⟨fun xtd fd brs esi id dlc data => ?received, fun r => exec_canTransmitEnd_idle ha, fun x sending => ?ends, ?busOff, ?recovery,
    fun may => ⟨⟨fun go => ?empty, fun go => ?more⟩, canRxPop_reads may, exec_canRxPop_noGo may, ?go⟩, fun may => ?command,
    exec_core ha exec_serTxTimeReached rfl, ?sent, ?idle, fun c parity framing brk => ?byte⟩
  case received =>
    intro i hears n f t
    have heard (h : hears) : exec i s = .next ((if 512 ≤ (t.canBus b.val).rx.length then t.bump (.CAN_CNT_LOST b.val)
        else (t.setCan b.val fun c => { c with rx := c.rx ++ [f] }).irq (0x23 + b.val) 8).queueOf s) :=
      exec_canFrameReceived_hears ha rfl h rfl rfl rfl
    exact ⟨exec_canFrameReceived_deaf ha rfl, fun h room => exec_guard_fails (heard h) (Nat.not_le_of_lt room),
      fun h full => exec_guard_holds (heard h) full⟩
  case ends =>
    intro w ends
    have error := exec_canTransmitEnd_error (tec := tec) (rec := rec) ha sending rfl
    refine ⟨exec_canTransmitEnd_sent ha sending rfl, fun again => ?_, fun last => ?_, exec_canTransmitEnd_lost ha sending rfl⟩
    · rw [if_neg (Nat.not_le_of_lt again)] at error
      exact error
    · rw [if_pos last] at error
      exact error
  case busOff => exact exec_core_guard ha exec_busOff rfl
  case recovery => exact exec_core_guard ha exec_busOffRecovery rfl
  case empty =>
    exact fun none_ => exec_guard_holds (exec_canRxPop_pops may go rfl) (List.isEmpty_iff.mpr none_)
  case more =>
    exact fun some_ => exec_guard_fails (exec_canRxPop_pops may go rfl) (mt List.isEmpty_iff.mp some_)
  case go =>
    exact ⟨fun go full => exec_guard_holds (exec_canTxGo_go may go) full,
      fun go room => exec_guard_fails (exec_canTxGo_go may go) (Nat.not_le_of_lt room), exec_canTxGo_noGo may⟩
  case command =>
    exact ⟨exec_serTxCmd_busy may, fun free => exec_serTxCmd_ignored may free rfl, fun free => exec_serTxCmd_takes may free rfl rfl⟩
  case sent => exact fun started => exec_core ha exec_serTransmitEnd (if_pos started)
  case idle => exact fun idle => exec_core_same ha exec_serTransmitEnd (if_neg (Bool.eq_false_iff.mp idle))
  case byte =>
    intro i start takes hears
    have heard (h : hears) {gap : Nat} (before : b2n (u.serGapBefore b.val) = gap) : takes gap :=
      before ▸ exec_serByteReceived_hears ha rfl h
    exact ⟨exec_serByteReceived_deaf ha rfl, fun h first => heard h (serGapBefore_first first),
      fun x e h last => ⟨fun long => heard h (serGapBefore_long last long), fun short => heard h (serGapBefore_short last short)⟩⟩

end Sys2Proof.Machine
end

/-! PROOFS. The host's ports: the Basin through BAR 2, the vectors' re-arm, the SPI port, the xSPI operations and board management (R378,
R379, R381, R382). -/

section
namespace Sys2Proof.Machine

/-! ### The vectors and the SPI port (R378, R379) -/

section
variable {s : State}

/-- Each vector written 1 that is still active sends its message again. -/
theorem exec_hifRearm_eq {v : Word} (may : s.hostMay 0x2B = true) : exec (.hifRearm v) s = .next
    ((forN 32 (fun k t => if bitOf v.toNat k && t.vecActive k then t.send (.msix k) else t) s).queueOf s) := by
  refine exec_host may exec_hifRearm (congrArg (forN 32 · s) (funext fun k => funext fun t => ?_))
  exact if_congr Bool.and_eq_true_iff.symm rfl rfl

section
variable {bs : List Byte} {w : Fin 65} {ue : Option (Fin 64)} (ha : s.awake = true)
include ha

/-- A transaction without a whole header does nothing. -/
theorem exec_hostSpiTransaction_short (short : bs.length < 6) : exec (.hostSpiTransaction bs w ue) s = .next s :=
  exec_core_same ha exec_hostSpiTransaction (if_pos short)

variable (whole : 6 ≤ bs.length)
include whole

/-- A wrong header CRC is counted, and answered by the status alone. -/
theorem exec_hostSpiTransaction_badCrc (wrong : crc8 (bs.take 5) ≠ byteAt bs 5) : exec (.hostSpiTransaction bs w ue) s = .next
    ((((s.bump .HIF_SPI_CNT_FRAMES).bump .HIF_SPI_CNT_CRC).send (.spi [spiStatus true false false false false])).queueOf s) :=
  exec_core ha exec_hostSpiTransaction ((if_neg (Nat.not_lt_of_le whole)).trans (if_pos wrong))

theorem exec_hostSpiTransaction_good (right : crc8 (bs.take 5) = byteAt bs 5) : exec (.hostSpiTransaction bs w ue) s = .next
    ((if (spiHead bs).rd then (s.bump .HIF_SPI_CNT_FRAMES).spiReadTrans (spiHead bs) w.val ue
      else (s.bump .HIF_SPI_CNT_FRAMES).spiWriteTrans (spiHead bs) (bs.drop 6)).queueOf s) :=
  exec_core ha exec_hostSpiTransaction ((if_neg (Nat.not_lt_of_le whole)).trans (if_neg (not_not_intro right)))

end

/-! ### xSPI operations and board management (R381, R382) -/

section
variable {ok : Bool} (ha : s.awake = true)
include ha

theorem exec_ospDone_idle (idle : s.net.xspiOp = none) : exec (.ospDone ok) s = .next s := by
  refine exec_core_same ha exec_ospDone ?_
  dsimp only
  rw [idle]

/-- The end of an operation shows its result. -/
theorem exec_ospDone_ends {o : XspiOp} (running : s.net.xspiOp = some o) : exec (.ospDone ok) s = .next
    (((((((s.ospRun o ok).setNet fun x => { x with xspiOp := none }).putB .OSP_STAT_BUSY false).putB .OSP_STAT_ERR (!ok)).putB
      .OSP_STAT_DONE true).irq 0x2C 8).queueOf s) := by
  refine exec_core ha exec_ospDone ?_
  dsimp only
  rw [running]

end

section
variable {v : Word} {t : State} (may : s.hostMay 0x2D = true)
include may

theorem exec_bmiXfer_busy (busy : s.flag .BMI_XSTAT_BUSY = true) : exec (.bmiXfer v) s = .next s :=
  exec_host_same may exec_bmiXfer (if_pos busy)

/-- A transfer of the host waits for the bus; without GO the register alone is written. -/
theorem exec_bmiXfer_free (free : s.flag .BMI_XSTAT_BUSY = false) (ht : s.store (· == .rw) 0x2D0C0 (v &&& 0x7FFFFFFF#32) = t) :
    exec (.bmiXfer v) s = .next ((if v.getLsbD 31 then
      ((t.setBmi fun x => { x with waiting := true }).putB .BMI_XSTAT_BUSY true).bmiNext else t).queueOf s) := by
  subst ht
  exact exec_host may exec_bmiXfer (if_neg (Bool.eq_false_iff.mp free))

end

section
variable {f : Fin 5} {bs : List Byte} (ha : s.awake = true)
include ha

theorem exec_bmiTransferEnd_idle (idle : s.net.bmi.running = none) : exec (.bmiTransferEnd f bs) s = .next s := by
  refine exec_core_same ha exec_bmiTransferEnd ?_
  dsimp only
  rw [idle]

/-- What the end of a transfer leaves: 0 to 15 a poll's, 16 to 31 the exponent of a poll's regulator, 32 the host's. -/
def State.bmiEnded (s t : State) (k fail : Nat) (bs : List Byte) : State :=
  if k = 32 then
    let u := (t.putB .BMI_XSTAT_BUSY false).put .BMI_XSTAT_FAIL fail
    if fail = 0 ∧ s.flag .BMI_XFER_RD then u.put .BMI_XDATA_DATA (leNat (bs.take (s.fld .BMI_XFER_N + 1))) else u
  else if 16 ≤ k then
    (if fail = 0 then t.setBmi fun x => { x with expo := Sparse.put none x.expo (k - 16) (some (signed 5 (fieldAt bs 0 1 % 32))) } else t)
  else if fail = 0 then t.pollValue k bs
  else t.pollFail k fail

theorem exec_bmiTransferEnd_ends {k : Nat} {t u : State} (running : s.net.bmi.running = some k)
    (ht : (s.setBmi fun x => { x with running := none }) = t) (hu : s.bmiEnded t k f.val bs = u) :
    exec (.bmiTransferEnd f bs) s = .next (u.bmiNext.queueOf s) := by
  subst ht hu
  refine exec_core ha exec_bmiTransferEnd ?_
  dsimp only
  rw [running]
  rfl

end

end

/-! What a transfer's end leaves, by its requester. -/

section
variable {s t : State} {k fail : Nat} {bs : List Byte}

section
variable (poll : k < 16)
include poll

theorem bmiEnded_pollFails (fails : 1 ≤ fail) : s.bmiEnded t k fail bs = t.pollFail k fail :=
  (if_neg (by omega)).trans ((if_neg (by omega)).trans (if_neg (by omega)))

theorem bmiEnded_pollValue (good : fail = 0) : s.bmiEnded t k fail bs = t.pollValue k bs :=
  (if_neg (by omega)).trans ((if_neg (by omega)).trans (if_pos good))

end

section
variable (regulator : 16 ≤ k) (notHost : k ≠ 32)
include regulator notHost

theorem bmiEnded_exponent (good : fail = 0) : s.bmiEnded t k fail bs = t.setBmi fun x =>
    { x with expo := Sparse.put none x.expo (k - 16) (some (signed 5 (fieldAt bs 0 1 % 32))) } :=
  (if_neg notHost).trans ((if_pos regulator).trans (if_pos good))

theorem bmiEnded_noExponent (fails : 1 ≤ fail) : s.bmiEnded t k fail bs = t :=
  (if_neg notHost).trans ((if_pos regulator).trans (if_neg (by omega)))

end

section
variable {u : State} (host : k = 32) (hu : (t.putB .BMI_XSTAT_BUSY false).put .BMI_XSTAT_FAIL fail = u)
include host hu

theorem bmiEnded_hostData (good : fail = 0) (reads : s.flag .BMI_XFER_RD = true) :
    s.bmiEnded t k fail bs = u.put .BMI_XDATA_DATA (leNat (bs.take (s.fld .BMI_XFER_N + 1))) := by
  subst hu
  exact (if_pos host).trans (if_pos ⟨good, reads⟩)

theorem bmiEnded_hostNoData (h : 1 ≤ fail ∨ s.flag .BMI_XFER_RD = false) : s.bmiEnded t k fail bs = u := by
  subst hu
  refine (if_pos host).trans (if_neg fun ⟨good, reads⟩ => ?_)
  rcases h with fails | writes
  · omega
  · exact Bool.eq_false_iff.mp writes reads

end
end

/-- Settles O58: a transaction by its header, an operation by whether one runs, a transfer's end by its requester and its result. -/
theorem hostPorts : Obligations.HostPorts := by
  unfold Obligations.HostPorts
  intro s a bs v w ue n ok ha runs same
  refine ⟨exec_core ha exec_bar2Access rfl, fun ecc => exec_core ha exec_bar2Access rfl, exec_hifRearm_eq,
    exec_hostSpiTransaction_short ha, ?spi, fun may => ⟨exec_host may exec_ospRead rfl, exec_host may exec_ospProgram rfl,
      exec_host may exec_ospErase rfl⟩, exec_ospDone_idle ha, fun o => exec_ospDone_ends ha, fun e => exec_core_guard ha exec_bmiPoll rfl,
    fun may => ?transfer, fun f => exec_bmiTransferEnd_idle ha, fun f k running => ?ends⟩
  case spi =>
    intro t whole
    have good := exec_hostSpiTransaction_good (w := w) (ue := ue) ha whole
    exact ⟨exec_hostSpiTransaction_badCrc ha whole, fun right reads => exec_guard_holds (good right) reads,
      fun right writes => exec_guard_fails (good right) (Bool.eq_false_iff.mp writes)⟩
  case transfer =>
    have free (f : s.flag .BMI_XSTAT_BUSY = false) := exec_bmiXfer_free (v := v) may f rfl
    exact ⟨exec_bmiXfer_busy may, fun f go => exec_guard_holds (free f) go,
      fun f noGo => exec_guard_fails (free f) (Bool.eq_false_iff.mp noGo)⟩
  case ends =>
    intro t ends
    have ended {u : State} (hu : s.bmiEnded t k f.val bs = u) : ends u := exec_bmiTransferEnd_ends ha running rfl hu
    exact ⟨fun poll fails => ended (bmiEnded_pollFails poll fails), fun poll good => ended (bmiEnded_pollValue poll good),
      fun reg other good => ended (bmiEnded_exponent reg other good), fun reg other fails => ended (bmiEnded_noExponent reg other fails),
      fun host => ⟨fun good reads => ended (bmiEnded_hostData host rfl good reads), fun h => ended (bmiEnded_hostNoData host rfl h)⟩⟩

end Sys2Proof.Machine
end

/-! PROOFS. The Sediment and wear: records at their instants, batches, the host's reader, the crystals' margins and the plan of the day
(R394, R395, R397, R402, R411). -/

section
namespace Sys2Proof.Machine

/-! ### The crystals' margins (R411) -/

/-- The main crystal's margin against its first mean; the first valid mean outside Holdover is kept. -/
def State.mainMargin (s : State) (a : Int) : State :=
  if s.flag .PTP_STAT_HOLD then s
  else match s.wear.xtalFirst with
    | some f => s.setMargin 7 (marginOf 20000 (a - f).natAbs) 0
    | none => if s.flag .PTP_STAT_VALID then (s.setWear fun x => { x with xtalFirst := some a }).setMargin 7 100 0 else s

/-- The Spring crystal's hourly mean as the monitor and its margin show it. -/
def State.springMargin (t : State) (b : Int) : State :=
  (t.sample 0x03 2 0 (twos 32 b)).setMargin 8 (marginOf 20000 (b - Config.springFirst).natAbs) 0

section
variable {s : State} {a : Int}

theorem mainMargin_holdover (hold : s.flag .PTP_STAT_HOLD = true) : s.mainMargin a = s := if_pos hold

variable (free : s.flag .PTP_STAT_HOLD = false)
include free

theorem mainMargin_later {f : Int} (first : s.wear.xtalFirst = some f) :
    s.mainMargin a = s.setMargin 7 (marginOf 20000 (a - f).natAbs) 0 := by
  rw [State.mainMargin, if_neg (Bool.eq_false_iff.mp free), first]

theorem mainMargin_first (noFirst : s.wear.xtalFirst = none) : s.mainMargin a = if s.flag .PTP_STAT_VALID then
    (s.setWear fun x => { x with xtalFirst := some a }).setMargin 7 100 0 else s := by
  rw [State.mainMargin, if_neg (Bool.eq_false_iff.mp free), noFirst]

end

theorem exec_crystalHourlyMean_of {s t : State} {a b : Int} (ha : s.awake = true) (main : s.mainMargin a = t) :
    exec (.crystalHourlyMean a b) s = .next ((t.springMargin b).queueOf s) := by
  subst main
  exact exec_core ha exec_crystalHourlyMean rfl

/-! ### The plan of the day (R413) -/

/-- The modes in which the plan of the day may run. -/
abbrev State.mayPlan (s : State) : Prop := s.awake = true ∧ (s.mode = .commission ∨ s.live = true ∨ s.mode = .safe)

/-- The plan's second of the day, or its late instant, has come. -/
abbrev State.planDue (s : State) : Prop :=
  s.now / 1000000000 % 86400 = s.planSecond ∨ (s.wear.planLate = true ∧ ∃ t, s.wear.planAt = some t ∧ t ≤ s.now)

theorem mayPlan_iff {s : State} : (!(s.awake && (s.mode == .commission || s.live || s.mode == .safe))) = true ↔ ¬ s.mayPlan := by
  simp [State.mayPlan, and_assoc, not_and_or, -not_and]

/-- Does a plan that fell outside its modes come now? -/
def State.planLateNow (s : State) : Bool := match s.wear.planAt with
  | some t => s.wear.planLate && decide (t ≤ s.now)
  | none => false

theorem planLateNow_iff {s : State} :
    s.planLateNow = true ↔ s.wear.planLate = true ∧ ∃ t, s.wear.planAt = some t ∧ t ≤ s.now := by
  unfold State.planLateNow
  cases s.wear.planAt <;> simp

theorem exec_dailyPlan_eq {s : State} {l : List Nat} {b : Fin 16} {n : Nat} {r t : List (Option Nat)} {c : Option Nat} :
    exec (.dailyPlan l b n r t c) s = .next ((if (!s.flag .WER_CTRL_EN) = true then s
      else if ¬ s.mayPlan then s.setWear fun x => { x with planLate := true, planAt := none }
      else if s.planDue then s.plan l b.val n r t c else s).queueOf s) :=
  exec_work exec_dailyPlan (if_congr Iff.rfl rfl (if_congr mayPlan_iff rfl (if_congr (or_congr_right planLateNow_iff) rfl rfl)))

section
variable {s : State} {l : List Nat} {b : Fin 16} {n : Nat} {r t : List (Option Nat)} {c : Option Nat}

theorem exec_dailyPlan_off (off : s.flag .WER_CTRL_EN = false) : exec (.dailyPlan l b n r t c) s = .next s :=
  exec_guard_holds exec_dailyPlan_eq (by rw [off]; rfl)

variable (on : s.flag .WER_CTRL_EN = true)
include on

/-- A plan that falls outside the modes that allow it is late. -/
theorem exec_dailyPlan_late (mayNot : ¬ s.mayPlan) : exec (.dailyPlan l b n r t c) s =
    .next ((s.setWear fun x => { x with planLate := true, planAt := none }).queueOf s) :=
  exec_guard_holds (exec_guard_fails exec_dailyPlan_eq (by rw [on]; decide)) mayNot

theorem exec_dailyPlan_may (may : s.mayPlan) : exec (.dailyPlan l b n r t c) s =
    .next ((if s.planDue then s.plan l b.val n r t c else s).queueOf s) :=
  exec_guard_fails (exec_guard_fails exec_dailyPlan_eq (by rw [on]; decide)) (not_not_intro may)

end

/-- Settles O59: the records by their instants, the reader by whether it is busy, the main crystal's margin by its first mean, the plan of
the day by its modes and its second. -/
theorem sedimentAndWear : Obligations.SedimentAndWear := by
  unfold Obligations.SedimentAndWear
  intro s runs same
  refine ⟨fun ha => ⟨fun code act src v => exec_core ha exec_recordProduce rfl, exec_core ha exec_recordDurable rfl, ?records⟩,
    fun may => ⟨fun busy => exec_host may exec_sedRdGo (if_pos busy),
      fun free => exec_host may exec_sedRdGo (if_neg (Bool.eq_false_iff.mp free))⟩, fun l b n r t c => ?plan⟩
  case records =>
    have summary := exec_core_guard (i := .summaryInterval) ha exec_summaryInterval rfl
    have health := exec_core_guard (i := .healthRecord) ha exec_healthRecord rfl
    have reader := exec_core_guard (i := .sedRdDone) ha exec_sedRdDone rfl
    refine ⟨summary.1, summary.2, health.1, health.2, fun f => exec_core ha exec_batchMove rfl, exec_core ha exec_foldRelease rfl,
      reader.1, fun idle => reader.2 (Bool.eq_false_iff.mp idle), fun a b => ?_⟩
    intro shows
    have mean {t : State} (main : s.mainMargin a = t) : shows t := exec_crystalHourlyMean_of ha main
    exact ⟨fun hold => mean (mainMargin_holdover hold), fun free => ⟨fun f first => mean (mainMargin_later free first),
      fun first valid => mean ((mainMargin_first free first).trans (if_pos valid)),
      fun first invalid => mean ((mainMargin_first free first).trans (if_neg (Bool.eq_false_iff.mp invalid)))⟩⟩
  case plan =>
    exact ⟨exec_dailyPlan_off, fun on may due => exec_guard_holds (exec_dailyPlan_may on may) due,
      fun on may early => exec_guard_ignored (exec_dailyPlan_may on may) early, exec_dailyPlan_late⟩

end Sys2Proof.Machine
end
